-- ==== Sys2Proof/Word.lean ====
section
/-! DEFINITION. The words the manual treats as bits: bytes, cut tags, feed sequences and station
numbers, and their plainest conversions. -/

namespace Sys2Proof

/-- One byte of a frame or of the configuration image (chapter 12). -/
abbrev Byte := BitVec 8

/-- The yard computer's number for a cut, 0 to 65535 (R2). -/
abbrev Tag := BitVec 16

/-- A feed sequence, 0 to 255, counted modulo 256 (R18, R19). -/
abbrev Seq := BitVec 8

/-- The origin station of a frame header, six bits (R142). -/
abbrev Station := BitVec 6

/-- A count written into one byte of a frame. -/
def byteOf (n : Nat) : Byte := BitVec.ofNat 8 n

end Sys2Proof
end

