-- ==== Sys2Proof/Syntax.lean ====
section
/-! DEFINITION. The commands of the block: one constructor of `Instr` for each row of
spec/opcode_table.json, with the operands the row's rule gives it. A frame that is heard carries the
origin of its header and its payload as chapter 12 lays it out, each field as it stands on the wire,
so that a value outside its range reaches the rule that deals with it (R169). -/

namespace Sys2Proof

/-- One of a node's four slots (R34). -/
abbrev SlotIx := Fin 4

/-- The number of a record in the pool (chapter 1). -/
abbrev RecIx := Fin 64

/-- One of the two ways out of a point. -/
inductive Leg where
  | normal
  | reverse
  deriving DecidableEq, Repr

/-- The three wheel sensors of a slot (R59). -/
inductive Sensor where
  | commit
  | exitNormal
  | exitReverse
  deriving DecidableEq, Repr

/-- The direction an axle event carries (R59). -/
inductive Direction where
  | forward
  | backward
  deriving DecidableEq, Repr

/-- Where a handoff context stands when its reply timer expires: in a passage of a zone list, counted
from the oldest, or in the wait list, counted from the oldest entry (R63, R90). -/
inductive ContextPlace where
  | zone (slot : SlotIx) (index : Nat)
  | wait (index : Nat)
  deriving DecidableEq, Repr

/-- The payload of a HANDOFF frame (section 12.2). -/
structure HandoffPayload where
  target : Byte
  targetSlot : BitVec 4
  sourceSlot : BitVec 3
  sourceLeg : Leg
  seq : Seq
  tag : Tag
  destination : Byte
  originalDestination : Byte
  expectedAxles : Byte
  cutClass : Byte
  flags : BitVec 16
  companionTag : Tag
  companionDestination : Byte
  deriving DecidableEq, Repr

/-- The payload of a HANDOFF_REPLY frame (section 12.2). -/
structure ReplyPayload where
  target : Byte
  slot : Byte
  seq : Seq
  tag : Tag
  result : Byte
  deriving DecidableEq, Repr

/-- The payload of a CUT_ENTRY frame (section 12.2). -/
structure CutEntryPayload where
  target : Byte
  tag : Tag
  destination : Byte
  expectedAxles : Byte
  cutClass : Byte
  inspect : Byte
  deriving DecidableEq, Repr

/-- The commands of the Sarimo 412, in the order of the table. -/
inductive Instr where
  /-- RESET (R162): the reset line is asserted. -/
  | reset
  /-- RESET_RELEASE (R162): the reset line is released. -/
  | resetRelease
  /-- IMAGE_READ (R164): the read of the serial memory completes; the bytes it answered from its first. -/
  | imageRead (memory : List Byte)
  /-- CENSUS_AXLE (R166): a wheel sensor reports an axle during the census. -/
  | censusAxle (slot : SlotIx) (sensor : Sensor) (direction : Direction)
  /-- CENSUS_END (R167): 2 s have passed since entry into CENSUS. -/
  | censusEnd
  /-- COMMIT_AXLE_FORWARD (R64). -/
  | commitAxleForward (slot : SlotIx)
  /-- COMMIT_AXLE_BACKWARD (R76). -/
  | commitAxleBackward (slot : SlotIx)
  /-- EXIT_AXLE_FORWARD (R72). -/
  | exitAxleForward (slot : SlotIx) (leg : Leg)
  /-- EXIT_AXLE_BACKWARD (R75). -/
  | exitAxleBackward (slot : SlotIx) (leg : Leg)
  /-- DETECTION_CHANGE (R41): one detection input takes a new level. -/
  | detectionChange (slot : SlotIx) (input : Leg) (asserted : Bool)
  /-- FOULING_OCCUPIED (R51). -/
  | foulingOccupied (slot : SlotIx)
  /-- FOULING_CLEAR (R80). -/
  | foulingClear (slot : SlotIx)
  /-- CREST_AXLE (R117). -/
  | crestAxle
  /-- GAP_EXPIRY (R68): of the passage at this place in the zone list, oldest 0. -/
  | gapExpiry (slot : SlotIx) (index : Nat)
  /-- STALL_EXPIRY (R82): of the passage at this place in the zone list, oldest 0. -/
  | stallExpiry (slot : SlotIx) (index : Nat)
  /-- GHOST_EXPIRY (R81). -/
  | ghostExpiry (slot : SlotIx)
  /-- OVERDUE_EXPIRY (R28): of the queued record with this feed sequence. -/
  | overdueExpiry (slot : SlotIx) (seq : Seq)
  /-- THROW_DEADLINE (R49). -/
  | throwDeadline (slot : SlotIx)
  /-- PAUSE_END (R49). -/
  | pauseEnd (slot : SlotIx)
  /-- REPLY_TIMEOUT (R91): of the handoff context at this place. -/
  | replyTimeout (place : ContextPlace)
  /-- RELEASE_INTERVAL_END (R124). -/
  | releaseIntervalEnd
  /-- PERIOD_TIMER_EXPIRY (R132). -/
  | periodTimerExpiry
  /-- SILENCE_DEADLINE (R136): of the roster entry for this station. -/
  | silenceDeadline (station : Nat)
  /-- MUTE_RETRY_EXPIRY (R151). -/
  | muteRetryExpiry
  /-- TRANSMIT_ATTEMPT (R150): the bus is idle, and the port may start the head of its queue. -/
  | transmitAttempt
  /-- ARBITRATION_LOST (R144). -/
  | arbitrationLost
  /-- TRANSMIT_ERROR (R150). -/
  | transmitError
  /-- FRAME_SENT (R150). -/
  | frameSent
  /-- FRAME_DISCARDED (R143): the bits heard from the start bit on, dominant false, recessive true. -/
  | frameDiscarded (bits : List Bool)
  /-- FRAME_NOT_TAKEN (R146): a valid frame from this origin that no block takes. -/
  | frameNotTaken (origin : Station)
  /-- START (R168). -/
  | start (origin : Station) (role slotCount : Byte) (imageSum : BitVec 16)
  /-- HOLD_STATE (R137). -/
  | holdState (origin : Station) (mask nodeState : Byte)
  /-- HANDOFF (R98). -/
  | handoff (origin : Station) (payload : HandoffPayload)
  /-- HANDOFF_REPLY (R93). -/
  | handoffReply (origin : Station) (payload : ReplyPayload)
  /-- CUT_ENTRY (R109). -/
  | cutEntry (origin : Station) (payload : CutEntryPayload)
  /-- ENTRY_WITHDRAW (R110). -/
  | entryWithdraw (origin : Station) (target : Byte) (tag : Tag)
  /-- LIST_CLEAR (R111). -/
  | listClear (origin : Station) (target : Byte)
  /-- RELEASE_ONE (R112). -/
  | releaseOne (origin : Station) (target : Byte) (tag : Tag)
  /-- TRACK_CLOSE (R114). -/
  | trackClose (origin : Station) (target track substitute : Byte)
  /-- TRACK_OPEN (R115). -/
  | trackOpen (origin : Station) (target track : Byte)
  /-- RESTART_ACK (R139). -/
  | restartAck (origin : Station) (target station : Byte)
  /-- SLOT_BLOCK (R56). -/
  | slotBlock (origin : Station) (target slot : Byte)
  /-- SLOT_FREE (R57). -/
  | slotFree (origin : Station) (target slot : Byte)
  /-- SLOT_FLUSH (R30). -/
  | slotFlush (origin : Station) (target slot : Byte)
  /-- INCIDENT_CLEAR (R155). -/
  | incidentClear (origin : Station) (target : Byte)
  /-- WATCH_SET (R157). -/
  | watchSet (origin : Station) (target : Byte) (tag : Tag)
  /-- WATCH_CLEAR (R157). -/
  | watchClear (origin : Station) (target : Byte) (tag : Tag)
  /-- STATUS_QUERY (R161). -/
  | statusQuery (origin : Station) (target : Byte)
  /-- BUS_IDLE (R142): the bus has been recessive for 10 bit times. -/
  | busIdle
  deriving DecidableEq, Repr

end Sys2Proof
end

