-- ==== Sys2Proof/Decode.lean ====
section
/-! DEFINITION. The commands that a word spells by the bits of spec/opcode_table.json. No row of the
table gives bits ("fields": [] throughout, 98_reader.md "n_rows_with_fields": 0), so no word spells a
command (log 17). The bits of the frames on the bus (chapter 12) are read in Machine/Wire.lean. -/

namespace Sys2Proof

/-- The command whose table bits are `w`: none, since no row has bits (log 17). -/
def decodeTableWord (_nbits _w : Nat) : Option Instr := none

end Sys2Proof
end

