-- ==== Sys2Proof/Config.lean ====
section
/-! DEFINITION. The constants that every Sarimo 412 has: capacities and fixed times, each with the
rule that gives it. What differs between nodes is read from the configuration image into State
(R164). The manual leaves no value free, so there is no opaque constant here. -/

namespace Sys2Proof.Config

/-- R162, R166: the census lasts 2 s. -/
def censusTime : Nat := 2000

/-- R49: the pause between two attempts of a throw. -/
def pauseTime : Nat := 250

/-- R132: the period timer of HOLD_STATE. -/
def periodTime : Nat := 1000

/-- R136: a PRESENT roster entry falls SILENT this long after it was last heard. -/
def silenceTime : Nat := 3000

/-- R141, R151: the MUTE retry timer. -/
def muteRetryTime : Nat := 2000

/-- R20: the capacity of an approach queue. -/
def queueCapacity : Nat := 6

/-- R23: the length of a recent list. -/
def recentCapacity : Nat := 4

/-- R61: the capacity of a zone list. -/
def zoneCapacity : Nat := 2

/-- R62: the largest number of axles in a passage counts. -/
def axleLimit : Nat := 255

/-- R4: a larger count is not stored as expected axles. -/
def expectedLimit : Nat := 250

/-- R95: the capacity of the handoff wait list. -/
def waitCapacity : Nat := 8

/-- R108: the capacity of the cut list. -/
def cutListCapacity : Nat := 24

/-- R113: the capacity of the closure table. -/
def closureCapacity : Nat := 8

/-- R147: the capacity of the transmit queue. -/
def transmitCapacity : Nat := 16

/-- R151: the transmit failure count at which the port enters MUTE. -/
def muteThreshold : Nat := 16

/-- R154: the further-alarm count stays here once it has reached it. -/
def furtherLimit : Nat := 255

/-- R157: the capacity of the watch table. -/
def watchCapacity : Nat := 4

/-- R19: distances below this are next or ahead, the others are behind. -/
def behindDistance : Nat := 128

/-- R163, R164: the shortest and the longest configuration image. -/
def imageShortest : Nat := 30

/-- R163, R164: see `imageShortest`. -/
def imageLongest : Nat := 130

end Sys2Proof.Config
end

