-- ==== Sys2Proof/Machine/State.lean ====
section
/-! DEFINITION. The state of one Sarimo 412 as plain data: every piece of state the manual names,
the queue of waiting commands, the reasons a step can stop, and the machine after reset. -/

namespace Sys2Proof.Machine

/-! ### Cut records (chapter 1) -/

/-- The record flags of R10. MISROUTED is a flag of the ARRIVAL frame only (R11). -/
structure Flags where
  stray : Bool := false
  diverted : Bool := false
  translated : Bool := false
  merged : Bool := false
  short : Bool := false
  long : Bool := false
  rollback : Bool := false
  imbalance : Bool := false
  overrun : Bool := false
  adopted : Bool := false
  deriving DecidableEq, Repr

/-- The second cut of a merged pair (R8). -/
structure Companion where
  tag : Tag
  destination : Nat
  deriving DecidableEq, Repr

/-- The queue timing of a record in an approach queue (R7). -/
structure QueueTiming where
  taken : Nat
  deadline : Nat
  marked : Bool
  deriving DecidableEq, Repr

/-- One cut record of the pool (R1). -/
structure Record where
  tag : Tag
  destination : Nat
  originalDestination : Option Nat
  expectedAxles : Nat
  cutClass : Nat
  inspect : Bool
  flags : Flags
  feedSeq : Option Seq
  companion : Option Companion
  timing : Option QueueTiming
  deriving DecidableEq, Repr

/-- R1: a record in the free list is blank. -/
def Record.blank : Record where
  tag := 0
  destination := 0
  originalDestination := none
  expectedAxles := 0
  cutClass := 0
  inspect := false
  flags := {}
  feedSeq := none
  companion := none
  timing := none

/-- What a handoff carries of a record (R17, R88). -/
structure CutContents where
  tag : Tag
  destination : Nat
  originalDestination : Option Nat
  expectedAxles : Nat
  cutClass : Nat
  flags : Flags
  companion : Option Companion
  deriving DecidableEq, Repr

/-! ### Configuration (chapter 10) -/

/-- The two roles of a node. -/
inductive Role where
  | tree
  | crest
  deriving DecidableEq, Repr

/-- The two bit rates of R141. -/
inductive BitRate where
  | kbit62
  | kbit125
  deriving DecidableEq, Repr

/-- What a leg ends at (section 5.1). -/
inductive LegEnd where
  | track (number : Nat)
  | slot (node slot : Nat)
  deriving DecidableEq, Repr

/-- A slot record of the image (R164), its times in ms. -/
structure SlotConfig where
  reachFirst : Nat
  split : Nat
  reachLast : Nat
  strayLeg : Leg
  feedNode : Nat
  feedSlot : Nat
  feedLeg : Leg
  normalEnd : LegEnd
  reverseEnd : LegEnd
  throwLimit : Nat
  retries : Nat
  gapTime : Nat
  stallTime : Nat
  overdueTime : Nat
  pressureThreshold : Nat
  deriving DecidableEq, Repr

/-- The crest record of the image (R164): interval entries in units of 100 ms (R124). -/
structure CrestConfig where
  rejectTrack : Nat
  roster : List Nat
  intervals : List Nat
  deriving DecidableEq, Repr

/-- The configuration of a node (R164). -/
structure NodeConfig where
  node : Nat
  role : Role
  slotCount : Nat
  yardStation : Nat
  bitRate : BitRate
  handoffTimeout : Nat
  holdOnIncident : Bool
  crest : Option CrestConfig
  slots : List SlotConfig
  imageSum : BitVec 16
  deriving DecidableEq, Repr

/-- What the accessors read where no slot record stands. No rule reads it: a slot without a record is
OFF (R35). -/
def SlotConfig.blank : SlotConfig where
  reachFirst := 0
  split := 0
  reachLast := 0
  strayLeg := .normal
  feedNode := 0
  feedSlot := 0
  feedLeg := .normal
  normalEnd := .track 0
  reverseEnd := .track 0
  throwLimit := 0
  retries := 0
  gapTime := 0
  stallTime := 0
  overdueTime := 0
  pressureThreshold := 0

/-- What the accessors read before an image has passed. No rule reads it: the node is then not in
service and takes nothing. -/
def NodeConfig.blank : NodeConfig where
  node := 0
  role := .tree
  slotCount := 0
  yardStation := 0
  bitRate := .kbit62
  handoffTimeout := 0
  holdOnIncident := false
  crest := none
  slots := []
  imageSum := 0

/-! ### Node control -/

/-- The node states of R162; `reset` is the node while the reset line is asserted. -/
inductive NodeState where
  | reset
  | loading
  | configFault
  | census
  | inService
  deriving DecidableEq, Repr

/-! ### Slot units (chapters 2 to 4) -/

/-- The service states of R34. -/
inductive ServiceState where
  | off
  | settling
  | inUse
  | failed
  | blocked
  deriving DecidableEq, Repr

/-- The sub-states of a throw (R39). -/
inductive ThrowPhase where
  | driving
  | pausing
  deriving DecidableEq, Repr

/-- A throw in progress (R39, R47). In PAUSING, `deadline` is the end of the pause (R49). -/
structure Throw where
  target : Leg
  attemptsLeft : Nat
  deadline : Nat
  phase : ThrowPhase
  deriving DecidableEq, Repr

/-- The point states of R39. -/
inductive PointState where
  | provedNormal
  | provedReverse
  | moving (thrown : Throw)
  | unproved
  deriving DecidableEq, Repr

/-- The two kinds of entry of a recent list (R23). -/
inductive RecentKind where
  | announced
  | anonymous
  deriving DecidableEq, Repr

/-- One consumed sequence of a recent list (R23). -/
structure RecentEntry where
  seq : Seq
  kind : RecentKind
  tag : Tag
  deriving DecidableEq, Repr

/-- The phases of a passage (section 4.4). -/
inductive Phase where
  | committing
  | trailing
  | committed
  deriving DecidableEq, Repr

/-- The results of a HANDOFF (R94, section 12.3). -/
inductive HandoffResult where
  | taken
  | late
  | lateAdopted
  | refusedFull
  | refusedNotReady
  | refusedUnknownFeed
  deriving DecidableEq, Repr

/-- How a handoff came to an end: by a result, or as LOST (R91, R94). -/
inductive HandoffOutcome where
  | answered (result : HandoffResult)
  | lost
  deriving DecidableEq, Repr

/-- What a passage knows of its handoff (R62, R63): none yet; a handoff of the handoff unit's list, by
its number, where its context stands; or the result of a local handoff. -/
inductive PassageHandoff where
  | none
  | sent (number : Nat)
  | local (result : HandoffResult)
  deriving DecidableEq, Repr

/-- One passage of a zone list (R62). A timer is its deadline while it runs, absent once expired. -/
structure Passage where
  record : RecIx
  consumed : Option Seq
  intended : Option Leg
  taken : Option Leg
  axlesIn : Nat
  outNormal : Nat
  outReverse : Nat
  countdown : Option Nat
  excess : Nat
  phase : Phase
  lastCommit : Nat
  gapRunning : Bool
  stallTimer : Option Nat
  stalled : Bool
  rollbackNoted : Bool
  handoff : PassageHandoff
  deriving DecidableEq, Repr

/-- One slot: its field lines and the state of its slot unit. -/
structure Slot where
  service : ServiceState
  point : PointState
  driveNormal : Bool
  driveReverse : Bool
  provedNormal : Bool
  provedReverse : Bool
  foulingOccupied : Bool
  /-- The expected next sequence of a SYNCED slot, absent when UNSYNCED (R18). -/
  expected : Option Seq
  queue : List RecIx
  recent : List RecentEntry
  zone : List Passage
  ghostTimer : Option Nat
  ghostRaised : Bool
  /-- The handoff unit's feed counter of the normal leg (R87). -/
  feedNormal : Seq
  /-- The handoff unit's feed counter of the reverse leg (R87). -/
  feedReverse : Seq
  deriving DecidableEq, Repr

/-- R35: a slot after reset, its input lines as log 4 says. -/
def Slot.afterReset : Slot where
  service := .off
  point := .unproved
  driveNormal := false
  driveReverse := false
  provedNormal := false
  provedReverse := false
  foulingOccupied := false
  expected := none
  queue := []
  recent := []
  zone := []
  ghostTimer := none
  ghostRaised := false
  feedNormal := 0
  feedReverse := 0

/-! ### Handoff unit (chapter 5) -/

/-- A HANDOFF frame as the sender builds it (R88). -/
structure HandoffFrame where
  targetStation : Nat
  targetSlot : Nat
  sourceSlot : SlotIx
  sourceLeg : Leg
  seq : Seq
  contents : CutContents
  deriving DecidableEq, Repr

/-- The attempts of a handoff (R90). -/
inductive Attempt where
  | first
  | second
  deriving DecidableEq, Repr

/-- A handoff context that has been made (R63); the timer is its deadline while it runs (R90). -/
inductive HandoffStatus where
  | pending (attempt : Attempt) (timer : Option Nat)
  | resolved (outcome : HandoffOutcome)
  deriving DecidableEq, Repr

/-- A handoff of the handoff unit. Its number is the model's own name for it (log 11). -/
structure Handoff where
  number : Nat
  frame : HandoffFrame
  status : HandoffStatus
  deriving DecidableEq, Repr

/-- A wait-list entry: one record and one handoff context (R12, R95). -/
structure WaitEntry where
  record : RecIx
  handoff : Nat
  deriving DecidableEq, Repr

/-! ### Hold unit (chapter 7) -/

/-- The hold mask: a set of the eight hold reasons (R127). -/
structure HoldMask where
  settling : Bool := false
  queuePressure : Bool := false
  stall : Bool := false
  overdue : Bool := false
  pointFailed : Bool := false
  slotBlocked : Bool := false
  handoffFault : Bool := false
  incidentFrozen : Bool := false
  deriving DecidableEq, Repr

/-! ### Crest unit (chapters 6 and 7) -/

/-- An entry of the closure table (R113). -/
structure Closure where
  track : Nat
  substitute : Nat
  deriving DecidableEq, Repr

/-- The phases of the crest passage (R117). -/
inductive CrestPhase where
  | idle
  | releasing
  deriving DecidableEq, Repr

/-- The crest passage (R117). -/
structure CrestPassage where
  phase : CrestPhase
  countdown : Nat
  cutClass : Nat
  deriving DecidableEq, Repr

/-- The aspects of the hump signal (R125). -/
inductive Aspect where
  | stop
  | slow
  | push
  deriving DecidableEq, Repr

/-- The presence of a roster entry (R134). -/
inductive Presence where
  | unheard
  | present
  | silent
  deriving DecidableEq, Repr

/-- A roster entry (R134). -/
structure RosterEntry where
  station : Nat
  presence : Presence
  lastHeard : Option Nat
  lastMask : HoldMask
  restarted : Bool
  deriving DecidableEq, Repr

/-! ### Incident unit (chapter 9) -/

/-- The incident kinds of R152, in the order of their codes. -/
inductive IncidentKind where
  | unannouncedCut
  | lateHandoff
  | shortCut
  | longCut
  | catchUpDivert
  | catchUpMerge
  | stray
  | splitRoute
  | legMismatch
  | axleImbalance
  | rollback
  | stall
  | ghostOccupancy
  | overdue
  | pointFailed
  | unprovedUnderCut
  | detectionLost
  | handoffLost
  | handoffRefused
  | zoneOverrun
  | crestOverrun
  | outqOverflow
  deriving DecidableEq, Repr

/-- The frame kinds of section 12.1. -/
inductive FrameKind where
  | start
  | holdState
  | handoff
  | handoffReply
  | cutEntry
  | entryWithdraw
  | listClear
  | trackClose
  | trackOpen
  | releaseOne
  | restartAck
  | slotBlock
  | slotFree
  | slotFlush
  | incidentClear
  | watchSet
  | watchClear
  | statusQuery
  | commandReply
  | released
  | arrival
  | incident
  | watchHit
  | status
  deriving DecidableEq, Repr

/-- The detail of an incident (R152, section 12.3), by what it holds. -/
inductive Detail where
  /-- GHOST_OCCUPANCY: no detail. -/
  | empty
  /-- UNANNOUNCED_CUT: the consumed sequence, absent at an UNSYNCED slot. -/
  | unannounced (consumed : Option Seq)
  /-- LATE_HANDOFF. -/
  | lateHandoff (adopted : Bool) (seq : Seq) (sourceNode : Nat)
  /-- SHORT_CUT. -/
  | shortCut (axlesIn expected : Nat)
  /-- LONG_CUT, CATCH_UP_MERGE. -/
  | excess (count : Nat)
  /-- CATCH_UP_DIVERT. -/
  | intended (leg : Leg)
  /-- STRAY. -/
  | destination (track : Nat)
  /-- SPLIT_ROUTE. -/
  | splitRoute (taken axle : Leg)
  /-- LEG_MISMATCH. -/
  | legMismatch (taken : Leg) (point : PointState)
  /-- AXLE_IMBALANCE of a stray axle (R60, R166). -/
  | strayAxle (sensor : Sensor) (direction : Direction)
  /-- AXLE_IMBALANCE of a reconciliation (R80). -/
  | reconciled (axlesIn outNormal outReverse : Nat)
  /-- ROLLBACK. -/
  | sensor (sensor : Sensor)
  /-- STALL. -/
  | stall (phase : Phase) (axlesIn axlesOut : Nat)
  /-- OVERDUE: the feed sequence. -/
  | overdue (seq : Option Seq)
  /-- POINT_FAILED. -/
  | pointFailed (target : Leg) (attempts : Nat)
  /-- UNPROVED_UNDER_CUT. -/
  | underCut (target : Leg) (phase : ThrowPhase)
  /-- DETECTION_LOST. -/
  | detectionLost (before : PointState) (provedNormal provedReverse : Bool)
  /-- HANDOFF_LOST. -/
  | handoffLost (station slot : Nat) (seq : Seq)
  /-- HANDOFF_REFUSED. -/
  | handoffRefused (result : HandoffResult) (station slot : Nat) (seq : Seq)
  /-- ZONE_OVERRUN. -/
  | zoneOverrun (axlesIn : Nat)
  /-- CREST_OVERRUN. -/
  | crestOverrun (listEmpty : Bool) (seq : Seq)
  /-- OUTQ_OVERFLOW: kind and urgency of the discarded frame. -/
  | overflow (kind : FrameKind)
  deriving DecidableEq, Repr

/-- An incident (R152). -/
structure Incident where
  kind : IncidentKind
  slot : Option SlotIx
  firstTag : Tag
  secondTag : Tag
  detail : Detail
  deriving DecidableEq, Repr

/-- The captured alarm (R154). -/
structure Captured where
  incident : Incident
  time : Nat
  deriving DecidableEq, Repr

/-! ### Bus port (chapter 8) -/

/-- The results of a command (R160). -/
inductive CommandResult where
  | done
  | refusedState
  | refusedFull
  | refusedValue
  | refusedDuplicate
  | refusedRole
  deriving DecidableEq, Repr

/-- What slot 0 did with a released record, as a RELEASED frame reports it (R121, section 12.3). The
receiver's rules of section 5.9 end in one of these. -/
inductive Receipt where
  | queued
  | duplicate
  | adopted
  | late
  | refusedFull
  | refusedNotReady
  | refusedUnknownFeed
  deriving DecidableEq, Repr

/-- What a STATUS frame says of one slot (R161). -/
structure SlotStatus where
  service : ServiceState
  point : PointState
  queueLength : Nat
  zoneCount : Nat
  deriving DecidableEq, Repr

/-- The frames a node builds, with the contents that chapter 12 lays out. -/
inductive OutFrame where
  | start (role : Role) (slotCount : Nat) (imageSum : BitVec 16)
  | holdState (mask : HoldMask) (nodeState : NodeState)
  | handoff (frame : HandoffFrame)
  | handoffReply (station : Nat) (slot : Nat) (seq : Seq) (tag : Tag) (result : HandoffResult)
  | commandReply (kind : FrameKind) (argument : BitVec 16) (result : CommandResult)
  | released (tag : Tag) (destination : Nat) (originalDestination : Option Nat) (cutClass : Nat) (flags : Flags) (seq : Seq) (receipt : Receipt)
  | arrival (slot : SlotIx) (leg : Leg) (track : Nat) (tag : Tag) (destination : Nat) (originalDestination : Option Nat) (flags : Flags) (misrouted : Bool) (companion : Option Companion)
  | incident (incident : Incident) (captured : Bool)
  | watchHit (tag : Tag) (slot : SlotIx) (leg : Leg)
  | status (mask : HoldMask) (nodeState : NodeState) (captureKind : Option IncidentKind) (further seconds : Nat) (slots : List SlotStatus)
  deriving DecidableEq, Repr

/-- A frame of the transmit queue: the handoff it belongs to, whether its attempt is on the bus, and
whether its contents were replaced there (R148). -/
structure TxEntry where
  frame : OutFrame
  owner : Option Nat
  onBus : Bool
  replaced : Bool
  deriving DecidableEq, Repr

/-- The port states of R141. -/
inductive PortMode where
  | active
  | mute
  deriving DecidableEq, Repr

/-- The MUTE retry timer (R141, R151). -/
inductive RetryTimer where
  | stopped
  | running (deadline : Nat)
  | attemptPending
  deriving DecidableEq, Repr

/-- The bus port (R141, R142). -/
structure Port where
  queue : List TxEntry
  /-- The frame being sent, as its sending began (R148). -/
  sending : Option OutFrame
  failures : Nat
  mode : PortMode
  retry : RetryTimer
  /-- The port has seen the bus idle and may take the next frame (R142). -/
  seenIdle : Bool
  deriving DecidableEq, Repr

/-- R141: the port after reset. -/
def Port.afterReset : Port where
  queue := []
  sending := none
  failures := 0
  mode := .active
  retry := .stopped
  seenIdle := false

/-! ### The machine -/

/-- The state of one node, and the commands that are waiting for it. -/
structure State where
  nodeState : NodeState
  time : Nat
  censusStart : Option Nat
  config : Option NodeConfig
  startSent : Bool
  records : Vector Record 64
  free : List RecIx
  slots : Vector Slot 4
  handoffs : List Handoff
  nextHandoff : Nat
  waitList : List WaitEntry
  faultLatch : Bool
  holdMask : HoldMask
  periodTimer : Option Nat
  cutList : List RecIx
  closures : List Closure
  releaseCounter : Seq
  crestPassage : CrestPassage
  releaseInterval : Option Nat
  signal : Aspect
  roster : List RosterEntry
  capture : Option Captured
  furtherAlarms : Nat
  watches : List Tag
  faultLine : Bool
  port : Port
  pending : List Instr
  deriving DecidableEq, Repr

/-- The reasons a command stops the machine: none. The spec gives every command an effect, or says that
it changes nothing, in every state, so this type has no constructor. -/
inductive Fault where
  deriving DecidableEq, Repr

/-- The reasons a command is refused. -/
inductive Refusal where
  /-- Raised by exec for a command that has no meaning yet, by its name in the table. Safe: nothing is
  claimed of such a command. No arm of exec raises it. -/
  | notModelled (mnemonic : String)
  deriving DecidableEq, Repr

/-- The node right after reset: the reset line has been released, the running time stands at 0, the
node is LOADING, and every block holds its value after reset (R162, R16, R35, R87, R95, R108, R113,
R117, R118, R124, R125, R127, R129, R132, R141, R154, R156, R157; logs 3 and 4). -/
def State.reset : State where
  nodeState := .loading
  time := 0
  censusStart := none
  config := none
  startSent := false
  records := Vector.replicate 64 Record.blank
  free := List.finRange 64
  slots := Vector.replicate 4 Slot.afterReset
  handoffs := []
  nextHandoff := 0
  waitList := []
  faultLatch := false
  holdMask := {}
  periodTimer := none
  cutList := []
  closures := []
  releaseCounter := 0
  crestPassage := ⟨.idle, 0, 0⟩
  releaseInterval := none
  signal := .stop
  roster := []
  capture := none
  furtherAlarms := 0
  watches := []
  faultLine := false
  port := Port.afterReset
  pending := []

end Sys2Proof.Machine
end

