-- ==== Sys2Proof/Machine/Flags.lean ====
section
/-! DEFINITION. The two sets of marks that frames carry, the record flags (R9, R10) and the hold mask
(R127), with their bits of section 12.3. -/

namespace Sys2Proof.Machine

/-- R9: the union of two flag sets. -/
def Flags.union (a b : Flags) : Flags where
  stray := a.stray || b.stray
  diverted := a.diverted || b.diverted
  translated := a.translated || b.translated
  merged := a.merged || b.merged
  short := a.short || b.short
  long := a.long || b.long
  rollback := a.rollback || b.rollback
  imbalance := a.imbalance || b.imbalance
  overrun := a.overrun || b.overrun
  adopted := a.adopted || b.adopted

/-- R9: every flag of `a` is in `b`. -/
def Flags.subset (a b : Flags) : Bool :=
  (!a.stray || b.stray) && (!a.diverted || b.diverted) && (!a.translated || b.translated)
    && (!a.merged || b.merged) && (!a.short || b.short) && (!a.long || b.long)
    && (!a.rollback || b.rollback) && (!a.imbalance || b.imbalance)
    && (!a.overrun || b.overrun) && (!a.adopted || b.adopted)

/-- The weight of a bit in a word. -/
def bitWeight (n : Nat) (b : Bool) : Nat := if b then 2 ^ n else 0

/-- Section 12.3: the two flag bytes; bit 10 is MISROUTED, which only an ARRIVAL carries (R11). -/
def Flags.toWord (f : Flags) (misrouted : Bool) : BitVec 16 :=
  BitVec.ofNat 16 (bitWeight 0 f.stray + bitWeight 1 f.diverted + bitWeight 2 f.translated
    + bitWeight 3 f.merged + bitWeight 4 f.short + bitWeight 5 f.long + bitWeight 6 f.rollback
    + bitWeight 7 f.imbalance + bitWeight 8 f.overrun + bitWeight 9 f.adopted
    + bitWeight 10 misrouted)

/-- Section 12.3 and R169: the flags a HANDOFF stores; bits 10 to 15 are not stored. -/
def Flags.ofWord (w : BitVec 16) : Flags where
  stray := w.getLsbD 0
  diverted := w.getLsbD 1
  translated := w.getLsbD 2
  merged := w.getLsbD 3
  short := w.getLsbD 4
  long := w.getLsbD 5
  rollback := w.getLsbD 6
  imbalance := w.getLsbD 7
  overrun := w.getLsbD 8
  adopted := w.getLsbD 9

/-- R127: the mask is zero when the set is empty. -/
def HoldMask.isZero (m : HoldMask) : Bool := m == {}

/-- Section 12.3: the hold mask byte. -/
def HoldMask.toByte (m : HoldMask) : Byte :=
  BitVec.ofNat 8 (bitWeight 0 m.settling + bitWeight 1 m.queuePressure + bitWeight 2 m.stall
    + bitWeight 3 m.overdue + bitWeight 4 m.pointFailed + bitWeight 5 m.slotBlocked
    + bitWeight 6 m.handoffFault + bitWeight 7 m.incidentFrozen)

/-- Section 12.3: the hold mask a HOLD_STATE carries. -/
def HoldMask.ofByte (b : Byte) : HoldMask where
  settling := b.getLsbD 0
  queuePressure := b.getLsbD 1
  stall := b.getLsbD 2
  overdue := b.getLsbD 3
  pointFailed := b.getLsbD 4
  slotBlocked := b.getLsbD 5
  handoffFault := b.getLsbD 6
  incidentFrozen := b.getLsbD 7

end Sys2Proof.Machine
end

