-- ==== Sys2Proof/Machine/Operands.lean ====
section
/-! DEFINITION. The codes of chapter 12 and the operand forms of the frames: what each byte stands
for, which bytes are out of range (R169), and the values a frame carries for a record (R17). -/

namespace Sys2Proof.Machine

/-! ### Codes of chapter 12 -/

/-- Chapter 12: legs are coded 0 normal and 1 reverse. -/
def legCode : Leg → Nat
  | .normal => 0
  | .reverse => 1

/-- The leg of a code, if it is one. -/
def legOfCode : Nat → Option Leg
  | 0 => some .normal
  | 1 => some .reverse
  | _ => none

/-- The other leg of a point. -/
def otherLeg : Leg → Leg
  | .normal => .reverse
  | .reverse => .normal

/-- Section 12.3: sensor codes. -/
def sensorCode : Sensor → Nat
  | .commit => 0
  | .exitNormal => 1
  | .exitReverse => 2

/-- The exit sensor of a leg (R59). -/
def exitSensor : Leg → Sensor
  | .normal => .exitNormal
  | .reverse => .exitReverse

/-- Section 12.3: direction codes. -/
def directionCode : Direction → Nat
  | .forward => 0
  | .backward => 1

/-- Section 12.3: phase codes. -/
def phaseCode : Phase → Nat
  | .committing => 0
  | .trailing => 1
  | .committed => 2

/-- Section 12.3: sub-state codes of UNPROVED_UNDER_CUT. -/
def throwPhaseCode : ThrowPhase → Nat
  | .driving => 0
  | .pausing => 1

/-- Section 12.2: role codes. -/
def roleCode : Role → Nat
  | .tree => 0
  | .crest => 1

/-- Section 12.3: node state codes. A node held in reset sends nothing, and has no code of its own. -/
def nodeStateCode : NodeState → Nat
  | .reset => 0
  | .loading => 0
  | .configFault => 1
  | .census => 2
  | .inService => 3

/-- Section 12.3: service state codes. -/
def serviceCode : ServiceState → Nat
  | .off => 0
  | .settling => 1
  | .inUse => 2
  | .failed => 3
  | .blocked => 4

/-- Section 12.3: point state codes. R161: a MOVING point is reported without target or sub-state. -/
def pointCode : PointState → Nat
  | .provedNormal => 0
  | .provedReverse => 1
  | .moving _ => 2
  | .unproved => 3

/-- Section 12.3: handoff result codes. -/
def handoffResultCode : HandoffResult → Nat
  | .taken => 0
  | .late => 1
  | .lateAdopted => 2
  | .refusedFull => 3
  | .refusedNotReady => 4
  | .refusedUnknownFeed => 5

/-- The handoff result of a code; a code above 5 is none (R169). -/
def handoffResultOfCode : Nat → Option HandoffResult
  | 0 => some .taken
  | 1 => some .late
  | 2 => some .lateAdopted
  | 3 => some .refusedFull
  | 4 => some .refusedNotReady
  | 5 => some .refusedUnknownFeed
  | _ => none

/-- Section 12.3: command result codes. -/
def commandResultCode : CommandResult → Nat
  | .done => 0
  | .refusedState => 1
  | .refusedFull => 2
  | .refusedValue => 3
  | .refusedDuplicate => 4
  | .refusedRole => 5

/-- Section 12.3: queue result codes of RELEASED. -/
def receiptCode : Receipt → Nat
  | .queued => 0
  | .duplicate => 1
  | .adopted => 2
  | .late => 3
  | .refusedFull => 4
  | .refusedNotReady => 5
  | .refusedUnknownFeed => 6

/-- R152: incident codes. -/
def incidentCode : IncidentKind → Nat
  | .unannouncedCut => 1
  | .lateHandoff => 2
  | .shortCut => 3
  | .longCut => 4
  | .catchUpDivert => 5
  | .catchUpMerge => 6
  | .stray => 7
  | .splitRoute => 8
  | .legMismatch => 9
  | .axleImbalance => 10
  | .rollback => 11
  | .stall => 12
  | .ghostOccupancy => 13
  | .overdue => 14
  | .pointFailed => 15
  | .unprovedUnderCut => 16
  | .detectionLost => 17
  | .handoffLost => 18
  | .handoffRefused => 19
  | .zoneOverrun => 20
  | .crestOverrun => 21
  | .outqOverflow => 22

/-- R152: the fixed severity of each kind. -/
def isAlarm : IncidentKind → Bool
  | .unannouncedCut => true
  | .lateHandoff => true
  | .shortCut => false
  | .longCut => false
  | .catchUpDivert => false
  | .catchUpMerge => false
  | .stray => false
  | .splitRoute => true
  | .legMismatch => true
  | .axleImbalance => true
  | .rollback => false
  | .stall => false
  | .ghostOccupancy => false
  | .overdue => false
  | .pointFailed => true
  | .unprovedUnderCut => true
  | .detectionLost => true
  | .handoffLost => true
  | .handoffRefused => true
  | .zoneOverrun => true
  | .crestOverrun => true
  | .outqOverflow => true

/-- Section 12.1: kind codes. -/
def kindCode : FrameKind → Nat
  | .start => 0x01
  | .holdState => 0x02
  | .handoff => 0x04
  | .handoffReply => 0x05
  | .cutEntry => 0x08
  | .entryWithdraw => 0x09
  | .listClear => 0x0A
  | .trackClose => 0x0B
  | .trackOpen => 0x0C
  | .releaseOne => 0x0D
  | .restartAck => 0x0E
  | .slotBlock => 0x10
  | .slotFree => 0x11
  | .slotFlush => 0x12
  | .incidentClear => 0x13
  | .watchSet => 0x14
  | .watchClear => 0x15
  | .statusQuery => 0x16
  | .commandReply => 0x17
  | .released => 0x18
  | .arrival => 0x19
  | .incident => 0x1A
  | .watchHit => 0x1B
  | .status => 0x1C

/-- The kinds of section 12.1, in its order. -/
def allKinds : List FrameKind :=
  [.start, .holdState, .handoff, .handoffReply, .cutEntry, .entryWithdraw, .listClear, .trackClose,
    .trackOpen, .releaseOne, .restartAck, .slotBlock, .slotFree, .slotFlush, .incidentClear,
    .watchSet, .watchClear, .statusQuery, .commandReply, .released, .arrival, .incident, .watchHit,
    .status]

/-- The kind of a code, if section 12.1 has it. -/
def kindOfCode (n : Nat) : Option FrameKind := allKinds.find? (fun k => kindCode k == n)

/-- R145: the fixed urgency of each kind. -/
def kindUrgency : FrameKind → Nat
  | .start => 0
  | .holdState => 0
  | .handoff => 1
  | .handoffReply => 1
  | .cutEntry => 2
  | .entryWithdraw => 2
  | .listClear => 2
  | .trackClose => 2
  | .trackOpen => 2
  | .releaseOne => 2
  | .restartAck => 2
  | .slotBlock => 2
  | .slotFree => 2
  | .slotFlush => 2
  | .incidentClear => 2
  | .watchSet => 2
  | .watchClear => 2
  | .statusQuery => 2
  | .commandReply => 2
  | .released => 3
  | .arrival => 3
  | .incident => 3
  | .watchHit => 3
  | .status => 3

/-- Section 12.1: the fixed payload length of each kind. -/
def kindLength : FrameKind → Nat
  | .start => 4
  | .holdState => 2
  | .handoff => 14
  | .handoffReply => 6
  | .cutEntry => 7
  | .entryWithdraw => 3
  | .listClear => 1
  | .trackClose => 3
  | .trackOpen => 2
  | .releaseOne => 3
  | .restartAck => 2
  | .slotBlock => 2
  | .slotFree => 2
  | .slotFlush => 2
  | .incidentClear => 1
  | .watchSet => 3
  | .watchClear => 3
  | .statusQuery => 1
  | .commandReply => 5
  | .released => 10
  | .arrival => 12
  | .incident => 13
  | .watchHit => 4
  | .status => 14

/-- The kind of a frame the node builds. -/
def OutFrame.kind : OutFrame → FrameKind
  | .start _ _ _ => .start
  | .holdState _ _ => .holdState
  | .handoff _ => .handoff
  | .handoffReply _ _ _ _ _ => .handoffReply
  | .commandReply _ _ _ => .commandReply
  | .released _ _ _ _ _ _ _ => .released
  | .arrival _ _ _ _ _ _ _ _ _ => .arrival
  | .incident _ _ => .incident
  | .watchHit _ _ _ => .watchHit
  | .status _ _ _ _ _ _ => .status

/-- R145: the node writes the kind's urgency into every frame it builds. -/
def OutFrame.urgency (f : OutFrame) : Nat := kindUrgency f.kind

/-- R142, section 6.5: the two signal lines A and B of an aspect. -/
def Aspect.lines : Aspect → Bool × Bool
  | .stop => (false, false)
  | .slow => (true, false)
  | .push => (true, true)

/-! ### Operands of received frames (R169) -/

/-- A slot argument: the slot it names, if it is 0 to 3. -/
def slotOfNat (n : Nat) : Option SlotIx := if h : n < 4 then some ⟨n, h⟩ else none

/-- Chapter 12: an original destination of 0 is absent. -/
def optionalTrack (b : Byte) : Option Nat := if b = 0 then none else some b.toNat

/-- Chapter 12, R169: a companion whose tag is 0 is absent. -/
def optionalCompanion (tag : Tag) (destination : Byte) : Option Companion :=
  if tag = 0 then none else some ⟨tag, destination.toNat⟩

/-- R169: the fields of a HANDOFF that must lie in their ranges, and the two flags that must agree with
their optional parts. -/
def payloadAcceptable (p : HandoffPayload) : Bool :=
  decide (p.destination.toNat ≤ 63) && decide (p.originalDestination.toNat ≤ 63)
    && decide (p.expectedAxles.toNat ≤ Config.expectedLimit) && decide (p.cutClass.toNat ≤ 3)
    && decide (p.companionDestination.toNat ≤ 63)
    && ((Flags.ofWord p.flags).translated == decide (p.originalDestination ≠ 0))
    && ((Flags.ofWord p.flags).merged == decide (p.companionTag ≠ 0))

/-- What an acceptable HANDOFF carries of a record (R100, R169; log 15). -/
def payloadContents (p : HandoffPayload) : CutContents where
  tag := p.tag
  destination := p.destination.toNat
  originalDestination := optionalTrack p.originalDestination
  expectedAxles := p.expectedAxles.toNat
  cutClass := p.cutClass.toNat
  flags := Flags.ofWord p.flags
  companion := optionalCompanion p.companionTag p.companionDestination

/-! ### Values a record gives to frames and handoffs -/

/-- R2: a record whose tag is 0 is anonymous. -/
def Record.anonymous (r : Record) : Bool := r.tag == 0

/-- The tag of the companion, or 0 (R91, R94). -/
def Record.companionTag (r : Record) : Tag :=
  match r.companion with
  | some c => c.tag
  | none => 0

/-- R4: a count above 250 is never stored; 0 stands for it. -/
def storableCount (n : Nat) : Nat := if n ≤ Config.expectedLimit then n else 0

/-- R17, R88: the record contents of a handoff that carries `expected` as its expected axles. -/
def Record.contents (r : Record) (expected : Nat) : CutContents where
  tag := r.tag
  destination := r.destination
  originalDestination := r.originalDestination
  expectedAxles := storableCount expected
  cutClass := r.cutClass
  flags := r.flags
  companion := r.companion

/-- R13, R100: the fields of a new record that takes a handoff. -/
def CutContents.newRecord (c : CutContents) : Record where
  tag := c.tag
  destination := c.destination
  originalDestination := c.originalDestination
  expectedAxles := c.expectedAxles
  cutClass := c.cutClass
  inspect := false
  flags := c.flags
  feedSeq := none
  companion := c.companion
  timing := none

/-- R11: a cut is MISROUTED at a track if its destination is not 0 and differs from it. -/
def Record.misrouted (r : Record) (track : Nat) : Bool :=
  decide (r.destination ≠ 0) && decide (r.destination ≠ track)

/-- The handoff result of a receiver's decision (R94, R105): a duplicate is answered TAKEN. -/
def Receipt.result : Receipt → HandoffResult
  | .queued => .taken
  | .duplicate => .taken
  | .adopted => .lateAdopted
  | .late => .late
  | .refusedFull => .refusedFull
  | .refusedNotReady => .refusedNotReady
  | .refusedUnknownFeed => .refusedUnknownFeed

/-- R94: the three refusing results. -/
def HandoffResult.refuses : HandoffResult → Bool
  | .taken => false
  | .late => false
  | .lateAdopted => false
  | .refusedFull => true
  | .refusedNotReady => true
  | .refusedUnknownFeed => true

end Sys2Proof.Machine
end

