-- ==== Sys2Proof/Machine/Ops.lean ====
section
/-! DEFINITION. The named operations on the parts of State that every block uses: configuration,
slots, records and the pool, running time, and the front of the command queue. -/

namespace Sys2Proof.Machine

/-! ### Configuration -/

/-- R164: "Every block reads its settings from it." -/
def State.cfg (s : State) : NodeConfig := s.config.getD NodeConfig.blank

/-- The slot record of a slot. -/
def State.slotCfg (s : State) (k : SlotIx) : SlotConfig := s.cfg.slots.getD k.val SlotConfig.blank

/-- What a leg of a slot ends at (section 5.1). -/
def SlotConfig.legEnd (c : SlotConfig) : Leg → LegEnd
  | .normal => c.normalEnd
  | .reverse => c.reverseEnd

/-- The reach of a slot (R42). -/
def SlotConfig.inReach (c : SlotConfig) (d : Nat) : Bool :=
  decide (c.reachFirst ≤ d) && decide (d ≤ c.reachLast)

/-- R42: the leg a record bound for `d` wants at the slot. -/
def SlotConfig.wantedLeg (c : SlotConfig) (d : Nat) : Leg :=
  if c.split ≤ d ∧ d ≤ c.reachLast then .reverse
  else if c.reachFirst ≤ d ∧ d < c.split then .normal
  else c.strayLeg

/-- The reject track of the crest configuration (R116). -/
def NodeConfig.rejectTrack (c : NodeConfig) : Nat :=
  match c.crest with
  | some x => x.rejectTrack
  | none => 0

/-- R124: the class-pair entry for a completed and a following class, in units of 100 ms. -/
def NodeConfig.interval (c : NodeConfig) (completed following : Nat) : Nat :=
  match c.crest with
  | some x => x.intervals.getD (4 * completed + following) 0
  | none => 0

/-! ### Node state -/

/-- The node is IN_SERVICE. -/
def State.serving (s : State) : Bool := s.nodeState == .inService

/-- The crest unit is active: the node is IN_SERVICE in the crest role (R117, R135). -/
def State.crestServing (s : State) : Bool := s.serving && s.cfg.role == .crest

/-! ### Slots -/

/-- One slot. -/
def State.slot (s : State) (k : SlotIx) : Slot := s.slots[k]

/-- Write one slot. -/
def State.setSlot (s : State) (k : SlotIx) (x : Slot) : State :=
  { s with slots := s.slots.set k.val x k.isLt }

/-- The slot units take field events: the node is IN_SERVICE and the slot is not OFF (R59). -/
def State.slotServing (s : State) (k : SlotIx) : Bool :=
  s.serving && (s.slot k).service != .off

/-- The passages a slot's zone list holds at a place, oldest 0. -/
def State.passage (s : State) (k : SlotIx) (i : Nat) : Option Passage := (s.slot k).zone[i]?

/-- Write a passage at its place in the zone list. -/
def State.setPassage (s : State) (k : SlotIx) (i : Nat) (p : Passage) : State :=
  s.setSlot k { s.slot k with zone := (s.slot k).zone.set i p }

/-- R61: axles out, normal plus reverse. -/
def Passage.out (p : Passage) : Nat := p.outNormal + p.outReverse

/-- R81: a counted cut is in the zone: axles out below axles in. -/
def Passage.isOpen (p : Passage) : Bool := decide (p.out < p.axlesIn)

/-! ### Records and the pool (section 1.3) -/

/-- One record. -/
def State.record (s : State) (i : RecIx) : Record := s.records[i]

/-- Write one record. -/
def State.setRecord (s : State) (i : RecIx) (r : Record) : State :=
  { s with records := s.records.set i.val r i.isLt }

/-- R9: add flags to a record; the flags present stay. -/
def State.addFlags (s : State) (i : RecIx) (f : Flags) : State :=
  s.setRecord i { s.record i with flags := (s.record i).flags.union f }

/-- R13: an allocation takes the record at the head of the free list. The list is never empty when a
block allocates (R12 and the capacities of section 1.3; log 12). -/
def State.allocate (s : State) : Option (RecIx × State) :=
  match s.free with
  | [] => none
  | i :: rest => some (i, { s with free := rest })

/-- R14: freeing clears the record to blank and appends it at the tail of the free list. -/
def State.freeRecord (s : State) (i : RecIx) : State :=
  { s.setRecord i Record.blank with free := s.free ++ [i] }

/-- R14: free several records, in this order. -/
def State.freeRecords (s : State) (is : List RecIx) : State := is.foldl State.freeRecord s

/-! ### Running time -/

/-- A timer's expiry falls at its deadline: the running time has come at least there (log 2). -/
def State.reach (s : State) (deadline : Nat) : State := { s with time := max s.time deadline }

/-- R1: the running time counts milliseconds from the end of reset. One millisecond passes; while the
node is held in reset the running time stays at 0 (R162; log 1). -/
def State.tick (s : State) : State :=
  if s.nodeState = .reset then s else { s with time := s.time + 1 }

/-! ### The command queue -/

/-- Put a command at the front of the queue. -/
def State.putFront (s : State) (c : Instr) : State := { s with pending := c :: s.pending }

end Sys2Proof.Machine
end

