-- ==== Sys2Proof/Machine/Transmit.lean ====
section
/-! DEFINITION. The operations through which every block reports: the transmit queue (section 8.5),
the incident capture and the raising of incidents (sections 9.2 and 9.3), and what the handoff unit
does when a handoff's frame is discarded or a handoff is lost (R91, R92). An offer touches the queue,
the capture, the handoffs, the wait list, the pool and the fault latch, and no slot. -/

namespace Sys2Proof.Machine

/-! ### The transmit queue -/

/-- A frame newly offered. -/
def TxEntry.offered (f : OutFrame) (owner : Option Nat) : TxEntry := ⟨f, owner, false, false⟩

/-- The urgency that orders the queue (R147). -/
def TxEntry.urgency (e : TxEntry) : Nat := e.frame.urgency

/-- The entry holds a HOLD_STATE. -/
def TxEntry.isHoldState (e : TxEntry) : Bool := e.frame.kind == .holdState

/-- R147: a frame enters directly behind the last frame whose urgency number is equal to or smaller than
its own. The queue is in order of urgency, so that is before the first with a larger one. -/
def insertByUrgency (e : TxEntry) : List TxEntry → List TxEntry
  | [] => [e]
  | x :: xs => if e.urgency < x.urgency then e :: x :: xs else x :: insertByUrgency e xs

/-- R148: a HOLD_STATE takes the place of the one in the queue; one being sent is marked replaced. -/
def replaceHoldState (f : OutFrame) (q : List TxEntry) : List TxEntry :=
  q.map (fun x => if x.isHoldState then { x with frame := f, replaced := x.onBus } else x)

/-- R149: the youngest frame of the largest urgency number present whose attempt is not on the bus, and
the queue without it. -/
def takeYoungest : List TxEntry → Option (TxEntry × List TxEntry)
  | [] => none
  | x :: xs =>
    match takeYoungest xs with
    | some (v, rest) => some (v, x :: rest)
    | none => if x.onBus then none else some (x, xs)

/-- R147 to R149: an offer to the queue gives the queue afterwards and the frame discarded, if any. -/
def enqueue (e : TxEntry) (q : List TxEntry) : List TxEntry × Option TxEntry :=
  if e.isHoldState && q.any TxEntry.isHoldState then (replaceHoldState e.frame q, none)
  else if q.length < Config.transmitCapacity then (insertByUrgency e q, none)
  else
    match takeYoungest q with
    | some (v, rest) =>
      if e.urgency < v.urgency then (insertByUrgency e rest, some v) else (q, some e)
    | none => (q, some e)

/-- Write the transmit queue. -/
def State.setQueue (s : State) (q : List TxEntry) : State := { s with port := { s.port with queue := q } }

/-! ### The incident capture -/

/-- R154: an alarm is captured by an empty capture, and counted by a frozen one. -/
def State.captureAlarm (s : State) (inc : Incident) : State :=
  match s.capture with
  | none => { s with capture := some ⟨inc, s.time⟩ }
  | some _ => { s with furtherAlarms := min Config.furtherLimit (s.furtherAlarms + 1) }

/-- R149: the OUTQ_OVERFLOW alarm of a discarded frame. -/
def overflowIncident (e : TxEntry) : Incident := ⟨.outqOverflow, none, 0, 0, .overflow e.frame.kind⟩

/-- R149: a discard raises OUTQ_OVERFLOW, which goes to the capture alone (R153). -/
def State.noteDiscard (s : State) : Option TxEntry → State
  | none => s
  | some e => s.captureAlarm (overflowIncident e)

/-- Offer a frame of urgency 3 to the queue. Such an offer discards itself at worst (R149), so no
HANDOFF is discarded by it. -/
def State.offerReport (s : State) (f : OutFrame) : State :=
  if s.serving then
    (s.setQueue (enqueue (.offered f none) s.port.queue).1).noteDiscard
      (enqueue (.offered f none) s.port.queue).2
  else s

/-- R153: raising an incident. An alarm is offered to the capture; in service an INCIDENT frame is
offered, with the captured mark if the capture took the alarm. -/
def State.raise (s : State) (inc : Incident) : State :=
  if isAlarm inc.kind then
    (s.captureAlarm inc).offerReport (.incident inc (s.capture == none))
  else s.offerReport (.incident inc false)

/-! ### Handoff contexts (sections 5.5 to 5.7) -/

/-- The handoff of a number. -/
def State.handoff? (s : State) (n : Nat) : Option Handoff := s.handoffs.find? (fun h => h.number == n)

/-- Write the status of a handoff. -/
def State.setStatus (s : State) (n : Nat) (st : HandoffStatus) : State :=
  { s with handoffs := s.handoffs.map (fun h => if h.number = n then { h with status := st } else h) }

/-- The context ends with its passage, its wait-list entry or a flush. -/
def State.dropHandoff (s : State) (n : Nat) : State :=
  { s with handoffs := s.handoffs.filter (fun h => h.number != n) }

/-- The record a handoff was made from: it stands in the wait list or in a passage of the sending slot
(R63). -/
def State.handoffRecord (s : State) (h : Handoff) : Record :=
  match s.waitList.find? (fun e => e.handoff == h.number) with
  | some e => s.record e.record
  | none =>
    match (s.slot h.frame.sourceSlot).zone.find? (fun p => p.handoff == .sent h.number) with
    | some p => s.record p.record
    | none => Record.blank

/-- R94, R95: a context that resolves in a passage stays there with its outcome; one in the wait list
leaves it, and its record is freed. -/
def State.resolve (s : State) (n : Nat) (o : HandoffOutcome) : State :=
  match s.waitList.find? (fun e => e.handoff == n) with
  | some e =>
    ({ s with waitList := s.waitList.eraseP (fun e => e.handoff == n) }.dropHandoff n).freeRecord e.record
  | none => s.setStatus n (.resolved o)

/-- R91: the HANDOFF_LOST alarm of a handoff. -/
def State.lostIncident (s : State) (h : Handoff) : Incident :=
  ⟨.handoffLost, some h.frame.sourceSlot, (s.handoffRecord h).tag, (s.handoffRecord h).companionTag,
    .handoffLost h.frame.targetStation h.frame.targetSlot h.frame.seq⟩

/-- R91: a PENDING context resolves as LOST, with the alarm and the fault latch (R129). -/
def State.lose (s : State) (n : Nat) : State :=
  match s.handoff? n with
  | some h =>
    match h.status with
    | .pending _ _ => ({ s with faultLatch := true }.raise (s.lostIncident h)).resolve n .lost
    | .resolved _ => s
  | none => s

/-- R91: the second attempt offers a second copy of the same frame. A copy that is discarded at once is
a second attempt expired (R92), told after its OUTQ_OVERFLOW alarm (log 27). An offer of urgency 1 discards no
HANDOFF but itself (R149). -/
def State.secondAttempt (s : State) (n : Nat) : State :=
  match s.handoff? n with
  | none => s
  | some h =>
    match enqueue (.offered (.handoff h.frame) (some n)) s.port.queue with
    | (q, none) => (s.setStatus n (.pending .second none)).setQueue q
    | (q, some e) =>
      match e.owner with
      | none => ((s.setStatus n (.pending .second none)).setQueue q).captureAlarm (overflowIncident e)
      | some m =>
        (((s.setStatus n (.pending .second none)).setQueue q).captureAlarm (overflowIncident e)).lose m

/-- R92: a discarded HANDOFF is an attempt whose reply timer has expired at once; one whose context is
no longer PENDING has no effect on the handoff unit. -/
def State.attemptExpired (s : State) (n : Nat) : State :=
  match s.handoff? n with
  | some h =>
    match h.status with
    | .pending .first _ => s.secondAttempt n
    | .pending .second _ => s.lose n
    | .resolved _ => s
  | none => s

/-- An offer to the transmit queue (R147 to R149), which takes offers only in service (R141). A
discarded HANDOFF is told to the handoff unit (R150), after the OUTQ_OVERFLOW alarm of the discard has gone to
the capture: that order, and so which alarm an empty capture holds where the context is LOST at once (R92), is
the model's choice (log 27). -/
def State.offer (s : State) (f : OutFrame) (owner : Option Nat) : State :=
  if s.serving then
    match enqueue (.offered f owner) s.port.queue with
    | (q, none) => s.setQueue q
    | (q, some e) =>
      match e.owner with
      | none => (s.setQueue q).captureAlarm (overflowIncident e)
      | some n => ((s.setQueue q).captureAlarm (overflowIncident e)).attemptExpired n
  else s

/-- R131, R132: a HOLD_STATE with the mask as it stands is offered, and the period timer restarted. -/
def State.offerHoldState (s : State) : State :=
  if s.serving then
    { s with periodTimer := some (s.time + Config.periodTime) }.offer (.holdState s.holdMask s.nodeState) none
  else s

end Sys2Proof.Machine
end

