-- ==== Sys2Proof/Machine/Settle.lean ====
section
/-! DEFINITION. What follows every event, whichever block took it: the ghost timers (R81), the hold
mask formed once after the event, with its HOLD_STATE (R128, R131), the hump signal (R125) and the
fault line (R156). Each is decided from the conditions as they stand after the event. -/

namespace Sys2Proof.Machine

/-! ### Ghost occupancy (R81) -/

/-- R81: the fouling circuit of a slot in service reports occupied while no passage in the zone list has
axles out below its axles in. -/
def Slot.ghost (x : Slot) : Bool :=
  x.service != .off && x.foulingOccupied && !x.zone.any Passage.isOpen

/-- R81: the ghost timer starts when the condition begins, and stops when it ends (log 22). -/
def Slot.timeGhost (before x : Slot) (now gapTime : Nat) : Slot :=
  if x.ghost then
    if before.ghost then x else { x with ghostTimer := some (now + gapTime) }
  else { x with ghostTimer := none }

/-- The ghost timer of one slot after an event. -/
def State.timeGhost (before s : State) (k : SlotIx) : State :=
  s.setSlot k ((before.slot k).timeGhost (s.slot k) s.time (s.slotCfg k).gapTime)

/-- The ghost timers of the four slots after an event. -/
def State.timeGhosts (before s : State) : State :=
  before.timeGhost (before.timeGhost (before.timeGhost (before.timeGhost s 0) 1) 2) 3

/-! ### The hold mask (R127) -/

/-- R27: the slot's approach queue holds at least its pressure threshold. -/
def State.pressed (s : State) (k : SlotIx) : Bool :=
  (s.slot k).service != .off && decide ((s.slotCfg k).pressureThreshold ≤ (s.slot k).queue.length)

/-- R29: a record carries the overdue mark. -/
def Record.isMarked (r : Record) : Bool :=
  match r.timing with
  | some t => t.marked
  | none => false

/-- R29: a queued record of the slot carries the overdue mark. -/
def State.hasOverdue (s : State) (k : SlotIx) : Bool :=
  (s.slot k).queue.any (fun i => (s.record i).isMarked)

/-- R83: a passage in the slot's zone list is STALLED. -/
def Slot.hasStall (x : Slot) : Bool := x.zone.any Passage.stalled

/-- A condition combined over the slots of the node (R127, R128). -/
def anySlot (f : SlotIx → Bool) : Bool := f 0 || f 1 || f 2 || f 3

/-- The slot is in the service state. -/
def State.inState (s : State) (x : ServiceState) (k : SlotIx) : Bool := (s.slot k).service == x

/-- R127: the mask formed from the conditions as they now stand. -/
def State.formMask (s : State) : HoldMask where
  settling := anySlot (s.inState .settling)
  queuePressure := anySlot s.pressed
  stall := anySlot (fun k => (s.slot k).hasStall)
  overdue := anySlot s.hasOverdue
  pointFailed := anySlot (s.inState .failed)
  slotBlocked := anySlot (s.inState .blocked)
  handoffFault := s.faultLatch
  incidentFrozen := s.capture.isSome && s.cfg.holdOnIncident

/-- R128, R131: the mask is formed again, and a HOLD_STATE is offered if it has changed. -/
def State.updateMask (s : State) : State :=
  if s.formMask = s.holdMask then s else { s with holdMask := s.formMask }.offerHoldState

/-! ### The hump signal (R125) and the fault line (R156) -/

/-- R140: the roster condition of one entry. -/
def RosterEntry.clear (e : RosterEntry) : Bool :=
  e.presence == .present && !e.restarted && e.lastMask.isZero

/-- R125: the head of the cut list exists and is releasable. -/
def State.headReleasable (s : State) : Bool :=
  match s.cutList with
  | [] => false
  | i :: _ => !(s.record i).inspect

/-- R125: the aspect that the conditions give; a tree node's signal lines stay off. -/
def State.decideSignal (s : State) : Aspect :=
  if s.crestServing && s.roster.all RosterEntry.clear && s.holdMask.isZero && s.headReleasable then
    if s.releaseInterval.isSome then .slow else .push
  else .stop

/-- R156: the fault line is on while the capture is frozen, a slot is FAILED, or the node is in
CONFIG_FAULT. -/
def State.decideFaultLine (s : State) : Bool :=
  s.capture.isSome || anySlot (s.inState .failed) || s.nodeState == .configFault

/-- The lines that follow from the state. -/
def State.setLines (s : State) : State :=
  { s with signal := s.decideSignal, faultLine := s.decideFaultLine }

/-! ### After an event -/

/-- What follows an event that found the node in `before` and left it in `s`. The mask is formed a
second time because the offer of a HOLD_STATE to a full queue can itself raise an alarm or lose a
handoff (R149, R92); the second HOLD_STATE then takes the place of the first (R148; log 10). -/
def State.settle (before s : State) : State :=
  (before.timeGhosts s).updateMask.updateMask.setLines

/-- The outcome of an event. -/
def finish (before after : State) : Host.Outcome State Fault Refusal := .next (before.settle after)

end Sys2Proof.Machine
end

