-- ==== Sys2Proof/Machine/Bus.lean ====
section
/-! DEFINITION. The sending side of the bus port (sections 8.6 and 8.7): attempts and their three ends,
the MUTE state, and the receiver's footing on the bus (R142). -/

namespace Sys2Proof.Machine

/-- Write the port. -/
def State.setPort (s : State) (p : Port) : State := { s with port := p }

/-! ### Attempts (R150, R151) -/

/-- R150, R151: the port may start its head: in ACTIVE at each idle bus, in MUTE once for each expiry of
the retry timer. -/
def Port.mayStart (p : Port) : Bool :=
  match p.mode with
  | .active => true
  | .mute => p.retry == .attemptPending

/-- R151: in MUTE the attempt that was pending is now being made. -/
def RetryTimer.begun : RetryTimer → RetryTimer
  | .attemptPending => .stopped
  | .running d => .running d
  | .stopped => .stopped

/-- R150: the port starts the head of its queue; the bus is idle, which gives the receiver its footing
too (R142; log 8). -/
def Port.start (p : Port) : Port :=
  match p.queue with
  | [] => p
  | e :: rest =>
    { p with
      queue := { e with onBus := true, replaced := false } :: rest
      sending := some e.frame
      retry := p.retry.begun }

/-- TRANSMIT_ATTEMPT: an idle bus. An attempt already being made is not begun again (log 5). -/
def execTransmitAttempt (s : State) : Host.Outcome State Fault Refusal :=
  if s.serving ∧ s.port.sending = none ∧ s.port.mayStart = true then
    finish s (s.setPort { s.port.start with seenIdle := true })
  else if s.serving then finish s (s.setPort { s.port with seenIdle := true })
  else finish s s

/-- The attempt on the bus has ended without success: the frame keeps its place, and a HOLD_STATE that
was replaced is attempted next with its new contents (R148). -/
def Port.endAttempt (p : Port) : Port :=
  { p with
    queue := p.queue.map (fun e => { e with onBus := false, replaced := false })
    sending := none }

/-- R151: in MUTE an attempt that fails or loses arbitration starts the retry timer again. -/
def Port.retryLater (p : Port) (now : Nat) : Port :=
  { p with retry := .running (now + Config.muteRetryTime) }

/-- R144, R151: lost arbitration is not a failure. -/
def Port.loseArbitration (p : Port) (now : Nat) : Port :=
  match p.mode with
  | .active => p.endAttempt
  | .mute => p.endAttempt.retryLater now

/-- ARBITRATION_LOST; without an attempt on the bus there is none to lose (log 5). -/
def execArbitrationLost (s : State) : Host.Outcome State Fault Refusal :=
  match s.port.sending with
  | none => finish s s
  | some _ => finish s (s.setPort (s.port.loseArbitration s.time))

/-- R150, R151: a transmit error counts as a failure, and the sixteenth in a row brings MUTE. Breaking off its
own frame does not cost the port its footing on the bus (R142), which is the model's choice (log 28). -/
def Port.fail (p : Port) (now : Nat) : Port :=
  match p.mode with
  | .mute => p.endAttempt.retryLater now
  | .active =>
    if p.failures + 1 < Config.muteThreshold then { p.endAttempt with failures := p.failures + 1 }
    else { p.endAttempt with
      failures := Config.muteThreshold
      mode := .mute
      retry := .running (now + Config.muteRetryTime) }

/-- TRANSMIT_ERROR; without an attempt on the bus there is none to break off (log 5). -/
def execTransmitError (s : State) : Host.Outcome State Fault Refusal :=
  match s.port.sending with
  | none => finish s s
  | some _ => finish s (s.setPort (s.port.fail s.time))

/-! ### Success (R148, R150) -/

/-- R148, R150: the frame that was sent leaves the queue, unless it is a HOLD_STATE whose contents were
replaced meanwhile, which stays at its place to be sent again. -/
def sentQueue (q : List TxEntry) : List TxEntry :=
  (q.filter (fun e => !e.onBus || e.replaced)).map (fun e => { e with onBus := false, replaced := false })

/-- R150, R151: a success sets the count to 0 and brings a MUTE port back to ACTIVE. -/
def Port.succeed (p : Port) : Port :=
  { p with
    queue := sentQueue p.queue
    sending := none
    failures := 0
    mode := .active
    retry := .stopped }

/-- R90: the sending of a HANDOFF starts the reply timer of its context, while that is PENDING. -/
def State.startReplyTimer (s : State) (n : Nat) : State :=
  match s.handoff? n with
  | none => s
  | some h =>
    match h.status with
    | .pending a _ => s.setStatus n (.pending a (some (s.time + s.cfg.handoffTimeout)))
    | .resolved _ => s

/-- R150: the owner of a frame is told that it was sent. -/
def State.tellSent (s : State) (f : OutFrame) (owner : Option Nat) : State :=
  match f with
  | .start _ _ _ => { s with startSent := true }
  | .handoff _ =>
    match owner with
    | some n => s.startReplyTimer n
    | none => s
  | .holdState _ _ => s
  | .handoffReply _ _ _ _ _ => s
  | .commandReply _ _ _ => s
  | .released _ _ _ _ _ _ _ => s
  | .arrival _ _ _ _ _ _ _ _ _ => s
  | .incident _ _ => s
  | .watchHit _ _ _ => s
  | .status _ _ _ _ _ _ => s

/-- The handoff that the frame on the bus belongs to. -/
def Port.sendingOwner (p : Port) : Option Nat :=
  match p.queue.find? TxEntry.onBus with
  | some e => e.owner
  | none => none

/-- FRAME_SENT; without an attempt on the bus there is none to succeed (log 5). -/
def execFrameSent (s : State) : Host.Outcome State Fault Refusal :=
  match s.port.sending with
  | none => finish s s
  | some f => finish s ((s.setPort s.port.succeed).tellSent f s.port.sendingOwner)

/-! ### MUTE_RETRY_EXPIRY (R151) -/

/-- MUTE_RETRY_EXPIRY: one attempt is now pending. It is made at the next idle bus, once a frame is in
the queue (log 9). A timer that does not run does not expire (log 5). -/
def execMuteRetryExpiry (s : State) : Host.Outcome State Fault Refusal :=
  match s.port.retry with
  | .running d => finish s ((s.reach d).setPort { s.port with retry := .attemptPending })
  | .stopped => finish s s
  | .attemptPending => finish s s

/-! ### BUS_IDLE (R142) -/

/-- The port reads the bus once its bit rate is known (R141, R163, R165, R166). -/
def State.listening (s : State) : Bool := s.nodeState == .census || s.nodeState == .inService

/-- BUS_IDLE: the port has seen the bus idle and may take the next frame. -/
def execBusIdle (s : State) : Host.Outcome State Fault Refusal :=
  if s.listening then finish s (s.setPort { s.port with seenIdle := true }) else finish s s

end Sys2Proof.Machine
end

