-- ==== Sys2Proof/Machine/Points.lean ====
section
/-! DEFINITION. Point control (chapter 3): throws, proof and failures, the leg decisions, and the
commands that act on a point: DETECTION_CHANGE, FOULING_OCCUPIED, THROW_DEADLINE, PAUSE_END. -/

namespace Sys2Proof.Machine

/-! ### Point states -/

/-- R39, R41: a leg is proved when its input is asserted and the other is not. -/
def pointOfInputs (provedNormal provedReverse : Bool) : PointState :=
  match provedNormal, provedReverse with
  | true, false => .provedNormal
  | false, true => .provedReverse
  | true, true => .unproved
  | false, false => .unproved

/-- The point state that proves a leg. -/
def provedIn : Leg → PointState
  | .normal => .provedNormal
  | .reverse => .provedReverse

/-- The point state as the detection inputs now stand. -/
def Slot.detected (x : Slot) : PointState := pointOfInputs x.provedNormal x.provedReverse

/-- A throw is in progress. -/
def Slot.isMoving (x : Slot) : Bool :=
  match x.point with
  | .moving _ => true
  | .provedNormal => false
  | .provedReverse => false
  | .unproved => false

/-- R40: an event that takes the point out of MOVING or DRIVING turns the drive off as it changes the
state. -/
def Slot.rest (x : Slot) (p : PointState) : Slot :=
  { x with point := p, driveNormal := false, driveReverse := false }

/-- R40: the output toward the target is turned on. -/
def Slot.drive (x : Slot) (t : Throw) : Slot :=
  { x with point := .moving t, driveNormal := t.target == .normal, driveReverse := t.target == .reverse }

/-! ### Throws (sections 3.4 and 3.5) -/

/-- R44: what every throw needs of its slot. -/
def Slot.canThrow (x : Slot) (target : Leg) : Bool :=
  x.service == .inUse && !x.foulingOccupied && !x.isMoving && x.point != provedIn target

/-- R47: a throw starts. -/
def Slot.startThrow (x : Slot) (c : SlotConfig) (target : Leg) (now : Nat) : Slot :=
  x.drive ⟨target, c.retries, now + c.throwLimit, .driving⟩

/-- The leg that the record wants at the slot (R42). -/
def State.wantedLeg (s : State) (k : SlotIx) (r : RecIx) : Leg :=
  (s.slotCfg k).wantedLeg (s.record r).destination

/-- R44: the throw evaluation, with the queue head as target. -/
def State.evaluateThrow (s : State) (k : SlotIx) : State :=
  match (s.slot k).queue with
  | [] => s
  | r :: _ =>
    if (s.slot k).zone.isEmpty && (s.slot k).canThrow (s.wantedLeg k r) then
      s.setSlot k ((s.slot k).startThrow (s.slotCfg k) (s.wantedLeg k r) s.time)
    else s

/-- R45: the late-throw evaluation, with the new passage's record as target. -/
def State.lateThrow (s : State) (k : SlotIx) (r : RecIx) : State :=
  if (s.slot k).zone.isEmpty && (s.slot k).canThrow (s.wantedLeg k r) then
    s.setSlot k ((s.slot k).startThrow (s.slotCfg k) (s.wantedLeg k r) s.time)
  else s

/-- R53: a throw is abandoned; the point state is set from the inputs as they stand. -/
def Slot.abandon (x : Slot) : Slot := if x.isMoving then x.rest x.detected else x

/-- R37: the slot is made FAILED, and R40: leaving IN_USE turns the drive off. An OFF slot has no point
control. -/
def Slot.fail (x : Slot) : Slot :=
  if x.service = .off then x
  else { x.abandon with service := .failed, driveNormal := false, driveReverse := false }

/-- R37: a failure cause makes its slot FAILED and raises its alarm. -/
def State.failSlot (s : State) (k : SlotIx) (inc : Incident) : State :=
  (s.setSlot k (s.slot k).fail).raise inc

/-! ### Leg decisions (sections 3.3 and 3.6) -/

/-- R54: the intended leg, from the point state at the begin. -/
def Slot.intendedLeg (x : Slot) : Option Leg :=
  match x.point with
  | .provedNormal => some .normal
  | .provedReverse => some .reverse
  | .moving t => some t.target
  | .unproved => none

/-- R43: the STRAY notice. -/
def strayIncident (k : SlotIx) (r : Record) : Incident :=
  ⟨.stray, some k, r.tag, 0, .destination r.destination⟩

/-- R43: the STRAY decision for a record at a slot. -/
def State.decideStray (s : State) (k : SlotIx) (r : RecIx) : State :=
  if (s.record r).anonymous || (s.slotCfg k).inReach (s.record r).destination then s
  else if (s.record r).flags.stray then s
  else (s.addFlags r { stray := true }).raise (strayIncident k (s.record r))

/-- R55, R103: the intended leg is known and is not the leg the record wants. -/
def State.diverts (s : State) (k : SlotIx) (intended : Option Leg) (r : RecIx) : Bool :=
  match intended with
  | none => false
  | some leg => leg != s.wantedLeg k r

/-! ### DETECTION_CHANGE (R41, R48, R52) -/

/-- The detection input of a leg takes a new level. -/
def Slot.setInput (x : Slot) : Leg → Bool → Slot
  | .normal, b => { x with provedNormal := b }
  | .reverse, b => { x with provedReverse := b }

/-- R41: the DETECTION_LOST alarm; the slot is the one after the change. -/
def detectionIncident (k : SlotIx) (before : PointState) (x : Slot) : Incident :=
  ⟨.detectionLost, some k, 0, 0, .detectionLost before x.provedNormal x.provedReverse⟩

/-- R41: the point is proved in a leg. -/
def PointState.isProved : PointState → Bool
  | .provedNormal => true
  | .provedReverse => true
  | .moving _ => false
  | .unproved => false

/-- R41: an unmoving point follows its inputs; losing proof in SETTLING or IN_USE is a failure. -/
def State.followDetection (s : State) (k : SlotIx) : State :=
  let x := s.slot k
  if x.point.isProved && x.detected == .unproved && (x.service == .settling || x.service == .inUse) then
    (s.setSlot k { x with point := .unproved }).failSlot k (detectionIncident k x.point x)
  else s.setSlot k { x with point := x.detected }

/-- R48, R52: during a throw only proof of the target counts; it ends the throw, and a throw evaluation
follows. -/
def State.throwDetection (s : State) (k : SlotIx) (t : Throw) : State :=
  if (s.slot k).detected = provedIn t.target then
    (s.setSlot k ((s.slot k).rest (provedIn t.target))).evaluateThrow k
  else s

/-- A change of a detection input: the line takes its level, and a slot in service judges it. In the
census only the value at its end counts, and an OFF slot's lines are not read (R34, R166; log 4). -/
def State.changeDetection (s : State) (k : SlotIx) (input : Leg) (b : Bool) : State :=
  let x := s.slot k
  let s' := s.setSlot k (x.setInput input b)
  if s.slotServing k && x.setInput input b != x then
    match x.point with
    | .moving t => s'.throwDetection k t
    | .provedNormal => s'.followDetection k
    | .provedReverse => s'.followDetection k
    | .unproved => s'.followDetection k
  else s'

/-- DETECTION_CHANGE. -/
def execDetectionChange (k : SlotIx) (input : Leg) (b : Bool) (s : State) : Host.Outcome State Fault Refusal :=
  finish s (s.changeDetection k input b)

/-! ### FOULING_OCCUPIED (R51, R81) -/

/-- R51: the UNPROVED_UNDER_CUT alarm, with the tag of the youngest passage. -/
def underCutIncident (s : State) (k : SlotIx) (t : Throw) : Incident :=
  ⟨.unprovedUnderCut, some k,
    match (s.slot k).zone.getLast? with
    | some p => (s.record p.record).tag
    | none => 0,
    0, .underCut t.target t.phase⟩

/-- R51: an occupied report stops a throw and fails the slot. -/
def State.stopUnderCut (s : State) (k : SlotIx) : State :=
  match (s.slot k).point with
  | .moving t => (s.setSlot k ((s.slot k).rest .unproved)).failSlot k (underCutIncident s k t)
  | .provedNormal => s
  | .provedReverse => s
  | .unproved => s

/-- The fouling circuit reports occupied: point control's part (R51), and a new episode of occupancy for
the passage tracker (R81). A report that is no change, and one to a slot not in service, only leaves
the line at its level. -/
def State.occupyFouling (s : State) (k : SlotIx) : State :=
  let x := s.slot k
  if s.slotServing k && !x.foulingOccupied then
    (s.setSlot k { x with foulingOccupied := true, ghostRaised := false }).stopUnderCut k
  else s.setSlot k { x with foulingOccupied := true }

/-- FOULING_OCCUPIED. -/
def execFoulingOccupied (k : SlotIx) (s : State) : Host.Outcome State Fault Refusal :=
  finish s (s.occupyFouling k)

/-! ### THROW_DEADLINE and PAUSE_END (R49, R50) -/

/-- R50: the POINT_FAILED alarm, with the number of attempts made. -/
def pointFailedIncident (k : SlotIx) (c : SlotConfig) (t : Throw) : Incident :=
  ⟨.pointFailed, some k, 0, 0, .pointFailed t.target (c.retries + 1)⟩

/-- R49, R50: the deadline of a DRIVING throw arrives unproved. -/
def State.throwExpired (s : State) (k : SlotIx) (t : Throw) : State :=
  if t.attemptsLeft = 0 then
    (s.setSlot k ((s.slot k).rest .unproved)).failSlot k (pointFailedIncident k (s.slotCfg k) t)
  else
    s.setSlot k ((s.slot k).rest
      (.moving ⟨t.target, t.attemptsLeft - 1, s.time + Config.pauseTime, .pausing⟩))

/-- THROW_DEADLINE: only a DRIVING throw has a deadline (R52; log 5). -/
def execThrowDeadline (k : SlotIx) (s : State) : Host.Outcome State Fault Refusal :=
  match (s.slot k).point with
  | .moving ⟨target, left, deadline, .driving⟩ =>
    finish s ((s.reach deadline).throwExpired k ⟨target, left, deadline, .driving⟩)
  | .moving ⟨_, _, _, .pausing⟩ => finish s s
  | .provedNormal => finish s s
  | .provedReverse => finish s s
  | .unproved => finish s s

/-- R49: the pause ends with the throw still MOVING: DRIVING again, with a new deadline. -/
def State.resumeThrow (s : State) (k : SlotIx) (t : Throw) : State :=
  s.setSlot k ((s.slot k).drive
    ⟨t.target, t.attemptsLeft, s.time + (s.slotCfg k).throwLimit, .driving⟩)

/-- PAUSE_END: only a PAUSING throw has a pause to end (R49; log 5). -/
def execPauseEnd (k : SlotIx) (s : State) : Host.Outcome State Fault Refusal :=
  match (s.slot k).point with
  | .moving ⟨target, left, deadline, .pausing⟩ =>
    finish s ((s.reach deadline).resumeThrow k ⟨target, left, deadline, .pausing⟩)
  | .moving ⟨_, _, _, .driving⟩ => finish s s
  | .provedNormal => finish s s
  | .provedReverse => finish s s
  | .unproved => finish s s

/-! ### SLOT_BLOCK and SLOT_FREE (R56, R57) -/

/-- R56: SLOT_BLOCK at a slot that is not OFF. -/
def State.blockSlot (s : State) (k : SlotIx) : CommandResult × State :=
  let x := s.slot k
  if x.service = .inUse ∨ x.service = .failed then
    (.done, s.setSlot k { x.abandon with service := .blocked, driveNormal := false, driveReverse := false })
  else (.refusedState, s)

/-- R57: the leg a point freed UNPROVED is thrown to. -/
def State.freeTarget (s : State) (k : SlotIx) : Leg :=
  match (s.slot k).queue with
  | r :: _ => s.wantedLeg k r
  | [] => .normal

/-- R57: SLOT_FREE at a slot that is not OFF. -/
def State.freeSlot (s : State) (k : SlotIx) : CommandResult × State :=
  let x := s.slot k
  if (x.service = .failed ∨ x.service = .blocked) ∧ x.zone = [] ∧ x.foulingOccupied = false then
    let y : Slot := { x.rest x.detected with service := .inUse }
    if y.point = .unproved then
      (.done, s.setSlot k (y.startThrow (s.slotCfg k) (s.freeTarget k) s.time))
    else (.done, (s.setSlot k y).evaluateThrow k)
  else (.refusedState, s)

end Sys2Proof.Machine
end

