-- ==== Sys2Proof/Machine/Queues.lean ====
section
/-! DEFINITION. Approach queues and feed sequences (chapter 2): distance, insertion, consumption at
passage begin, the merge's taking of the head, emptying, and OVERDUE_EXPIRY. -/

namespace Sys2Proof.Machine

/-! ### Distance and order (R19 to R21) -/

/-- R19: the distance of a sequence from the expected next sequence, modulo 256. -/
def distance (expected seq : Seq) : Nat := (seq - expected).toNat

/-- The feed sequence of a queued record; a record in a queue always has one (R6). -/
def State.queuedSeq (s : State) (i : RecIx) : Seq := (s.record i).feedSeq.getD 0

/-- R21: directly before the first record whose distance is greater than its own, or at the tail. -/
def insertByDistance (dist : RecIx → Nat) (r : RecIx) : List RecIx → List RecIx
  | [] => [r]
  | x :: xs => if dist r < dist x then r :: x :: xs else x :: insertByDistance dist r xs

/-- R7: the queue timing written at entry. -/
def queueTiming (now overdueTime : Nat) : QueueTiming := ⟨now, now + overdueTime, false⟩

/-- R21: a record enters the approach queue under a feed sequence. An UNSYNCED slot syncs on it. A record
placed at the front changes the head (R22), and point control evaluates (R44). -/
def State.insertRecord (s : State) (k : SlotIx) (seq : Seq) (r : RecIx) : State :=
  let x := s.slot k
  let e := x.expected.getD seq
  let s1 := s.setRecord r { s.record r with
    feedSeq := some seq, timing := some (queueTiming s.time (s.slotCfg k).overdueTime) }
  let q := insertByDistance (fun i => distance e (s1.queuedSeq i)) r x.queue
  let s2 := s1.setSlot k { x with expected := some e, queue := q }
  if q.head? = some r then s2.evaluateThrow k else s2

/-! ### The recent list (R23) -/

/-- R23: an entry is added at the tail; before a fifth is added the oldest is removed. -/
def pushRecent (e : RecentEntry) (l : List RecentEntry) : List RecentEntry :=
  (if l.length < Config.recentCapacity then l else l.tail) ++ [e]

/-- R18, R23: a slot consumes a sequence: the expected next sequence advances by one modulo 256, and the
recent list takes an entry. -/
def Slot.consume (x : Slot) (seq : Seq) (kind : RecentKind) (tag : Tag) : Slot :=
  { x with expected := some (seq + 1), recent := pushRecent ⟨seq, kind, tag⟩ x.recent }

/-! ### Consumption at passage begin (R24, R25) -/

/-- R25: the UNANNOUNCED_CUT alarm, with the tag of a head that stands ahead as second tag. -/
def unannouncedIncident (s : State) (k : SlotIx) (consumed : Option Seq) : Incident :=
  ⟨.unannouncedCut, some k, 0,
    match (s.slot k).queue with
    | r :: _ => (s.record r).tag
    | [] => 0,
    .unannounced consumed⟩

/-- What consumption gives to the passage that begins (R24). -/
structure Consumed where
  state : State
  record : RecIx
  seq : Option Seq

/-- R24, first row: the head at distance 0 becomes the passage's record; its queue timing is removed. -/
def State.consumeHead (s : State) (k : SlotIx) (e : Seq) (r : RecIx) (rest : List RecIx) : Consumed where
  state := (s.setRecord r { s.record r with timing := none }).setSlot k
    { (s.slot k).consume e .announced (s.record r).tag with queue := rest }
  record := r
  seq := some e

/-- R24, second row: an anonymous record at a SYNCED slot, which lets one sequence go by. -/
def State.consumeAnonymous (s : State) (k : SlotIx) (e : Seq) : Option Consumed :=
  match s.allocate with
  | none => none
  | some (r, s') =>
    some ⟨(s'.setSlot k ((s.slot k).consume e .anonymous 0)).raise (unannouncedIncident s k (some e)), r, some e⟩

/-- R24, third row: an anonymous record at an UNSYNCED slot. -/
def State.consumeUnsynced (s : State) (k : SlotIx) : Option Consumed :=
  match s.allocate with
  | none => none
  | some (r, s') => some ⟨s'.raise (unannouncedIncident s k none), r, none⟩

/-- R24: the slot supplies the record of a passage that begins. None only if the pool were empty, which
R12 excludes (log 12). -/
def State.consume (s : State) (k : SlotIx) : Option Consumed :=
  match (s.slot k).expected with
  | none => s.consumeUnsynced k
  | some e =>
    match (s.slot k).queue with
    | [] => s.consumeAnonymous k e
    | r :: rest =>
      if distance e (s.queuedSeq r) = 0 then some (s.consumeHead k e r rest)
      else s.consumeAnonymous k e

/-! ### The merge's part of the queue (R26) -/

/-- R26: the head leaves as a consumed sequence and its record is freed; the head has changed. -/
def State.absorbHead (s : State) (k : SlotIx) (e : Seq) (r : RecIx) (rest : List RecIx) : State :=
  (((s.setSlot k { (s.slot k).consume e .announced (s.record r).tag with queue := rest }).freeRecord r)).evaluateThrow k

/-! ### Emptying the queue (R30, R31) -/

/-- R30: every queued record is freed, head first, and the slot becomes UNSYNCED with an empty recent
list. A queue that was not empty has changed its head (R22). -/
def State.emptyQueue (s : State) (k : SlotIx) : State :=
  let x := s.slot k
  let s' := (s.setSlot k { x with expected := none, queue := [], recent := [] }).freeRecords x.queue
  if x.queue.isEmpty then s' else s'.evaluateThrow k

/-! ### OVERDUE_EXPIRY (R28) -/

/-- R28: the OVERDUE notice. -/
def overdueIncident (k : SlotIx) (r : Record) : Incident :=
  ⟨.overdue, some k, r.tag, 0, .overdue r.feedSeq⟩

/-- R28: the record is marked and the notice raised. -/
def State.markOverdue (s : State) (k : SlotIx) (i : RecIx) (t : QueueTiming) : State :=
  ((s.reach t.deadline).setRecord i { s.record i with timing := some { t with marked := true } }).raise
    (overdueIncident k (s.record i))

/-- R28: a deadline expires at most once, and only while its record is queued. -/
def State.expireOverdue (s : State) (k : SlotIx) (seq : Seq) : State :=
  if s.slotServing k then
    match (s.slot k).queue.find? (fun i => s.queuedSeq i == seq) with
    | none => s
    | some i =>
      match (s.record i).timing with
      | none => s
      | some t => if t.marked then s else s.markOverdue k i t
  else s

/-- OVERDUE_EXPIRY. -/
def execOverdueExpiry (k : SlotIx) (seq : Seq) (s : State) : Host.Outcome State Fault Refusal :=
  finish s (s.expireOverdue k seq)

end Sys2Proof.Machine
end

