-- ==== Sys2Proof/Machine/Handoffs.lean ====
section
/-! DEFINITION. The handoff unit (chapter 5): the receiver's rules, which HANDOFF frames, local handoffs
and crest releases share (R98 to R104); the sending side (R86 to R89); the wait list (R96); and
REPLY_TIMEOUT. -/

namespace Sys2Proof.Machine

/-! ### Receiving (section 5.9) -/

/-- Where a handoff comes from (R98): a leg of a slot of a node, or the crest feed. -/
inductive FeedSource where
  | leg (node slot : Nat) (leg : Leg)
  | crest
  deriving DecidableEq, Repr

/-- A handoff offered to a slot: its source, its sequence, what it carries, and, for a crest release,
the record offered (R89). -/
structure Announcement where
  source : FeedSource
  seq : Seq
  contents : CutContents
  offered : Option RecIx
  deriving DecidableEq, Repr

/-- The node a LATE_HANDOFF names as source (R104, R120). -/
def FeedSource.node : FeedSource → Nat
  | .leg n _ _ => n
  | .crest => 0

/-- R98: the slot's configured feed is the handoff's source; for a crest release only the feed node is
compared. -/
def SlotConfig.fedBy (c : SlotConfig) : FeedSource → Bool
  | .leg n k l => c.feedNode == n && c.feedSlot == k && c.feedLeg == l
  | .crest => c.feedNode == 0

/-- R100, R101: the record is allocated and written from the handoff, or is the record offered, and is
inserted (R21). -/
def State.takeAnnounced (s : State) (k : SlotIx) (a : Announcement) : State × Receipt :=
  match a.offered with
  | some r => (s.insertRecord k a.seq r, .queued)
  | none =>
    match s.allocate with
    | none => (s, .refusedFull)
    | some (r, s') => ((s'.setRecord r a.contents.newRecord).insertRecord k a.seq r, .queued)

/-- R103, R104: the LATE_HANDOFF alarm. -/
def lateIncident (k : SlotIx) (a : Announcement) (adopted : Bool) : Incident :=
  ⟨.lateHandoff, some k, a.contents.tag, 0, .lateHandoff adopted a.seq a.source.node⟩

/-- R103: the record of the anonymous passage after adoption. -/
def Record.adopt (r : Record) (seq : Seq) (c : CutContents) : Record :=
  { r with
    tag := c.tag
    destination := c.destination
    originalDestination := c.originalDestination
    expectedAxles := c.expectedAxles
    cutClass := c.cutClass
    feedSeq := some seq
    companion := match r.companion with
      | some x => some x
      | none => c.companion
    flags := (r.flags.union c.flags).union { adopted := true } }

/-- R62: the countdown is absent while the expected count is unknown. -/
def countdownFor (expected axlesIn : Nat) : Option Nat :=
  if expected = 0 then none else some (expected - axlesIn)

/-- R85: the phase of an adopted passage follows the record's new expected axles. A COMMITTED passage
keeps its phase (its countdown: log 13). -/
def Passage.adopt (p : Passage) (expected : Nat) : Passage :=
  if p.phase = .committed then { p with countdown := countdownFor expected p.axlesIn }
  else if expected = 0 then { p with phase := .committing, countdown := none }
  else if p.axlesIn < expected then
    { p with phase := .committing, countdown := some (expected - p.axlesIn), excess := 0 }
  else { p with phase := .trailing, countdown := some 0, excess := p.axlesIn - expected }

/-- R103: the recent entry of an adopted sequence becomes announced, in the same place. -/
def adoptRecent (seq : Seq) (tag : Tag) (l : List RecentEntry) : List RecentEntry :=
  l.map (fun e => if e.seq = seq then ⟨seq, .announced, tag⟩ else e)

/-- R103: the identity is written into the passage at a place of the zone list. -/
def State.writeAdoption (s : State) (k : SlotIx) (i : Nat) (p : Passage) (a : Announcement) : State :=
  (s.setRecord p.record ((s.record p.record).adopt a.seq a.contents)).setSlot k
    { s.slot k with
      zone := (s.slot k).zone.set i (p.adopt a.contents.expectedAxles)
      recent := adoptRecent a.seq a.contents.tag (s.slot k).recent }

/-- R103: after the STRAY decision, a record whose wanted leg is not the intended one is DIVERTED. -/
def State.divertAdopted (s : State) (k : SlotIx) (p : Passage) : State :=
  if s.diverts k p.intended p.record then s.addFlags p.record { diverted := true } else s

/-- R103: an adoption. -/
def State.adopt (s : State) (k : SlotIx) (i : Nat) (p : Passage) (a : Announcement) : State :=
  (((s.writeAdoption k i p a).decideStray k p.record).divertAdopted k p).raise (lateIncident k a true)

/-- R104: a behind handoff that nothing takes. -/
def State.refuseLate (s : State) (k : SlotIx) (a : Announcement) : State × Receipt :=
  (s.raise (lateIncident k a false), .late)

/-- R10, R85: a passage that began anonymously and has adopted no handoff. By R6 its record is the one without
a feed sequence: an announced record keeps the sequence it was queued under, and an adoption writes one. -/
def State.isAnonymous (s : State) (p : Passage) : Bool := (s.record p.record).feedSeq.isNone

/-- R85, R103, R104: the recent list holds the sequence as anonymous: it is adopted into the anonymous passage
that consumed it, if that passage has taken no forward exit axle. A passage that began announced under the same
number, before a START or a SLOT_FLUSH, is not meant. Where two anonymous passages hold the sequence, the older
is meant, which is the model's choice (log 24). -/
def State.receiveAnonymous (s : State) (k : SlotIx) (a : Announcement) : State × Receipt :=
  match (s.slot k).zone.findIdx? (fun p => p.consumed == some a.seq && s.isAnonymous p) with
  | none => s.refuseLate k a
  | some i =>
    match s.passage k i with
    | none => s.refuseLate k a
    | some p =>
      match p.taken with
      | some _ => s.refuseLate k a
      | none => (s.adopt k i p a, .adopted)

/-- R102: a behind handoff is looked for in the recent list. -/
def State.receiveBehind (s : State) (k : SlotIx) (a : Announcement) : State × Receipt :=
  match (s.slot k).recent.find? (fun e => e.seq == a.seq) with
  | none => s.refuseLate k a
  | some e =>
    match e.kind with
    | .announced => if e.tag = a.contents.tag then (s, .duplicate) else s.refuseLate k a
    | .anonymous => s.receiveAnonymous k a

/-- R101: a handoff at distance 0 to 127. -/
def State.receiveAhead (s : State) (k : SlotIx) (a : Announcement) : State × Receipt :=
  if (s.slot k).queue.any (fun i => s.queuedSeq i == a.seq) then (s, .duplicate)
  else if Config.queueCapacity ≤ (s.slot k).queue.length then (s, .refusedFull)
  else s.takeAnnounced k a

/-- R98 to R104: the receiver's rules, in their order. -/
def State.receive (s : State) (k : SlotIx) (a : Announcement) : State × Receipt :=
  if (s.slot k).service = .off ∨ (s.slotCfg k).fedBy a.source = false then (s, .refusedUnknownFeed)
  else if (s.slot k).service = .settling then (s, .refusedNotReady)
  else
    match (s.slot k).expected with
    | none => s.takeAnnounced k a
    | some e =>
      if distance e a.seq < Config.behindDistance then s.receiveAhead k a else s.receiveBehind k a

/-! ### Refused outcomes at the sender (R89, R94, R120) -/

/-- R94: the HANDOFF_REFUSED alarm. -/
def refusedIncident (k : SlotIx) (tag companion : Tag) (result : HandoffResult) (station slot : Nat)
    (seq : Seq) : Incident :=
  ⟨.handoffRefused, some k, tag, companion, .handoffRefused result station slot seq⟩

/-- R94, R129: a refused outcome raises its alarm and sets the fault latch. -/
def State.refuseHandoff (s : State) (inc : Incident) : State := { s with faultLatch := true }.raise inc

/-! ### Sending (sections 5.1 to 5.4) -/

/-- R87: the feed counter of a slot and leg. -/
def Slot.feedCounter (x : Slot) : Leg → Seq
  | .normal => x.feedNormal
  | .reverse => x.feedReverse

/-- R87: the counter advances by one, modulo 256. -/
def Slot.advanceFeed (x : Slot) : Leg → Slot
  | .normal => { x with feedNormal := x.feedNormal + 1 }
  | .reverse => { x with feedReverse := x.feedReverse + 1 }

/-- R4, R88: the axle count a handoff carries. -/
def Passage.carriedAxles (p : Passage) (r : Record) : Nat :=
  if p.phase = .committed then p.axlesIn else r.expectedAxles

/-- Write what a passage knows of its handoff. -/
def State.setHandoff (s : State) (k : SlotIx) (i : Nat) (h : PassageHandoff) : State :=
  match s.passage k i with
  | none => s
  | some p => s.setPassage k i { p with handoff := h }

/-- R88: a HANDOFF frame to a slot of another node; the context becomes PENDING, attempt 1. -/
def State.sendHandoff (s : State) (k : SlotIx) (i : Nat) (f : HandoffFrame) : State :=
  let s1 := s.setHandoff k i (.sent s.nextHandoff)
  let s2 := { s1 with
    handoffs := s1.handoffs ++ [({ number := s.nextHandoff, frame := f, status := .pending .first none } : Handoff)]
    nextHandoff := s.nextHandoff + 1 }
  s2.offer (.handoff f) (some s.nextHandoff)

/-- R89: what a local handoff's result does for the sender. -/
def State.localOutcome (s : State) (k : SlotIx) (r : RecIx) (target : Nat) (seq : Seq)
    (result : HandoffResult) : State :=
  if result.refuses then
    s.refuseHandoff (refusedIncident k (s.record r).tag (s.record r).companionTag result s.cfg.node target seq)
  else s

/-- R89, R98: the receiver's rules for a handoff to a slot of this node; a slot number above 3 is refused. -/
def State.receiveLocal (s : State) (target : Nat) (a : Announcement) : State × Receipt :=
  match slotOfNat target with
  | none => (s, .refusedUnknownFeed)
  | some t => s.receive t a

/-- R89: a local handoff; the context becomes RESOLVED with the receiver's result. -/
def State.handOffLocally (s : State) (k : SlotIx) (i : Nat) (r : RecIx) (target : Nat)
    (a : Announcement) : State :=
  let received := s.receiveLocal target a
  (received.1.setHandoff k i (.local received.2.result)).localOutcome k r target a.seq received.2.result

/-- R86, R87: at a passage's first forward exit axle on a leg, the leg's end decides. -/
def State.beginHandoff (s : State) (k : SlotIx) (i : Nat) (p : Passage) (leg : Leg) : State :=
  match (s.slotCfg k).legEnd leg with
  | .track _ => s
  | .slot node target =>
    let seq := (s.slot k).feedCounter leg
    let contents := (s.record p.record).contents (p.carriedAxles (s.record p.record))
    let s1 := s.setSlot k ((s.slot k).advanceFeed leg)
    if node = s.cfg.node then
      s1.handOffLocally k i p.record target ⟨.leg s.cfg.node k.val leg, seq, contents, none⟩
    else s1.sendHandoff k i ⟨node, target, k, leg, seq, contents⟩

/-! ### The wait list (R95, R96) -/

/-- R96: a full wait list first resolves its oldest entry as LOST. -/
def State.makeRoom (s : State) : State :=
  if s.waitList.length < Config.waitCapacity then s
  else
    match s.waitList with
    | [] => s
    | e :: _ => s.lose e.handoff

/-- R79, R95: a record whose handoff is PENDING joins the wait list at its tail. -/
def State.joinWaitList (s : State) (r : RecIx) (n : Nat) : State :=
  { s.makeRoom with waitList := s.makeRoom.waitList ++ [⟨r, n⟩] }

/-! ### REPLY_TIMEOUT (R91) -/

/-- The number of the handoff whose context stands at a place. -/
def State.handoffAt (s : State) : ContextPlace → Option Nat
  | .wait i =>
    match s.waitList[i]? with
    | some e => some e.handoff
    | none => none
  | .zone k i =>
    match s.passage k i with
    | none => none
    | some p =>
      match p.handoff with
      | .sent n => some n
      | .none => none
      | .local _ => none

/-- R91: the reply timer of a PENDING context expires. A timer that does not run does not expire (R90;
log 5). -/
def State.expireReply (s : State) (n : Nat) : State :=
  match s.handoff? n with
  | none => s
  | some h =>
    match h.status with
    | .pending .first (some d) => (s.reach d).secondAttempt n
    | .pending .second (some d) => (s.reach d).lose n
    | .pending _ none => s
    | .resolved _ => s

/-- REPLY_TIMEOUT. -/
def execReplyTimeout (place : ContextPlace) (s : State) : Host.Outcome State Fault Refusal :=
  match s.handoffAt place with
  | none => finish s s
  | some n => finish s (s.expireReply n)

end Sys2Proof.Machine
end

