-- ==== Sys2Proof/Machine/Crest.lean ====
section
/-! DEFINITION. The crest unit (chapter 6): the cut list and the closure table with the commands that
act on them, releases at the crest sensor (CREST_AXLE), and RELEASE_INTERVAL_END. -/

namespace Sys2Proof.Machine

/-! ### The cut list (R108 to R112) -/

/-- The place of the record with a tag in the cut list. -/
def State.cutPlace (s : State) (tag : Tag) : Option Nat :=
  s.cutList.findIdx? (fun i => (s.record i).tag == tag)

/-- R13: the five fields an accepted CUT_ENTRY writes. -/
def enteredRecord (p : CutEntryPayload) : Record :=
  { Record.blank with
    tag := p.tag
    destination := p.destination.toNat
    expectedAxles := p.expectedAxles.toNat
    cutClass := p.cutClass.toNat
    inspect := p.inspect == 1 }

/-- R109: an accepted entry is appended at the tail of the cut list. -/
def State.appendEntry (s : State) (p : CutEntryPayload) : State :=
  match s.allocate with
  | none => s
  | some (r, s') => { s'.setRecord r (enteredRecord p) with cutList := s'.cutList ++ [r] }

/-- R109: the checks of a CUT_ENTRY in their order; inspect is checked at the place of the class (R169). -/
def State.enterCut (s : State) (p : CutEntryPayload) : CommandResult × State :=
  if p.tag = 0 then (.refusedValue, s)
  else if (s.slotCfg 0).inReach p.destination.toNat = false then (.refusedValue, s)
  else if p.expectedAxles.toNat < 2 ∨ Config.expectedLimit < p.expectedAxles.toNat then (.refusedValue, s)
  else if 3 < p.cutClass.toNat ∨ 1 < p.inspect.toNat then (.refusedValue, s)
  else if (s.cutPlace p.tag).isSome then (.refusedDuplicate, s)
  else if Config.cutListCapacity ≤ s.cutList.length then (.refusedFull, s)
  else (.done, s.appendEntry p)

/-- R110: the record with the tag leaves the cut list and is freed. -/
def State.withdrawCut (s : State) (tag : Tag) : CommandResult × State :=
  match s.cutPlace tag with
  | none => (.refusedState, s)
  | some i =>
    match s.cutList[i]? with
    | none => (.refusedState, s)
    | some r =>
      if tag = 0 then (.refusedState, s)
      else (.done, { s with cutList := s.cutList.eraseIdx i }.freeRecord r)

/-- R111: every record is freed, head first. -/
def State.clearCuts (s : State) : CommandResult × State :=
  (.done, { s with cutList := [] }.freeRecords s.cutList)

/-- R112: RELEASE_ONE lifts the inspect hold of the head with the named tag. A tag of 0 is not the head's, and
is answered as such (log 26). -/
def State.releaseHead (s : State) (tag : Tag) : CommandResult × State :=
  match s.cutList with
  | [] => (.refusedState, s)
  | r :: _ =>
    if (s.record r).tag = tag then (.done, s.setRecord r { s.record r with inspect := false })
    else (.refusedState, s)

/-! ### The closure table (R113 to R116) -/

/-- The entry for a closed track. -/
def State.closure? (s : State) (track : Nat) : Option Closure := s.closures.find? (fun c => c.track == track)

/-- R113: a track is closed while the table holds an entry for it. -/
def State.isClosed (s : State) (track : Nat) : Bool := (s.closure? track).isSome

/-- R114: the substitute of a track already closed is replaced. -/
def State.replaceClosure (s : State) (track substitute : Nat) : State :=
  { s with closures := s.closures.map (fun c => if c.track = track then ⟨track, substitute⟩ else c) }

/-- R114: the checks of a TRACK_CLOSE in their order. -/
def State.closeTrack (s : State) (track substitute : Nat) : CommandResult × State :=
  if (s.slotCfg 0).inReach track = false ∨ (s.slotCfg 0).inReach substitute = false
      ∨ track = s.cfg.rejectTrack ∨ substitute = track ∨ s.isClosed substitute = true then
    (.refusedValue, s)
  else if s.isClosed track then (.done, s.replaceClosure track substitute)
  else if s.closures.length < Config.closureCapacity then
    (.done, { s with closures := s.closures ++ [⟨track, substitute⟩] })
  else (.refusedFull, s)

/-- R115: TRACK_OPEN removes the entry. A number that is no classification track is out of range (R169;
log 14). -/
def State.openTrack (s : State) (track : Nat) : CommandResult × State :=
  if track < 1 ∨ 63 < track then (.refusedValue, s)
  else if s.isClosed track then
    (.done, { s with closures := s.closures.filter (fun c => c.track != track) })
  else (.refusedState, s)

/-- R116: the record after translation, from the closure table as it stands. -/
def State.translate (s : State) (r : Record) : Record :=
  match s.closure? r.destination with
  | none => r
  | some c =>
    { r with
      destination := if s.isClosed c.substitute then s.cfg.rejectTrack else c.substitute
      originalDestination := some r.destination
      flags := r.flags.union { translated := true } }

/-! ### Releases (R118 to R122) -/

/-- R122: the CREST_OVERRUN alarm, which names no slot. -/
def crestOverrunIncident (tag : Tag) (listEmpty : Bool) (seq : Seq) : Incident :=
  ⟨.crestOverrun, none, tag, 0, .crestOverrun listEmpty seq⟩

/-- R118 step 3, R122: a release under STOP is an overrun. -/
def State.noteOverrun (s : State) (r : RecIx) (listEmpty : Bool) : State :=
  if s.signal = .stop then
    (s.addFlags r { overrun := true }).raise
      (crestOverrunIncident (s.record r).tag listEmpty s.releaseCounter)
  else s

/-- R118 step 5, R119: the record takes the release counter's value, and the counter advances. -/
def State.numberRelease (s : State) (r : RecIx) : State :=
  { s.setRecord r { s.record r with feedSeq := some s.releaseCounter } with
    releaseCounter := s.releaseCounter + 1 }

/-- R120: the released record as a handoff from the crest feed. -/
def crestAnnouncement (r : RecIx) (seq : Seq) (x : Record) : Announcement :=
  ⟨.crest, seq, x.contents x.expectedAxles, some r⟩

/-- R120: the record is offered to slot 0, and a refusal is reported. -/
def State.offerRelease (s : State) (r : RecIx) (seq : Seq) : State × Receipt :=
  let received := s.receive 0 (crestAnnouncement r seq (s.record r))
  if received.2.result.refuses then
    (received.1.refuseHandoff
      (refusedIncident 0 (s.record r).tag 0 received.2.result s.cfg.node 0 seq), received.2)
  else received

/-- R121: the RELEASED frame. -/
def releasedFrame (r : Record) (seq : Seq) (x : Receipt) : OutFrame :=
  .released r.tag r.destination r.originalDestination r.cutClass r.flags seq x

/-- R118 step 9, R120: a record that slot 0 has not inserted is freed by the crest unit. -/
def State.endRelease (s : State) (r : RecIx) (x : Receipt) : State :=
  match x with
  | .queued => s
  | .duplicate => s.freeRecord r
  | .adopted => s.freeRecord r
  | .late => s.freeRecord r
  | .refusedFull => s.freeRecord r
  | .refusedNotReady => s.freeRecord r
  | .refusedUnknownFeed => s.freeRecord r

/-- R118 steps 5 to 7: the record is numbered, offered to slot 0 and reported, and freed if slot 0 has
not inserted it. -/
def State.sendRelease (s : State) (r : RecIx) : State :=
  let offered := (s.numberRelease r).offerRelease r s.releaseCounter
  (offered.1.offer (releasedFrame ((s.numberRelease r).record r) s.releaseCounter offered.2) none).endRelease
    r offered.2

/-- R118: the release of the head of the cut list. -/
def State.releaseCut (s : State) (r : RecIx) (rest : List RecIx) : State :=
  let s1 := { s with cutList := rest }.setRecord r (s.translate (s.record r))
  let s2 := s1.noteOverrun r false
  let s3 := s2.setRecord r { s2.record r with inspect := false }
  { s3.sendRelease r with
    crestPassage := ⟨.releasing, (s.record r).expectedAxles - 1, (s.record r).cutClass⟩ }

/-! ### Completion and the release interval (R123, R124) -/

/-- R124: the class of the following cut, or the completed class where the cut list is empty. -/
def State.followingClass (s : State) (completed : Nat) : Nat :=
  match s.cutList with
  | [] => completed
  | r :: _ => (s.record r).cutClass

/-- R124: the interval of an entry of the class-pair table; an entry of 0 gives no interval. -/
def intervalTimer (entry now : Nat) : Option Nat := if entry = 0 then none else some (now + 100 * entry)

/-- R123, R124: a release completes; the phase becomes CREST_IDLE and the interval starts. -/
def State.completeRelease (s : State) (cutClass : Nat) : State :=
  { s with
    crestPassage := ⟨.idle, 0, cutClass⟩
    releaseInterval := intervalTimer (s.cfg.interval cutClass (s.followingClass cutClass)) s.time }

/-- R119: an anonymous release, which completes on its releasing axle with class 0. -/
def State.releaseAnonymous (s : State) : State :=
  match s.allocate with
  | none => s
  | some (r, s') => ((s'.noteOverrun r true).sendRelease r).completeRelease 0

/-- R117: a crest axle counted in CREST_RELEASING. -/
def State.countCrestAxle (s : State) : State :=
  if s.crestPassage.countdown ≤ 1 then s.completeRelease s.crestPassage.cutClass
  else { s with crestPassage := { s.crestPassage with countdown := s.crestPassage.countdown - 1 } }

/-- R117: each crest axle acts on the crest passage according to its phase. -/
def State.crestAxle (s : State) : State :=
  match s.crestPassage.phase with
  | .releasing => s.countCrestAxle
  | .idle =>
    match s.cutList with
    | [] => s.releaseAnonymous
    | r :: rest => s.releaseCut r rest

/-- CREST_AXLE: the crest sensor is read IN_SERVICE in the crest role only (R117, R166). -/
def execCrestAxle (s : State) : Host.Outcome State Fault Refusal :=
  if s.crestServing then finish s s.crestAxle else finish s s

/-- RELEASE_INTERVAL_END (R124); an interval that does not run does not end (log 5). -/
def execReleaseIntervalEnd (s : State) : Host.Outcome State Fault Refusal :=
  match s.releaseInterval with
  | none => finish s s
  | some d => finish s { s.reach d with releaseInterval := none }

end Sys2Proof.Machine
end

