-- ==== Sys2Proof/Machine/Passages.lean ====
section
/-! DEFINITION. The passage tracker (chapter 4): axle counting at the three sensors, the phases, merges,
rollback, passage end, reconciliation, stall and ghost occupancy, and SLOT_FLUSH's part of the zone. -/

namespace Sys2Proof.Machine

/-! ### Stray axles (R60) and axles in the census (R166) -/

/-- R60, R166: the AXLE_IMBALANCE alarm of an axle that no passage takes. -/
def strayAxleIncident (k : SlotIx) (x : Sensor) (d : Direction) : Incident :=
  ⟨.axleImbalance, some k, 0, 0, .strayAxle x d⟩

/-- R60: a stray axle is counted nowhere and raises its own alarm. -/
def State.strayAxle (s : State) (k : SlotIx) (x : Sensor) (d : Direction) : State :=
  s.raise (strayAxleIncident k x d)

/-- R166: an axle during the census at a slot below the slot count raises the alarm, which goes to the
capture alone. -/
def State.censusAxle (s : State) (k : SlotIx) (x : Sensor) (d : Direction) : State :=
  if s.nodeState = .census ∧ k.val < s.cfg.slotCount then s.raise (strayAxleIncident k x d) else s

/-- CENSUS_AXLE; outside the census it is no event of the node (log 6). -/
def execCensusAxle (k : SlotIx) (x : Sensor) (d : Direction) (s : State) : Host.Outcome State Fault Refusal :=
  finish s (s.censusAxle k x d)

/-! ### What an axle does to the timers of its passage -/

/-- R82: every axle event the passage takes restarts the stall timer and clears STALLED. -/
def Passage.restartStall (p : Passage) (now stallTime : Nat) : Passage :=
  { p with stallTimer := some (now + stallTime), stalled := false }

/-- R68: every commit axle the passage takes sets the last commit axle time and restarts the gap timer. -/
def Passage.restartGap (p : Passage) (now : Nat) : Passage := { p with lastCommit := now, gapRunning := true }

/-- A commit axle's effect on the timers (R66, R67, R76). -/
def Passage.commitTimers (p : Passage) (now stallTime : Nat) : Passage :=
  (p.restartGap now).restartStall now stallTime

/-! ### Passage begin (R62, R65) -/

/-- R62: a passage at its begin. -/
def Passage.begun (r : RecIx) (consumed : Option Seq) (intended : Option Leg) (expected now stallTime : Nat) :
    Passage where
  record := r
  consumed := consumed
  intended := intended
  taken := none
  axlesIn := 1
  outNormal := 0
  outReverse := 0
  countdown := countdownFor expected 1
  excess := 0
  phase := if expected = 1 then .trailing else .committing
  lastCommit := now
  gapRunning := true
  stallTimer := some (now + stallTime)
  stalled := false
  rollbackNoted := false
  handoff := .none

/-- R55: the CATCH_UP_DIVERT notice; the slot is the one before the new passage was added. -/
def catchUpIncident (s : State) (k : SlotIx) (r : RecIx) (intended : Leg) : Incident :=
  ⟨.catchUpDivert, some k, (s.record r).tag,
    match (s.slot k).zone.getLast? with
    | some p => (s.record p.record).tag
    | none => 0,
    .intended intended⟩

/-- R55: the divert was caused by a leader: the slot is IN_USE, and at the begin the zone list held a
passage or the fouling circuit reported occupied. -/
def Slot.leaderInTheWay (x : Slot) : Bool :=
  x.service == .inUse && (!x.zone.isEmpty || x.foulingOccupied)

/-- R55: DIVERTED, with the notice where a leader caused it. -/
def State.decideDivert (s : State) (k : SlotIx) (intended : Option Leg) (r : RecIx) : State :=
  match intended with
  | none => s
  | some leg =>
    if leg = s.wantedLeg k r then s
    else if (s.slot k).leaderInTheWay then
      (s.addFlags r { diverted := true }).raise (catchUpIncident s k r leg)
    else s.addFlags r { diverted := true }

/-- R65, steps 2 to 5: the late throw, the leg decisions, the passage, and the change of head. -/
def State.openPassage (s : State) (k : SlotIx) (r : RecIx) (consumed : Option Seq) : State :=
  let s1 := s.lateThrow k r
  let intended := (s1.slot k).intendedLeg
  let s2 := (s1.decideStray k r).decideDivert k intended r
  let p := Passage.begun r consumed intended (s2.record r).expectedAxles s2.time (s2.slotCfg k).stallTime
  (s2.setSlot k { s2.slot k with zone := (s2.slot k).zone ++ [p] }).evaluateThrow k

/-- R65: a forward commit axle begins a passage. -/
def State.beginPassage (s : State) (k : SlotIx) : State :=
  match s.consume k with
  | none => s
  | some c => c.state.openPassage k c.record c.seq

/-! ### COMMIT_AXLE_FORWARD (R64, R66, R67) -/

/-- R66: an axle counted into a COMMITTING or TRAILING passage. -/
def Passage.countIn (p : Passage) : Passage :=
  match p.phase with
  | .trailing => { p with axlesIn := p.axlesIn + 1, excess := p.excess + 1 }
  | .committed => { p with axlesIn := p.axlesIn + 1 }
  | .committing =>
    match p.countdown with
    | none => { p with axlesIn := p.axlesIn + 1 }
    | some n =>
      { p with
        axlesIn := p.axlesIn + 1
        countdown := some (n - 1)
        phase := if n - 1 = 0 then .trailing else .committing }

/-- R67: an axle counted into a COMMITTED passage as excess. -/
def Passage.countExcess (p : Passage) : Passage :=
  { p with axlesIn := p.axlesIn + 1, excess := p.excess + 1 }

/-- R66. -/
def State.countCommitAxle (s : State) (k : SlotIx) (i : Nat) (p : Passage) : State :=
  if Config.axleLimit ≤ p.axlesIn then s.strayAxle k .commit .forward
  else s.setPassage k i (p.countIn.commitTimers s.time (s.slotCfg k).stallTime)

/-- R67: the ZONE_OVERRUN alarm, with the axles in after the axle was counted. -/
def overrunIncident (s : State) (k : SlotIx) (p : Passage) : Incident :=
  ⟨.zoneOverrun, some k, (s.record p.record).tag, 0, .zoneOverrun (p.axlesIn + 1)⟩

/-- R67: excess with LONG, and a ZONE_OVERRUN alarm where the gap timer had expired. -/
def State.countExcessAxle (s : State) (k : SlotIx) (i : Nat) (p : Passage) : State :=
  if Config.axleLimit ≤ p.axlesIn then s.strayAxle k .commit .forward
  else
    let s1 := (s.setPassage k i (p.countExcess.commitTimers s.time (s.slotCfg k).stallTime)).addFlags
      p.record { long := true }
    if p.gapRunning then s1 else s1.raise (overrunIncident s k p)

/-- R64: a forward commit axle is taken according to the zone list and its youngest passage. -/
def State.commitForward (s : State) (k : SlotIx) : State :=
  match (s.slot k).zone.getLast? with
  | none => s.beginPassage k
  | some p =>
    if p.phase = .committed then
      if p.gapRunning ∨ Config.zoneCapacity ≤ (s.slot k).zone.length then
        s.countExcessAxle k ((s.slot k).zone.length - 1) p
      else s.beginPassage k
    else s.countCommitAxle k ((s.slot k).zone.length - 1) p

/-- COMMIT_AXLE_FORWARD; in the census the sensor's axle is a census axle (R166; log 6). -/
def execCommitAxleForward (k : SlotIx) (s : State) : Host.Outcome State Fault Refusal :=
  if s.slotServing k then finish s (s.commitForward k) else finish s (s.censusAxle k .commit .forward)

/-! ### Rollback (R75, R76) -/

/-- R75: the ROLLBACK notice. -/
def rollbackIncident (k : SlotIx) (r : Record) (x : Sensor) : Incident :=
  ⟨.rollback, some k, r.tag, 0, .sensor x⟩

/-- R75, R76: the record's ROLLBACK flag, and the notice at most once per passage. -/
def State.noteRollback (s : State) (k : SlotIx) (p : Passage) (x : Sensor) : State :=
  let s1 := s.addFlags p.record { rollback := true }
  if p.rollbackNoted then s1 else s1.raise (rollbackIncident k (s.record p.record) x)

/-- R76: the count is undone by one and the phase set afresh. -/
def Passage.uncountIn (p : Passage) (expected : Nat) : Passage :=
  let n := p.axlesIn - 1
  { p with
    axlesIn := n
    excess := p.excess - 1
    phase := if expected = 0 then .committing else if n < expected then .committing else .trailing
    countdown := countdownFor expected n
    rollbackNoted := true }

/-- R76: a backward commit axle is taken by the youngest passage, if its axles in exceed its axles out. -/
def State.commitBackward (s : State) (k : SlotIx) : State :=
  match (s.slot k).zone.getLast? with
  | none => s.strayAxle k .commit .backward
  | some p =>
    if p.isOpen then
      (s.setPassage k ((s.slot k).zone.length - 1)
        ((p.uncountIn (s.record p.record).expectedAxles).commitTimers s.time (s.slotCfg k).stallTime)).noteRollback
          k p .commit
    else s.strayAxle k .commit .backward

/-- COMMIT_AXLE_BACKWARD; in the census the sensor's axle is a census axle (R166; log 6). -/
def execCommitAxleBackward (k : SlotIx) (s : State) : Host.Outcome State Fault Refusal :=
  if s.slotServing k then finish s (s.commitBackward k) else finish s (s.censusAxle k .commit .backward)

/-! ### Passage end (R78, R79) -/

/-- R107: the ARRIVAL of a passage that ends on a leg that ends at a track. -/
def arrivalFrame (k : SlotIx) (leg : Leg) (track : Nat) (r : Record) : OutFrame :=
  .arrival k leg track r.tag r.destination r.originalDestination r.flags (r.misrouted track) r.companion

/-- R158: a watched tag causes a WATCH_HIT and leaves the table. -/
def State.checkWatch (s : State) (k : SlotIx) (leg : Leg) (tag : Tag) : State :=
  if tag ∈ s.watches then
    { s with watches := s.watches.erase tag }.offer (.watchHit tag k leg) none
  else s

/-- R158: the record's tag, and then its companion tag where a companion is present. -/
def State.checkWatches (s : State) (k : SlotIx) (leg : Leg) (r : Record) : State :=
  match r.companion with
  | none => s.checkWatch k leg r.tag
  | some c => (s.checkWatch k leg r.tag).checkWatch k leg c.tag

/-- R79, step 1. -/
def State.reportArrival (s : State) (k : SlotIx) (leg : Leg) (r : Record) : State :=
  match (s.slotCfg k).legEnd leg with
  | .track n => s.offer (arrivalFrame k leg n r) none
  | .slot _ _ => s

/-- R63: the context of a handoff is PENDING. -/
def State.isPending (s : State) (n : Nat) : Bool :=
  match s.handoff? n with
  | none => false
  | some h =>
    match h.status with
    | .pending _ _ => true
    | .resolved _ => false

/-- R79, step 3: the record is freed, or joins the wait list while its handoff is PENDING. -/
def State.placeRecord (s : State) (r : RecIx) (h : PassageHandoff) : State :=
  match h with
  | .none => s.freeRecord r
  | .local _ => s.freeRecord r
  | .sent n => if s.isPending n then s.joinWaitList r n else (s.dropHandoff n).freeRecord r

/-- R79, steps 1 and 2: a passage that ends has a taken leg, since its axles out are above 0. -/
def State.reportEnd (s : State) (k : SlotIx) (p : Passage) : State :=
  match p.taken with
  | none => s
  | some leg => (s.reportArrival k leg (s.record p.record)).checkWatches k leg (s.record p.record)

/-- R79: the passage at a place of the zone list ends. An empty zone list is reported to point control
(R61). -/
def State.endPassage (s : State) (k : SlotIx) (i : Nat) : State :=
  match s.passage k i with
  | none => s
  | some p =>
    let s1 := (s.reportEnd k p).placeRecord p.record p.handoff
    let s2 := s1.setSlot k { s1.slot k with zone := (s1.slot k).zone.eraseIdx i }
    if (s2.slot k).zone.isEmpty then s2.evaluateThrow k else s2

/-- R78: the end condition of the oldest passage. -/
def Passage.ends (p : Passage) : Bool :=
  p.phase == .committed && p.out == p.axlesIn && decide (0 < p.axlesIn)

/-- R78, R79 step 5: the oldest passage is checked, and after its end the one that is then the oldest. -/
def State.checkEnds (k : SlotIx) : Nat → State → State
  | 0, s => s
  | n + 1, s =>
    match (s.slot k).zone with
    | [] => s
    | p :: _ => if p.ends then State.checkEnds k n (s.endPassage k 0) else s

/-- R78: the check of the oldest passage, through the whole zone list. -/
def State.checkEnd (s : State) (k : SlotIx) : State := State.checkEnds k (s.slot k).zone.length s

/-! ### EXIT_AXLE_FORWARD (R72 to R74) -/

/-- Axles out on a leg. -/
def Passage.outOn (p : Passage) : Leg → Nat
  | .normal => p.outNormal
  | .reverse => p.outReverse

/-- Write the axles out on a leg. -/
def Passage.setOut (p : Passage) : Leg → Nat → Passage
  | .normal, n => { p with outNormal := n }
  | .reverse, n => { p with outReverse := n }

/-- R72: the axle is counted out on its leg; the first sets the taken leg. -/
def Passage.countOut (p : Passage) (leg : Leg) : Passage :=
  { p.setOut leg (p.outOn leg + 1) with
    taken := match p.taken with
      | some l => some l
      | none => some leg }

/-- R73: the LEG_MISMATCH alarm. -/
def mismatchIncident (s : State) (k : SlotIx) (p : Passage) (leg : Leg) : Incident :=
  ⟨.legMismatch, some k, (s.record p.record).tag, 0, .legMismatch leg (s.slot k).point⟩

/-- R73: at the first forward exit axle, the point is proved in the other leg. -/
def State.checkLeg (s : State) (k : SlotIx) (p : Passage) (leg : Leg) : State :=
  if (s.slot k).point = provedIn (otherLeg leg) then s.failSlot k (mismatchIncident s k p leg) else s

/-- R74: the SPLIT_ROUTE alarm. -/
def splitIncident (s : State) (k : SlotIx) (p : Passage) (taken leg : Leg) : Incident :=
  ⟨.splitRoute, some k, (s.record p.record).tag, 0, .splitRoute taken leg⟩

/-- R74: an axle on the second leg, where no axle out stood before it. -/
def State.checkSplit (s : State) (k : SlotIx) (p : Passage) (taken leg : Leg) : State :=
  if taken ≠ leg ∧ p.outOn leg = 0 then s.failSlot k (splitIncident s k p taken leg) else s

/-- R72: what the axle causes beside its count: the handoff's begin, or the split route. The passage
`p` is as it stood before the axle. -/
def State.exitEffects (s : State) (k : SlotIx) (i : Nat) (p : Passage) (leg : Leg) : State :=
  match p.taken with
  | none => (s.checkLeg k p leg).beginHandoff k i p leg
  | some taken => s.checkSplit k p taken leg

/-- R72: a forward exit axle is taken by the oldest passage whose axles in exceed its axles out. -/
def State.exitForward (s : State) (k : SlotIx) (leg : Leg) : State :=
  match (s.slot k).zone.findIdx? Passage.isOpen with
  | none => s.strayAxle k (exitSensor leg) .forward
  | some i =>
    match s.passage k i with
    | none => s
    | some p =>
      ((s.setPassage k i ((p.countOut leg).restartStall s.time (s.slotCfg k).stallTime)).exitEffects
        k i p leg).checkEnd k

/-- EXIT_AXLE_FORWARD; in the census the sensor's axle is a census axle (R166; log 6). -/
def execExitAxleForward (k : SlotIx) (leg : Leg) (s : State) : Host.Outcome State Fault Refusal :=
  if s.slotServing k then finish s (s.exitForward k leg)
  else finish s (s.censusAxle k (exitSensor leg) .forward)

/-! ### EXIT_AXLE_BACKWARD (R75) -/

/-- R75: a backward exit axle is taken by the oldest passage with a count above 0 on its leg. -/
def State.exitBackward (s : State) (k : SlotIx) (leg : Leg) : State :=
  match (s.slot k).zone.findIdx? (fun p => decide (0 < p.outOn leg)) with
  | none => s.strayAxle k (exitSensor leg) .backward
  | some i =>
    match s.passage k i with
    | none => s
    | some p =>
      ((s.setPassage k i
        { (p.setOut leg (p.outOn leg - 1)).restartStall s.time (s.slotCfg k).stallTime with
          rollbackNoted := true }).noteRollback k p (exitSensor leg)).checkEnd k

/-- EXIT_AXLE_BACKWARD; in the census the sensor's axle is a census axle (R166; log 6). -/
def execExitAxleBackward (k : SlotIx) (leg : Leg) (s : State) : Host.Outcome State Fault Refusal :=
  if s.slotServing k then finish s (s.exitBackward k leg)
  else finish s (s.censusAxle k (exitSensor leg) .backward)

/-! ### GAP_EXPIRY (R68 to R71) -/

/-- R69: the SHORT_CUT notice. -/
def shortIncident (k : SlotIx) (r : Record) (p : Passage) : Incident :=
  ⟨.shortCut, some k, r.tag, 0, .shortCut p.axlesIn r.expectedAxles⟩

/-- R69: a passage with a known expected count commits short. -/
def State.judgeShort (s : State) (k : SlotIx) (p : Passage) : State :=
  if (s.record p.record).expectedAxles = 0 then s
  else (s.addFlags p.record { short := true }).raise (shortIncident k (s.record p.record) p)

/-- R70: the LONG_CUT notice, with the tag of the queue head as second tag. -/
def longIncident (s : State) (k : SlotIx) (p : Passage) : Incident :=
  ⟨.longCut, some k, (s.record p.record).tag,
    match (s.slot k).queue with
    | r :: _ => (s.record r).tag
    | [] => 0,
    .excess p.excess⟩

/-- R70: the four conditions of a merge, for the head at the expected next sequence. That a record with MERGED
takes no part in a second merge (R10) is read as the third of them, of the passage's record: a head that carries
MERGED may be absorbed (log 30). -/
def State.merges (s : State) (p : Passage) (e : Seq) (r : RecIx) : Bool :=
  decide (distance e (s.queuedSeq r) = 0) && decide ((s.record r).expectedAxles = p.excess)
    && (s.record p.record).companion.isNone && !(s.record r).anonymous

/-- R71: the CATCH_UP_MERGE notice. -/
def mergeIncident (s : State) (k : SlotIx) (p : Passage) (r : RecIx) : Incident :=
  ⟨.catchUpMerge, some k, (s.record p.record).tag, (s.record r).tag, .excess p.excess⟩

/-- R71: the record of the passage takes the head's tag and destination as its companion. A companion that the
head itself carries is dropped with its record (log 30). -/
def Record.joinCompanion (r : Record) (c : Companion) : Record :=
  { r with companion := some c, flags := r.flags.union { merged := true } }

/-- R71: a merge joins the queue head to the passage. -/
def State.merge (s : State) (k : SlotIx) (i : Nat) (p : Passage) (e : Seq) (r : RecIx)
    (rest : List RecIx) : State :=
  let s1 := s.absorbHead k e r rest
  let s2 := s1.setRecord p.record
    ((s1.record p.record).joinCompanion ⟨(s.record r).tag, (s.record r).destination⟩)
  (s2.setPassage k i { p with excess := 0 }).raise (mergeIncident s k p r)

/-- R70: the excess is the next announced cut, or the passage is LONG. -/
def State.recogniseMerge (s : State) (k : SlotIx) (i : Nat) (p : Passage) : State :=
  match (s.slot k).expected, (s.slot k).queue with
  | some e, r :: rest =>
    if s.merges p e r then s.merge k i p e r rest
    else (s.addFlags p.record { long := true }).raise (longIncident s k p)
  | some _, [] => (s.addFlags p.record { long := true }).raise (longIncident s k p)
  | none, _ => (s.addFlags p.record { long := true }).raise (longIncident s k p)

/-- R68: the passage, its gap timer expired, becomes COMMITTED. -/
def Passage.commit (p : Passage) : Passage := { p with phase := .committed, gapRunning := false }

/-- R68: what the expiry does, by the phase at the expiry. -/
def State.gapExpired (s : State) (k : SlotIx) (i : Nat) (p : Passage) : State :=
  match p.phase with
  | .committed => s.setPassage k i { p with gapRunning := false }
  | .committing =>
    if p.axlesIn = 0 then s.setPassage k i { p with gapRunning := false }
    else ((s.setPassage k i p.commit).judgeShort k p.commit).checkEnd k
  | .trailing =>
    if p.excess = 0 then (s.setPassage k i p.commit).checkEnd k
    else ((s.setPassage k i p.commit).recogniseMerge k i p.commit).checkEnd k

/-- R68: a gap timer that runs expires at the last commit axle time plus the gap time. -/
def State.expireGap (s : State) (k : SlotIx) (i : Nat) : State :=
  match s.passage k i with
  | none => s
  | some p =>
    if p.gapRunning then (s.reach (p.lastCommit + (s.slotCfg k).gapTime)).gapExpired k i p else s

/-- GAP_EXPIRY; a timer that does not run does not expire (log 5). -/
def execGapExpiry (k : SlotIx) (i : Nat) (s : State) : Host.Outcome State Fault Refusal :=
  finish s (s.expireGap k i)

/-! ### STALL_EXPIRY (R82) -/

/-- R82: the STALL notice. -/
def stallIncident (k : SlotIx) (r : Record) (p : Passage) : Incident :=
  ⟨.stall, some k, r.tag, 0, .stall p.phase p.axlesIn p.out⟩

/-- R82: the expiry of a running stall timer sets STALLED and raises the notice. -/
def State.expireStall (s : State) (k : SlotIx) (i : Nat) : State :=
  match s.passage k i with
  | none => s
  | some p =>
    match p.stallTimer with
    | none => s
    | some d =>
      ((s.reach d).setPassage k i { p with stallTimer := none, stalled := true }).raise
        (stallIncident k (s.record p.record) p)

/-- STALL_EXPIRY; a timer that does not run does not expire (log 5). -/
def execStallExpiry (k : SlotIx) (i : Nat) (s : State) : Host.Outcome State Fault Refusal :=
  finish s (s.expireStall k i)

/-! ### GHOST_EXPIRY (R81) -/

/-- R81: the GHOST_OCCUPANCY notice. -/
def ghostIncident (k : SlotIx) : Incident := ⟨.ghostOccupancy, some k, 0, 0, .empty⟩

/-- R81: the expiry of a running ghost timer raises the notice, at most once per episode. -/
def State.expireGhost (s : State) (k : SlotIx) : State :=
  match (s.slot k).ghostTimer with
  | none => s
  | some d =>
    let s1 := (s.reach d).setSlot k { s.slot k with ghostTimer := none, ghostRaised := true }
    if (s.slot k).ghostRaised then s1 else s1.raise (ghostIncident k)

/-- GHOST_EXPIRY; a timer that does not run does not expire (log 5). -/
def execGhostExpiry (k : SlotIx) (s : State) : Host.Outcome State Fault Refusal :=
  finish s (s.expireGhost k)

/-! ### FOULING_CLEAR (R36, R80) -/

/-- R80: axles out above 0 and below axles in. -/
def Passage.isPartOut (p : Passage) : Bool := decide (0 < p.out) && decide (p.out < p.axlesIn)

/-- R80: the AXLE_IMBALANCE alarm of a reconciliation. -/
def imbalanceIncident (k : SlotIx) (r : Record) (p : Passage) : Incident :=
  ⟨.axleImbalance, some k, r.tag, r.companionTag, .reconciled p.axlesIn p.outNormal p.outReverse⟩

/-- R80: one passage is ended by reconciliation, and the passage that is then the oldest is checked. -/
def State.reconcileOne (s : State) (k : SlotIx) (i : Nat) : State :=
  match s.passage k i with
  | none => s
  | some p =>
    (((s.addFlags p.record { imbalance := true }).raise (imbalanceIncident k (s.record p.record) p)).endPassage
      k i).checkEnd k

/-- R80: the passages in zone list order, oldest first. -/
def State.reconcileAll (k : SlotIx) : Nat → State → State
  | 0, s => s
  | n + 1, s =>
    match (s.slot k).zone.findIdx? Passage.isPartOut with
    | none => s
    | some i => State.reconcileAll k n (s.reconcileOne k i)

/-- R80: the reconciliation of a slot. -/
def State.reconcile (s : State) (k : SlotIx) : State := State.reconcileAll k (s.slot k).zone.length s

/-- R36: a SETTLING slot enters IN_USE. -/
def State.endSettling (s : State) (k : SlotIx) : State :=
  if (s.slot k).service = .settling then s.setSlot k { s.slot k with service := .inUse } else s

/-- The fouling circuit reports clear: reconciliation first, then the end of SETTLING and the throw
evaluation (R36, R80). A report that is no change, and one to a slot not in service, only leaves the
line at its level. -/
def State.clearFouling (s : State) (k : SlotIx) : State :=
  let s1 := s.setSlot k { s.slot k with foulingOccupied := false }
  if s.slotServing k && (s.slot k).foulingOccupied then
    (((s1.reconcile k).endSettling k)).evaluateThrow k
  else s1

/-- FOULING_CLEAR. -/
def execFoulingClear (k : SlotIx) (s : State) : Host.Outcome State Fault Refusal :=
  finish s (s.clearFouling k)

/-! ### SLOT_FLUSH (R30, R84) -/

/-- R84: the numbers of the handoffs a flush discards. -/
def Passage.discard (s : State) (p : Passage) : State :=
  match p.handoff with
  | .none => s
  | .local _ => s
  | .sent n => s.dropHandoff n

/-- R84: with the circuit clear every passage is freed, oldest first, its context discarded; the empty
zone list is reported to point control. -/
def State.flushZone (s : State) (k : SlotIx) : State :=
  let ps := (s.slot k).zone
  ((ps.foldl Passage.discard (s.setSlot k { s.slot k with zone := [] })).freeRecords
    (ps.map Passage.record)).evaluateThrow k

/-- R30, R84: SLOT_FLUSH at a slot that is not OFF. -/
def State.flushSlot (s : State) (k : SlotIx) : CommandResult × State :=
  let s1 := s.emptyQueue k
  (.done, if (s1.slot k).foulingOccupied then s1 else s1.flushZone k)

end Sys2Proof.Machine
end

