-- ==== Sys2Proof/Machine/Roster.lean ====
section
/-! DEFINITION. The tree roster of the crest node (section 7.3) and the period timer of the hold unit
(section 7.2): refreshes, HOLD_STATE and START at the roster, RESTART_ACK, SILENCE_DEADLINE and
PERIOD_TIMER_EXPIRY. -/

namespace Sys2Proof.Machine

/-- Apply a change to the roster entry of a station. -/
def State.atStation (s : State) (station : Nat) (f : RosterEntry → RosterEntry) : State :=
  { s with roster := s.roster.map (fun e => if e.station = station then f e else e) }

/-- The roster entry of a station. -/
def State.rosterEntry? (s : State) (station : Nat) : Option RosterEntry :=
  s.roster.find? (fun e => e.station == station)

/-- R135: an entry is refreshed. -/
def RosterEntry.refresh (e : RosterEntry) (now : Nat) : RosterEntry :=
  { e with presence := .present, lastHeard := some now }

/-- R135, R146 step 1: at a crest node in service the origin of every valid frame refreshes its entry. -/
def State.refreshRoster (s : State) (origin : Nat) : State :=
  if s.crestServing then s.atStation origin (fun e => e.refresh s.time) else s

/-- R137: a HOLD_STATE writes the station's last mask. -/
def State.rosterMask (s : State) (origin : Nat) (m : HoldMask) : State :=
  if s.crestServing then s.atStation origin (fun e => { e with lastMask := m }) else s

/-- R138: a START acts on the entry according to its presence before the frame. -/
def RosterEntry.restart (e : RosterEntry) (now : Nat) : RosterEntry :=
  match e.presence with
  | .unheard => e.refresh now
  | .present => { e.refresh now with restarted := true, lastMask := {} }
  | .silent => { e.refresh now with restarted := true, lastMask := {} }

/-- R138: a START at the roster. -/
def State.rosterStart (s : State) (origin : Nat) : State :=
  if s.crestServing then s.atStation origin (fun e => e.restart s.time) else s

/-- R139: RESTART_ACK at the crest node. -/
def State.acknowledge (s : State) (station : Nat) : CommandResult × State :=
  match s.rosterEntry? station with
  | none => (.refusedValue, s)
  | some e =>
    if e.restarted then (.done, s.atStation station (fun e => { e with restarted := false }))
    else (.refusedState, s)

/-- R136: a PRESENT entry passes its silence deadline. -/
def State.silence (s : State) (station heard : Nat) : State :=
  (s.reach (heard + Config.silenceTime)).atStation station (fun e => { e with presence := .silent })

/-- R136: an UNHEARD or SILENT entry has no deadline (log 5). -/
def State.expireSilence (s : State) (station : Nat) : State :=
  match s.rosterEntry? station with
  | none => s
  | some e =>
    match e.presence, e.lastHeard with
    | .present, some t => s.silence station t
    | .present, none => s
    | .unheard, _ => s
    | .silent, _ => s

/-- SILENCE_DEADLINE. -/
def execSilenceDeadline (station : Nat) (s : State) : Host.Outcome State Fault Refusal :=
  finish s (s.expireSilence station)

/-- PERIOD_TIMER_EXPIRY (R132): a HOLD_STATE with the mask as it stands, whether or not it has changed;
a timer that does not run does not expire (log 5). -/
def execPeriodTimerExpiry (s : State) : Host.Outcome State Fault Refusal :=
  match s.periodTimer with
  | none => finish s s
  | some d => finish s (s.reach d).offerHoldState

end Sys2Proof.Machine
end

