-- ==== Sys2Proof/Machine/Wire.lean ====
section
/-! DEFINITION. Frames on the wire (section 8.2, chapter 12): the payloads the node builds, the check
sequence (R170), the bits of a frame (R142), and the judgement of bits heard (R143). A bit is true when
recessive (1) and false when dominant (0). -/

namespace Sys2Proof.Machine

/-- A frame as it stands on the wire: origin, kind and payload. The urgency and the length are the
kind's (R145, section 12.1). -/
structure RawFrame where
  origin : Station
  kind : FrameKind
  payload : List Byte
  deriving DecidableEq, Repr

/-- Why a receiver discards a frame (R143). -/
inductive DiscardReason where
  | noStart
  | lengthInvalid
  | checkSequence
  | endField
  | unknownKind
  | lengthOfKind
  | urgencyOfKind
  deriving DecidableEq, Repr

/-- The judgement of R143. -/
inductive Judgement where
  | valid (frame : RawFrame)
  | discarded (reason : DiscardReason)
  deriving DecidableEq, Repr

/-! ### Bytes of the frames the node builds (section 12.2) -/

/-- Chapter 12: multi-byte fields are sent high byte first. -/
def wordBytes (w : BitVec 16) : List Byte := [w.extractLsb' 8 8, w.extractLsb' 0 8]

/-- Chapter 12: an absent original destination is carried as 0. -/
def trackByte : Option Nat → Byte
  | none => 0
  | some n => byteOf n

/-- Chapter 12: an absent companion is carried with tag 0; in a HANDOFF its destination is 0. -/
def companionBytes : Option Companion → List Byte
  | none => [0, 0, 0]
  | some c => wordBytes c.tag ++ [byteOf c.destination]

/-- Section 12.2: slot in bits 7 to 4, leg in bit 0. -/
def slotLegByte (slot : Nat) (leg : Leg) : Byte := byteOf (16 * slot + legCode leg)

/-- Section 12.3: a Boolean detail byte. -/
def flagByte (b : Bool) : Byte := byteOf (bitWeight 0 b)

/-- Section 12.3: the detail bytes of an incident, before the unused ones. -/
def detailBytes : Detail → List Byte
  | .empty => []
  | .unannounced (some q) => [0, q]
  | .unannounced none => [1]
  | .lateHandoff adopted seq node => [flagByte adopted, seq, byteOf node]
  | .shortCut n e => [byteOf n, byteOf e]
  | .excess n => [byteOf n]
  | .intended leg => [byteOf (legCode leg)]
  | .destination d => [byteOf d]
  | .splitRoute t a => [byteOf (legCode t), byteOf (legCode a)]
  | .legMismatch t p => [byteOf (legCode t), byteOf (pointCode p)]
  | .strayAxle x d => [0, byteOf (sensorCode x), byteOf (directionCode d)]
  | .reconciled n a b => [1, byteOf n, byteOf a, byteOf b]
  | .sensor x => [byteOf (sensorCode x)]
  | .stall p n m => [byteOf (phaseCode p), byteOf n, byteOf m]
  | .overdue (some q) => [q]
  | .overdue none => []
  | .pointFailed t n => [byteOf (legCode t), byteOf n]
  | .underCut t p => [byteOf (legCode t), byteOf (throwPhaseCode p)]
  | .detectionLost p a b => [byteOf (pointCode p), byteOf (bitWeight 0 a + bitWeight 1 b)]
  | .handoffLost st sl q => [byteOf st, byteOf sl, q]
  | .handoffRefused r st sl q => [byteOf (handoffResultCode r), byteOf st, byteOf sl, q]
  | .zoneOverrun n => [byteOf n]
  | .crestOverrun e q => [flagByte e, q]
  | .overflow k => [byteOf (kindCode k), byteOf (kindUrgency k)]

/-- R169: unused bytes are 0. -/
def padTo (n : Nat) (l : List Byte) : List Byte := (l ++ List.replicate n 0).take n

/-- Section 12.2: captured mark in bit 7, slot in bits 3 to 0, 15 for none. -/
def incidentSlotByte (captured : Bool) : Option SlotIx → Byte
  | some k => byteOf (bitWeight 7 captured + k.val)
  | none => byteOf (bitWeight 7 captured + 15)

/-- Section 12.2: the two bytes STATUS gives to a slot. -/
def slotStatusBytes (x : SlotStatus) : List Byte :=
  [byteOf (serviceCode x.service), byteOf (64 * pointCode x.point + 8 * x.queueLength + x.zoneCount)]

/-- R161: the capture kind code, 0 if the capture is empty. -/
def captureCode : Option IncidentKind → Nat
  | none => 0
  | some k => incidentCode k

/-- Section 12.2: the payload of a frame the node builds; `yard` is the yard computer station. -/
def framePayload (yard : Nat) : OutFrame → List Byte
  | .start role n sum => [byteOf (roleCode role), byteOf n] ++ wordBytes sum
  | .holdState m st => [m.toByte, byteOf (nodeStateCode st)]
  | .handoff f =>
    [byteOf f.targetStation, byteOf (16 * f.targetSlot + 2 * f.sourceSlot.val + legCode f.sourceLeg), f.seq]
      ++ wordBytes f.contents.tag
      ++ [byteOf f.contents.destination, trackByte f.contents.originalDestination,
        byteOf f.contents.expectedAxles, byteOf f.contents.cutClass]
      ++ wordBytes (f.contents.flags.toWord false) ++ companionBytes f.contents.companion
  | .handoffReply st sl q tag r =>
    [byteOf st, byteOf sl, q] ++ wordBytes tag ++ [byteOf (handoffResultCode r)]
  | .commandReply k a r =>
    [byteOf yard, byteOf (kindCode k)] ++ wordBytes a ++ [byteOf (commandResultCode r)]
  | .released tag d o c fl q x =>
    [byteOf yard] ++ wordBytes tag ++ [byteOf d, trackByte o, byteOf c] ++ wordBytes (fl.toWord false)
      ++ [q, byteOf (receiptCode x)]
  | .arrival k leg track tag d o fl mis c =>
    [byteOf yard, slotLegByte k.val leg, byteOf track] ++ wordBytes tag ++ [byteOf d, trackByte o]
      ++ wordBytes (fl.toWord mis) ++ companionBytes c
  | .incident i captured =>
    [byteOf yard, byteOf (incidentCode i.kind), incidentSlotByte captured i.slot] ++ wordBytes i.firstTag
      ++ wordBytes i.secondTag ++ padTo 6 (detailBytes i.detail)
  | .watchHit tag k leg => [byteOf yard] ++ wordBytes tag ++ [slotLegByte k.val leg]
  | .status m st kind n secs slots =>
    [byteOf yard, m.toByte, byteOf (64 * nodeStateCode st + captureCode kind), byteOf n]
      ++ wordBytes (BitVec.ofNat 16 secs) ++ slots.flatMap slotStatusBytes

/-- The raw frame of a frame the node builds. -/
def rawFrame (c : NodeConfig) (f : OutFrame) : RawFrame :=
  ⟨BitVec.ofNat 6 c.node, f.kind, framePayload c.yardStation f⟩

/-! ### Bits (R142) -/

/-- The low `n` bits of a number, most significant first. -/
def numberBits : Nat → Nat → List Bool
  | 0, _ => []
  | n + 1, v => v.testBit n :: numberBits n v

/-- The number that bits spell, most significant first. -/
def bitsNumber (bits : List Bool) : Nat := bits.foldl (fun a b => 2 * a + b.toNat) 0

/-- The bits of a payload. -/
def payloadBits (l : List Byte) : List Bool := l.flatMap (fun b => numberBits 8 b.toNat)

/-- R170: one step of the check register. -/
def checkStep (reg : BitVec 16) (b : Bool) : BitVec 16 :=
  if reg.msb != b then (reg <<< 1) ^^^ 0x1021 else reg <<< 1

/-- R143, R170: the check sequence over bits in sending order. -/
def checkSequence (bits : List Bool) : BitVec 16 := bits.foldl checkStep 0xFFFF

/-- R142: the fields that the check sequence covers: arbitration byte, kind, length, payload. -/
def coveredBits (f : RawFrame) : List Bool :=
  numberBits 2 (kindUrgency f.kind) ++ numberBits 6 f.origin.toNat ++ numberBits 5 (kindCode f.kind)
    ++ numberBits 4 f.payload.length ++ payloadBits f.payload

/-- R142: a frame as it is sent: start bit, covered fields, check sequence, end field. -/
def frameBits (f : RawFrame) : List Bool :=
  false :: (coveredBits f ++ numberBits 16 (checkSequence (coveredBits f)).toNat ++ List.replicate 7 true)

/-- The bits the port drives while it sends a frame (R145). -/
def sentBits (c : NodeConfig) (f : OutFrame) : List Bool := frameBits (rawFrame c f)

/-! ### Judging bits heard (R142, R143) -/

/-- The next `n` bits heard, and the rest. Where the sender has stopped driving, the bus rests
recessive (chapter 8). -/
def hearBits : Nat → List Bool → List Bool × List Bool
  | 0, bits => ([], bits)
  | n + 1, [] => (true :: (hearBits n []).1, [])
  | n + 1, b :: rest => (b :: (hearBits n rest).1, (hearBits n rest).2)

/-- Cut bits into bytes. -/
def bitBytes : Nat → List Bool → List Byte
  | 0, _ => []
  | n + 1, bits => byteOf (bitsNumber (bits.take 8)) :: bitBytes n (bits.drop 8)

/-- R143: the checks on a frame read to its end, whose check sequence and end field are good. The origin is
no part of them: an origin of 0 or 63 is judged as any other, which is the model's choice (log 25). -/
def judgeFields (urgency : Nat) (origin : Station) (kindBits : Nat) (payload : List Byte) : Judgement :=
  match kindOfCode kindBits with
  | none => .discarded .unknownKind
  | some k =>
    if payload.length ≠ kindLength k then .discarded .lengthOfKind
    else if urgency ≠ kindUrgency k then .discarded .urgencyOfKind
    else .valid ⟨origin, k, payload⟩

/-- R143: the length field tells where the payload, the check sequence and the end field lie. -/
def judgeBody (urgency origin kind length rest : List Bool) : Judgement :=
  let n := bitsNumber length
  let payload := hearBits (8 * n) rest
  let check := hearBits 16 payload.2
  let tail := hearBits 7 check.2
  if bitsNumber check.1 ≠ (checkSequence (urgency ++ origin ++ kind ++ length ++ payload.1)).toNat then
    .discarded .checkSequence
  else if tail.1.all id = false then .discarded .endField
  else judgeFields (bitsNumber urgency) (BitVec.ofNat 6 (bitsNumber origin)) (bitsNumber kind)
    (bitBytes n payload.1)

/-- R142, R143: the judgement of the bits heard from a start bit on. -/
def judge : List Bool → Judgement
  | [] => .discarded .noStart
  | true :: _ => .discarded .noStart
  | false :: bits =>
    let urgency := hearBits 2 bits
    let origin := hearBits 6 urgency.2
    let kind := hearBits 5 origin.2
    let length := hearBits 4 kind.2
    if bitsNumber length.1 = 15 then .discarded .lengthInvalid
    else judgeBody urgency.1 origin.1 kind.1 length.1 length.2

/-- R142: a frame the port "could not read": it waits for the bus to go idle again (log 8). -/
def DiscardReason.unreadable : DiscardReason → Bool
  | .noStart => false
  | .lengthInvalid => true
  | .checkSequence => true
  | .endField => true
  | .unknownKind => false
  | .lengthOfKind => false
  | .urgencyOfKind => false

end Sys2Proof.Machine
end

