-- ==== Sys2Proof/Machine/Commands.lean ====
section
/-! DEFINITION. Frames heard: acceptance (R146), command handling (R159, R160), and the meaning of every
frame row of the table: START, HOLD_STATE, HANDOFF, HANDOFF_REPLY, the fourteen commands, and the frames
that are not taken or are discarded. -/

namespace Sys2Proof.Machine

/-! ### Acceptance (R146) -/

/-- R142, R146: a valid frame from an origin. Outside IN_SERVICE, or before the port has seen the bus
idle, nothing is taken. The roster is refreshed first; the node's own frames are not taken. -/
def State.hear (s : State) (origin : Station) (act : State → State) : State :=
  if s.serving ∧ s.port.seenIdle = true then
    if origin.toNat = s.cfg.node then s.refreshRoster origin.toNat
    else act (s.refreshRoster origin.toNat)
  else s

/-- R146: a frame whose payload byte 0 names this node. -/
def State.hearTarget (s : State) (origin : Station) (target : Byte) (act : State → State) : State :=
  s.hear origin (fun x => if target.toNat = x.cfg.node then act x else x)

/-- R146: a command is taken from the configured yard computer station only. -/
def State.hearYard (s : State) (origin : Station) (target : Byte) (act : State → State) : State :=
  s.hearTarget origin target (fun x => if origin.toNat = x.cfg.yardStation then act x else x)

/-! ### Command handling (R159, R160) -/

/-- R160: the result of a command is answered with one COMMAND_REPLY. -/
def answer (kind : FrameKind) (argument : BitVec 16) (r : CommandResult × State) : State :=
  r.2.offer (.commandReply kind argument r.1) none

/-- R159, check 1: a crest-only command. -/
def crestOnly (s : State) (act : State → CommandResult × State) : CommandResult × State :=
  if s.cfg.role = .crest then act s else (.refusedRole, s)

/-- R159, check 2: a slot argument above 3, or naming an OFF slot. -/
def slotArgument (s : State) (slot : Byte) (act : State → SlotIx → CommandResult × State) :
    CommandResult × State :=
  match slotOfNat slot.toNat with
  | none => (.refusedValue, s)
  | some k => if (s.slot k).service = .off then (.refusedValue, s) else act s k

/-- R160: a track, station or slot stands in the low byte of the first argument. -/
def byteArgument (b : Byte) : BitVec 16 := b.setWidth 16

/-! ### The crest commands -/

/-- CUT_ENTRY (R109). -/
def State.takeCutEntry (s : State) (origin : Station) (p : CutEntryPayload) : State :=
  s.hearYard origin p.target (fun x => answer .cutEntry p.tag (crestOnly x (fun y => y.enterCut p)))

/-- CUT_ENTRY. -/
def execCutEntry (origin : Station) (p : CutEntryPayload) (s : State) : Host.Outcome State Fault Refusal :=
  finish s (s.takeCutEntry origin p)

/-- ENTRY_WITHDRAW (R110). -/
def State.takeEntryWithdraw (s : State) (origin : Station) (target : Byte) (tag : Tag) : State :=
  s.hearYard origin target (fun x => answer .entryWithdraw tag (crestOnly x (fun y => y.withdrawCut tag)))

/-- ENTRY_WITHDRAW. -/
def execEntryWithdraw (origin : Station) (target : Byte) (tag : Tag) (s : State) :
    Host.Outcome State Fault Refusal :=
  finish s (s.takeEntryWithdraw origin target tag)

/-- LIST_CLEAR (R111). -/
def State.takeListClear (s : State) (origin : Station) (target : Byte) : State :=
  s.hearYard origin target (fun x => answer .listClear 0 (crestOnly x State.clearCuts))

/-- LIST_CLEAR. -/
def execListClear (origin : Station) (target : Byte) (s : State) : Host.Outcome State Fault Refusal :=
  finish s (s.takeListClear origin target)

/-- RELEASE_ONE (R112). -/
def State.takeReleaseOne (s : State) (origin : Station) (target : Byte) (tag : Tag) : State :=
  s.hearYard origin target (fun x => answer .releaseOne tag (crestOnly x (fun y => y.releaseHead tag)))

/-- RELEASE_ONE. -/
def execReleaseOne (origin : Station) (target : Byte) (tag : Tag) (s : State) :
    Host.Outcome State Fault Refusal :=
  finish s (s.takeReleaseOne origin target tag)

/-- TRACK_CLOSE (R114). -/
def State.takeTrackClose (s : State) (origin : Station) (target track substitute : Byte) : State :=
  s.hearYard origin target (fun x => answer .trackClose (byteArgument track)
    (crestOnly x (fun y => y.closeTrack track.toNat substitute.toNat)))

/-- TRACK_CLOSE. -/
def execTrackClose (origin : Station) (target track substitute : Byte) (s : State) :
    Host.Outcome State Fault Refusal :=
  finish s (s.takeTrackClose origin target track substitute)

/-- TRACK_OPEN (R115). -/
def State.takeTrackOpen (s : State) (origin : Station) (target track : Byte) : State :=
  s.hearYard origin target (fun x => answer .trackOpen (byteArgument track)
    (crestOnly x (fun y => y.openTrack track.toNat)))

/-- TRACK_OPEN. -/
def execTrackOpen (origin : Station) (target track : Byte) (s : State) : Host.Outcome State Fault Refusal :=
  finish s (s.takeTrackOpen origin target track)

/-- RESTART_ACK (R139). -/
def State.takeRestartAck (s : State) (origin : Station) (target station : Byte) : State :=
  s.hearYard origin target (fun x => answer .restartAck (byteArgument station)
    (crestOnly x (fun y => y.acknowledge station.toNat)))

/-- RESTART_ACK. -/
def execRestartAck (origin : Station) (target station : Byte) (s : State) :
    Host.Outcome State Fault Refusal :=
  finish s (s.takeRestartAck origin target station)

/-! ### The slot commands -/

/-- SLOT_BLOCK (R56). -/
def State.takeSlotBlock (s : State) (origin : Station) (target slot : Byte) : State :=
  s.hearYard origin target (fun x => answer .slotBlock (byteArgument slot)
    (slotArgument x slot State.blockSlot))

/-- SLOT_BLOCK. -/
def execSlotBlock (origin : Station) (target slot : Byte) (s : State) : Host.Outcome State Fault Refusal :=
  finish s (s.takeSlotBlock origin target slot)

/-- SLOT_FREE (R57). -/
def State.takeSlotFree (s : State) (origin : Station) (target slot : Byte) : State :=
  s.hearYard origin target (fun x => answer .slotFree (byteArgument slot)
    (slotArgument x slot State.freeSlot))

/-- SLOT_FREE. -/
def execSlotFree (origin : Station) (target slot : Byte) (s : State) : Host.Outcome State Fault Refusal :=
  finish s (s.takeSlotFree origin target slot)

/-- SLOT_FLUSH (R30, R84). -/
def State.takeSlotFlush (s : State) (origin : Station) (target slot : Byte) : State :=
  s.hearYard origin target (fun x => answer .slotFlush (byteArgument slot)
    (slotArgument x slot State.flushSlot))

/-- SLOT_FLUSH. -/
def execSlotFlush (origin : Station) (target slot : Byte) (s : State) : Host.Outcome State Fault Refusal :=
  finish s (s.takeSlotFlush origin target slot)

/-! ### The commands of the incident unit (R155, R157, R161) -/

/-- R155: the capture and its count, and the fault latch (R129). -/
def State.clearIncidents (s : State) : CommandResult × State :=
  (.done, { s with capture := none, furtherAlarms := 0, faultLatch := false })

/-- INCIDENT_CLEAR (R155). -/
def State.takeIncidentClear (s : State) (origin : Station) (target : Byte) : State :=
  s.hearYard origin target (fun x => answer .incidentClear 0 x.clearIncidents)

/-- INCIDENT_CLEAR. -/
def execIncidentClear (origin : Station) (target : Byte) (s : State) : Host.Outcome State Fault Refusal :=
  finish s (s.takeIncidentClear origin target)

/-- R157: the checks of a WATCH_SET in their order. -/
def State.setWatch (s : State) (tag : Tag) : CommandResult × State :=
  if tag = 0 then (.refusedValue, s)
  else if tag ∈ s.watches then (.done, s)
  else if Config.watchCapacity ≤ s.watches.length then (.refusedFull, s)
  else (.done, { s with watches := s.watches ++ [tag] })

/-- WATCH_SET (R157). -/
def State.takeWatchSet (s : State) (origin : Station) (target : Byte) (tag : Tag) : State :=
  s.hearYard origin target (fun x => answer .watchSet tag (x.setWatch tag))

/-- WATCH_SET. -/
def execWatchSet (origin : Station) (target : Byte) (tag : Tag) (s : State) :
    Host.Outcome State Fault Refusal :=
  finish s (s.takeWatchSet origin target tag)

/-- R157: WATCH_CLEAR; a tag of 0 is never in the table. -/
def State.clearWatch (s : State) (tag : Tag) : CommandResult × State :=
  if tag ∈ s.watches then (.done, { s with watches := s.watches.erase tag }) else (.refusedState, s)

/-- WATCH_CLEAR (R157). -/
def State.takeWatchClear (s : State) (origin : Station) (target : Byte) (tag : Tag) : State :=
  s.hearYard origin target (fun x => answer .watchClear tag (x.clearWatch tag))

/-- WATCH_CLEAR. -/
def execWatchClear (origin : Station) (target : Byte) (tag : Tag) (s : State) :
    Host.Outcome State Fault Refusal :=
  finish s (s.takeWatchClear origin target tag)

/-- R161: what STATUS says of a slot; an OFF slot reports OFF, UNPROVED, 0 and 0. -/
def Slot.status (x : Slot) : SlotStatus :=
  if x.service = .off then ⟨.off, .unproved, 0, 0⟩
  else ⟨x.service, x.point, x.queue.length, x.zone.length⟩

/-- R161: the capture time in whole seconds, 0 if the capture is empty, at most 65535. -/
def captureSeconds : Option Captured → Nat
  | none => 0
  | some c => min 65535 (c.time / 1000)

/-- R161: the STATUS frame of the node as it stands. -/
def State.statusFrame (s : State) : OutFrame :=
  .status s.holdMask s.nodeState (s.capture.map (fun c => c.incident.kind)) s.furtherAlarms
    (captureSeconds s.capture)
    [(s.slot 0).status, (s.slot 1).status, (s.slot 2).status, (s.slot 3).status]

/-- STATUS_QUERY (R161). -/
def State.takeStatusQuery (s : State) (origin : Station) (target : Byte) : State :=
  s.hearYard origin target (fun x => x.offer x.statusFrame none)

/-- STATUS_QUERY. -/
def execStatusQuery (origin : Station) (target : Byte) (s : State) : Host.Outcome State Fault Refusal :=
  finish s (s.takeStatusQuery origin target)

/-! ### START and HOLD_STATE (R31, R97, R137, R138, R168) -/

/-- R31: a slot whose feed node is the sender empties its approach queue. R33: feed node 0 is the crest feed and
no station, so no START empties the queue of a slot that it feeds, whatever origin a frame carries. -/
def State.startSlot (s : State) (origin : Nat) (k : SlotIx) : State :=
  if (s.slot k).service ≠ .off ∧ (s.slotCfg k).feedNode = origin ∧ (s.slotCfg k).feedNode ≠ 0 then s.emptyQueue k
  else s

/-- R31: every slot, slot 0 upward; the order, and with it the order in which their records join the free
list, is the model's choice (log 23). -/
def State.startSlots (s : State) (origin : Nat) : State :=
  (((s.startSlot origin 0).startSlot origin 1).startSlot origin 2).startSlot origin 3

/-- R97: a PENDING context toward the restarted station. -/
def Handoff.pendingToward (h : Handoff) (station : Nat) : Bool :=
  match h.status with
  | .pending _ _ => h.frame.targetStation == station
  | .resolved _ => false

/-- R97: one context returns to attempt 1, its timer stopped. A copy still in the transmit queue stays
there; otherwise a new copy is offered. -/
def State.requeue (s : State) (h : Handoff) : State :=
  let s1 := s.setStatus h.number (.pending .first none)
  if s.isPending h.number = false then s
  else if s.port.queue.any (fun e => e.owner == some h.number) then s1
  else s1.offer (.handoff h.frame) (some h.number)

/-- R97: the contexts concerned, in the order in which their first attempts were queued. -/
def State.requeueAll (s : State) (origin : Nat) : State :=
  (s.handoffs.filter (fun h => h.pendingToward origin)).foldl State.requeue s

/-- START (R31, R97, R138, R146, R168). Its presence rule looks at the entry before the frame, so the
roster's part, which refreshes as well, is made on the state as it was heard. The slots empty their queues before
the handoff unit returns its contexts to the first attempt, which is the model's choice (log 29). -/
def State.takeStart (s : State) (origin : Station) : State :=
  s.hear origin (fun x =>
    { x with roster := (s.rosterStart origin.toNat).roster }.startSlots origin.toNat |>.requeueAll origin.toNat)

/-- START. Role, slot count and image sum have no effect in a node (R168; log 18). -/
def execStart (origin : Station) (_role _slotCount : Byte) (_sum : BitVec 16) (s : State) :
    Host.Outcome State Fault Refusal :=
  finish s (s.takeStart origin)

/-- HOLD_STATE (R133, R137). -/
def State.takeHoldState (s : State) (origin : Station) (mask : Byte) : State :=
  s.hear origin (fun x => x.rosterMask origin.toNat (HoldMask.ofByte mask))

/-- HOLD_STATE. The node state byte has no effect (R137; log 18). -/
def execHoldState (origin : Station) (mask _nodeState : Byte) (s : State) :
    Host.Outcome State Fault Refusal :=
  finish s (s.takeHoldState origin mask)

/-! ### HANDOFF (R98 to R105, R169) -/

/-- R98, R169: the receiver's rules for a HANDOFF frame from an origin. -/
def State.receiveFrame (s : State) (origin : Station) (p : HandoffPayload) : State × Receipt :=
  match slotOfNat p.targetSlot.toNat with
  | none => (s, .refusedUnknownFeed)
  | some k =>
    if payloadAcceptable p then
      s.receive k ⟨.leg origin.toNat p.sourceSlot.toNat p.sourceLeg, p.seq, payloadContents p, none⟩
    else (s, .refusedUnknownFeed)

/-- R105: every taken HANDOFF frame receives exactly one reply. -/
def replyTo (origin : Station) (p : HandoffPayload) (r : State × Receipt) : State :=
  r.1.offer (.handoffReply origin.toNat p.targetSlot.toNat p.seq p.tag r.2.result) none

/-- HANDOFF (R98, R105). -/
def State.takeHandoff (s : State) (origin : Station) (p : HandoffPayload) : State :=
  s.hearTarget origin p.target (fun x => replyTo origin p (x.receiveFrame origin p))

/-- HANDOFF. -/
def execHandoff (origin : Station) (p : HandoffPayload) (s : State) : Host.Outcome State Fault Refusal :=
  finish s (s.takeHandoff origin p)

/-! ### HANDOFF_REPLY (R93, R94, R169) -/

/-- R93: a PENDING context that a reply matches in all four points. -/
def Handoff.matchedBy (h : Handoff) (origin : Station) (p : ReplyPayload) : Bool :=
  match h.status with
  | .pending _ _ =>
    h.frame.targetStation == origin.toNat && h.frame.targetSlot == p.slot.toNat
      && h.frame.seq == p.seq && h.frame.contents.tag == p.tag
  | .resolved _ => false

/-- R94: the alarm of a refusing reply names the sending slot. -/
def State.replyRefusal (s : State) (h : Handoff) (r : HandoffResult) : Incident :=
  refusedIncident h.frame.sourceSlot (s.handoffRecord h).tag (s.handoffRecord h).companionTag r
    h.frame.targetStation h.frame.targetSlot h.frame.seq

/-- R94: a matched reply resolves the context according to its result. -/
def State.takeResult (s : State) (h : Handoff) (r : HandoffResult) : State :=
  if r.refuses then (s.refuseHandoff (s.replyRefusal h r)).resolve h.number (.answered r)
  else s.resolve h.number (.answered r)

/-- R93, R169: the first matching context takes the reply; the handoffs stand in the order of their first
attempts. A reply that matches none, or whose result code is above 5, is ignored. -/
def State.matchReply (s : State) (origin : Station) (p : ReplyPayload) : State :=
  match handoffResultOfCode p.result.toNat with
  | none => s
  | some r =>
    match s.handoffs.find? (fun h => h.matchedBy origin p) with
    | none => s
    | some h => s.takeResult h r

/-- HANDOFF_REPLY (R93). -/
def State.takeHandoffReply (s : State) (origin : Station) (p : ReplyPayload) : State :=
  s.hearTarget origin p.target (fun x => x.matchReply origin p)

/-- HANDOFF_REPLY. -/
def execHandoffReply (origin : Station) (p : ReplyPayload) (s : State) : Host.Outcome State Fault Refusal :=
  finish s (s.takeHandoffReply origin p)

/-! ### Frames not taken and frames discarded (R143, R146) -/

/-- R146: a valid frame that no block takes only refreshes the roster (R135). -/
def State.takeNothing (s : State) (origin : Station) : State := s.hear origin (fun x => x)

/-- FRAME_NOT_TAKEN. -/
def execFrameNotTaken (origin : Station) (s : State) : Host.Outcome State Fault Refusal :=
  finish s (s.takeNothing origin)

/-- A word of two payload bytes, high byte first (chapter 12). -/
def bytesWord (hi lo : Byte) : BitVec 16 := hi ++ lo

/-- A leg bit (chapter 12). -/
def legOfBit (b : Bool) : Leg := if b then .reverse else .normal

/-- Section 12.2: the payload of a HANDOFF from its fourteen bytes. -/
def handoffOfBytes (t x q th tl d o e c fh fl ch cl cd : Byte) : HandoffPayload where
  target := t
  targetSlot := x.extractLsb' 4 4
  sourceSlot := x.extractLsb' 1 3
  sourceLeg := legOfBit (x.getLsbD 0)
  seq := q
  tag := bytesWord th tl
  destination := d
  originalDestination := o
  expectedAxles := e
  cutClass := c
  flags := bytesWord fh fl
  companionTag := bytesWord ch cl
  companionDestination := cd

/-- The command that a valid frame is (R146): the row of its kind with the operands its payload gives.
COMMAND_REPLY and the report kinds are never taken. A valid frame's payload has its kind's length, so
the last rows of each kind are never reached. -/
def takeFrame (f : RawFrame) (s : State) : State :=
  match f.kind, f.payload with
  | .start, _ => s.takeStart f.origin
  | .holdState, [m, _] => s.takeHoldState f.origin m
  | .handoff, [t, x, q, th, tl, d, o, e, c, fh, fl, ch, cl, cd] =>
    s.takeHandoff f.origin (handoffOfBytes t x q th tl d o e c fh fl ch cl cd)
  | .handoffReply, [t, k, q, th, tl, r] => s.takeHandoffReply f.origin ⟨t, k, q, bytesWord th tl, r⟩
  | .cutEntry, [t, th, tl, d, e, c, i] => s.takeCutEntry f.origin ⟨t, bytesWord th tl, d, e, c, i⟩
  | .entryWithdraw, [t, th, tl] => s.takeEntryWithdraw f.origin t (bytesWord th tl)
  | .listClear, [t] => s.takeListClear f.origin t
  | .trackClose, [t, k, x] => s.takeTrackClose f.origin t k x
  | .trackOpen, [t, k] => s.takeTrackOpen f.origin t k
  | .releaseOne, [t, th, tl] => s.takeReleaseOne f.origin t (bytesWord th tl)
  | .restartAck, [t, n] => s.takeRestartAck f.origin t n
  | .slotBlock, [t, k] => s.takeSlotBlock f.origin t k
  | .slotFree, [t, k] => s.takeSlotFree f.origin t k
  | .slotFlush, [t, k] => s.takeSlotFlush f.origin t k
  | .incidentClear, [t] => s.takeIncidentClear f.origin t
  | .watchSet, [t, th, tl] => s.takeWatchSet f.origin t (bytesWord th tl)
  | .watchClear, [t, th, tl] => s.takeWatchClear f.origin t (bytesWord th tl)
  | .statusQuery, [t] => s.takeStatusQuery f.origin t
  | _, _ => s.takeNothing f.origin

/-- R143: a frame that fails a check is dropped silently; one the port could not read costs it its
footing on the bus until the bus is idle again (R142; log 8). -/
def State.dropFrame (s : State) (r : DiscardReason) : State :=
  if s.listening ∧ r.unreadable = true then s.setPort { s.port with seenIdle := false } else s

/-- FRAME_DISCARDED. The bits are judged; bits that pass every check are no discarded frame, and the
port takes them as the frame they are (log 7). -/
def execFrameDiscarded (bits : List Bool) (s : State) : Host.Outcome State Fault Refusal :=
  match judge bits with
  | .discarded r => finish s (s.dropFrame r)
  | .valid f => finish s (takeFrame f s)

end Sys2Proof.Machine
end

