-- ==== Sys2Proof/Machine/Image.lean ====
section
/-! DEFINITION. The configuration image (section 10.2, section 12.5): how its bytes are read from the
serial memory (R163), where its fields lie, and the checks of R164 that turn it into a configuration. -/

namespace Sys2Proof.Machine

/-! ### Reading (R163) -/

/-- R163: "A memory that does not answer reads as bytes of all ones" (log 19). -/
def memoryByte (memory : List Byte) (i : Nat) : Nat := (memory.getD i 0xFF).toNat

/-- R163: the bytes that are read: as many as the third byte says, if that is 30 to 130. -/
def imageBytes (memory : List Byte) : Option (List Nat) :=
  if Config.imageShortest ≤ memoryByte memory 2 ∧ memoryByte memory 2 ≤ Config.imageLongest then
    some ((List.range (memoryByte memory 2)).map (memoryByte memory))
  else none

/-- One byte of an image that has been read. -/
def imageAt (b : List Nat) (i : Nat) : Nat := b.getD i 0xFF

/-! ### The parts of the image (section 12.5) -/

/-- A value lies in a range, both ends included. -/
def inRange (lo hi n : Nat) : Bool := decide (lo ≤ n) && decide (n ≤ hi)

/-- Section 12.5: the role of a role code. -/
def roleOfCode : Nat → Option Role
  | 0 => some .tree
  | 1 => some .crest
  | _ => none

/-- Section 12.5: the bit rate of a bit-rate code. -/
def bitRateOfCode : Nat → Option BitRate
  | 1 => some .kbit62
  | 2 => some .kbit125
  | _ => none

/-- Section 12.5: hold-on-incident, 0 no and 1 yes. -/
def yesOfCode : Nat → Option Bool
  | 0 => some false
  | 1 => some true
  | _ => none

/-- R164: a leg end names a track (node 0, track 1 to 63) or a slot (node 1 to 62 and not the yard
computer station, slot 0 to 3). -/
def legEndOfCodes (yard node x : Nat) : Option LegEnd :=
  if node = 0 then if inRange 1 63 x then some (.track x) else none
  else if node ≤ 62 ∧ node ≠ yard ∧ x ≤ 3 then some (.slot node x)
  else none

/-- R164: the ranges of a slot record; a feed node of 0 is allowed only in slot 0 of a crest node. -/
def slotRangesHold (b : List Nat) (o : Nat) (crestFeed : Bool) : Bool :=
  inRange 1 63 (imageAt b o) && inRange 1 63 (imageAt b (o + 2))
    && decide (imageAt b o < imageAt b (o + 1)) && decide (imageAt b (o + 1) ≤ imageAt b (o + 2))
    && decide (imageAt b (o + 4) ≤ 62) && (crestFeed || decide (imageAt b (o + 4) ≠ 0))
    && decide (imageAt b (o + 5) ≤ 3)
    && inRange 4 60 (imageAt b (o + 11)) && decide (imageAt b (o + 12) ≤ 3)
    && inRange 10 200 (imageAt b (o + 13)) && inRange 2 60 (imageAt b (o + 14))
    && inRange 5 120 (imageAt b (o + 15)) && inRange 2 6 (imageAt b (o + 16))

/-- Section 12.5: the slot record at an offset, its times in ms, if it passes R164. -/
def slotRecord (b : List Nat) (o yard : Nat) (crestFeed : Bool) : Option SlotConfig :=
  match legOfCode (imageAt b (o + 3)), legOfCode (imageAt b (o + 6)),
    legEndOfCodes yard (imageAt b (o + 7)) (imageAt b (o + 8)),
    legEndOfCodes yard (imageAt b (o + 9)) (imageAt b (o + 10)) with
  | some strayLeg, some feedLeg, some normalEnd, some reverseEnd =>
    if slotRangesHold b o crestFeed then
      some { reachFirst := imageAt b o
             split := imageAt b (o + 1)
             reachLast := imageAt b (o + 2)
             strayLeg := strayLeg
             feedNode := imageAt b (o + 4)
             feedSlot := imageAt b (o + 5)
             feedLeg := feedLeg
             normalEnd := normalEnd
             reverseEnd := reverseEnd
             throwLimit := 50 * imageAt b (o + 11)
             retries := imageAt b (o + 12)
             gapTime := 10 * imageAt b (o + 13)
             stallTime := 1000 * imageAt b (o + 14)
             overdueTime := 1000 * imageAt b (o + 15)
             pressureThreshold := imageAt b (o + 16) }
    else none
  | _, _, _, _ => none

/-- Section 12.5: the slot records of a node, slot 0 upward, from an offset. -/
def slotRecords (b : List Nat) (o yard count : Nat) (crest : Bool) : Option (List SlotConfig) :=
  (List.range count).mapM (fun k => slotRecord b (o + 17 * k) yard (crest && k == 0))

/-- R164: the roster numbers. -/
def rosterHolds (node yard : Nat) (roster : List Nat) : Bool :=
  roster.all (fun n => inRange 1 62 n && n != node && n != yard) && decide roster.Nodup

/-- Section 12.5: the crest record. -/
def crestRecord (b : List Nat) : CrestConfig where
  rejectTrack := imageAt b 11
  roster := (List.range (imageAt b 12)).map (fun i => imageAt b (13 + i))
  intervals := (List.range 16).map (fun i => imageAt b (13 + imageAt b 12 + i))

/-- R164: the crest record's checks; the reject track lies within slot 0's reach. -/
def crestHolds (b : List Nat) (slots : List SlotConfig) : Bool :=
  inRange 1 63 (imageAt b 11) && decide (imageAt b 12 ≤ 31)
    && rosterHolds (imageAt b 4) (imageAt b 7) (crestRecord b).roster
    && (slots.getD 0 SlotConfig.blank).inReach (imageAt b 11)

/-! ### The image as a whole (R164) -/

/-- Section 10.2: the total length that the role, slot count and roster count give. -/
def lengthOfContents (role : Role) (slotCount rosterCount : Nat) : Nat :=
  match role with
  | .tree => 13 + 17 * slotCount
  | .crest => 31 + rosterCount + 17 * slotCount

/-- R164, R170: the sum field, high byte first. -/
def sumField (b : List Nat) : Nat :=
  256 * imageAt b (b.length - 2) + imageAt b (b.length - 1)

/-- R170: the plain total of every byte before the sum field, modulo 65536. -/
def imageSum (b : List Nat) : Nat := (b.take (b.length - 2)).sum % 65536

/-- R164: marker, length, format and sum. -/
def frameOfImageHolds (b : List Nat) (role : Role) : Bool :=
  decide (imageAt b 0 = 0x6E) && decide (imageAt b 1 = 0x91)
    && decide (b.length = lengthOfContents role (imageAt b 6) (imageAt b 12))
    && decide (imageAt b 3 = 0x01) && decide (imageSum b = sumField b)

/-- R164: the ranges of the node record. -/
def nodeRangesHold (b : List Nat) : Bool :=
  inRange 1 62 (imageAt b 4) && inRange 1 4 (imageAt b 6) && inRange 1 62 (imageAt b 7)
    && decide (imageAt b 7 ≠ imageAt b 4) && inRange 2 20 (imageAt b 9)

/-- The configuration an image spells, its slot records given. -/
def nodeConfig (b : List Nat) (role : Role) (bitRate : BitRate) (hold : Bool) (slots : List SlotConfig) :
    NodeConfig where
  node := imageAt b 4
  role := role
  slotCount := imageAt b 6
  yardStation := imageAt b 7
  bitRate := bitRate
  handoffTimeout := 10 * imageAt b 9
  holdOnIncident := hold
  crest := match role with
    | .tree => none
    | .crest => some (crestRecord b)
  slots := slots
  imageSum := BitVec.ofNat 16 (sumField b)

/-- Section 12.5: where the slot records begin. -/
def slotsOffset (b : List Nat) : Role → Nat
  | .tree => 11
  | .crest => 29 + imageAt b 12

/-- R164: the crest record is checked in the crest role only. -/
def crestPartHolds (b : List Nat) (slots : List SlotConfig) : Role → Bool
  | .tree => true
  | .crest => crestHolds b slots

/-- R164: the configuration of an image that passes every check. -/
def checkImage (b : List Nat) : Option NodeConfig :=
  match roleOfCode (imageAt b 5), bitRateOfCode (imageAt b 8), yesOfCode (imageAt b 10) with
  | some role, some bitRate, some hold =>
    if frameOfImageHolds b role && nodeRangesHold b then
      match slotRecords b (slotsOffset b role) (imageAt b 7) (imageAt b 6) (role == .crest) with
      | some slots =>
        if crestPartHolds b slots role then some (nodeConfig b role bitRate hold slots) else none
      | none => none
    else none
  | _, _, _ => none

/-- R163, R164: the configuration that the serial memory gives, if its image passes. -/
def readImage (memory : List Byte) : Option NodeConfig :=
  match imageBytes memory with
  | none => none
  | some b => checkImage b

end Sys2Proof.Machine
end

