-- ==== Sys2Proof/Machine/NodeControl.lean ====
section
/-! DEFINITION. Node control (chapter 10): RESET, RESET_RELEASE, IMAGE_READ and CENSUS_END. -/

namespace Sys2Proof.Machine

/-! ### Reset (R162) -/

/-- R35: a slot after reset. The input lines belong to the field and keep their levels (log 4). -/
def Slot.reset (x : Slot) : Slot :=
  { Slot.afterReset with
    provedNormal := x.provedNormal
    provedReverse := x.provedReverse
    foulingOccupied := x.foulingOccupied }

/-- R162: "Every block's state takes the value after reset that its own chapter gives." The commands
that wait are the outside's and stay (log 21). -/
def State.assertReset (s : State) : State :=
  { State.reset with nodeState := .reset, slots := s.slots.map Slot.reset, pending := s.pending }

/-- RESET. -/
def execReset (s : State) : Host.Outcome State Fault Refusal := finish s s.assertReset

/-- R162: the running time begins at 0 when the line is released. -/
def State.releaseReset (s : State) : State :=
  if s.nodeState = .reset then { s with nodeState := .loading, time := 0 } else s

/-- RESET_RELEASE; a line that is not asserted is not released (log 5). -/
def execResetRelease (s : State) : Host.Outcome State Fault Refusal := finish s s.releaseReset

/-! ### IMAGE_READ (R163 to R166) -/

/-- R134: a roster entry after reset. -/
def RosterEntry.unheard (station : Nat) : RosterEntry := ⟨station, .unheard, none, {}, false⟩

/-- R134: "The tree roster has one entry for each node number listed in the crest configuration." -/
def NodeConfig.rosterEntries (c : NodeConfig) : List RosterEntry :=
  match c.crest with
  | none => []
  | some x => x.roster.map RosterEntry.unheard

/-- R166: the image passes and the census begins. -/
def State.beginCensus (s : State) (c : NodeConfig) : State :=
  { s with
    nodeState := .census
    config := some c
    censusStart := some s.time
    roster := c.rosterEntries }

/-- R162, R164: the image is read in LOADING only. -/
def State.loadImage (s : State) (memory : List Byte) : State :=
  if s.nodeState = .loading then
    match readImage memory with
    | some c => s.beginCensus c
    | none => { s with nodeState := .configFault }
  else s

/-- IMAGE_READ. -/
def execImageRead (memory : List Byte) (s : State) : Host.Outcome State Fault Refusal :=
  finish s (s.loadImage memory)

/-! ### CENSUS_END (R167) -/

/-- R167 step 1: a slot that enters service, from its field lines. -/
def Slot.enterService (x : Slot) : Slot :=
  { x with
    point := x.detected
    service := if x.foulingOccupied then .settling else .inUse
    ghostRaised := false }

/-- R167 step 1: the slots below the slot count. -/
def State.enterSlot (s : State) (k : SlotIx) : State :=
  if k.val < s.cfg.slotCount then s.setSlot k (s.slot k).enterService else s

/-- R167 step 1: slot 0 upward. -/
def State.enterSlots (s : State) : State :=
  (((s.enterSlot 0).enterSlot 1).enterSlot 2).enterSlot 3

/-- R167 step 3, R168: the START frame. -/
def State.startFrame (s : State) : OutFrame := .start s.cfg.role s.cfg.slotCount s.cfg.imageSum

/-- R167 step 4, R133: the first HOLD_STATE, "with the mask as it now stands". -/
def State.firstHoldState (s : State) : State := { s with holdMask := s.formMask }.offerHoldState

/-- R167 step 5, R154: the captured alarm is reported when the node enters service. -/
def State.reportCapture (s : State) : State :=
  match s.capture with
  | none => s
  | some c => s.offerReport (.incident c.incident true)

/-- R167: the node enters service. -/
def State.enterService (s : State) (start : Nat) : State :=
  let s1 := { (s.reach (start + Config.censusTime)).enterSlots with nodeState := .inService, censusStart := none }
  (s1.offer s1.startFrame none).firstHoldState.reportCapture

/-- R162, R167: the end of the census; there is none outside it (log 5). -/
def State.endCensus (s : State) : State :=
  if s.nodeState = .census then
    match s.censusStart with
    | none => s
    | some t => s.enterService t
  else s

/-- CENSUS_END. -/
def execCensusEnd (s : State) : Host.Outcome State Fault Refusal := finish s s.endCensus

end Sys2Proof.Machine
end

