-- ==== Sys2Proof/Machine/Dispatch.lean ====
section
/-! DEFINITION. The meaning of every command: one arm for each constructor of Instr, in its order. -/

namespace Sys2Proof.Machine

/-- What a command does to everything but the queue. -/
def exec (i : Instr) (s : State) : Host.Outcome State Fault Refusal :=
  match i with
  | .reset => Sys2Proof.Machine.execReset s
  | .resetRelease => Sys2Proof.Machine.execResetRelease s
  | .imageRead memory => Sys2Proof.Machine.execImageRead memory s
  | .censusAxle slot sensor direction => Sys2Proof.Machine.execCensusAxle slot sensor direction s
  | .censusEnd => Sys2Proof.Machine.execCensusEnd s
  | .commitAxleForward slot => Sys2Proof.Machine.execCommitAxleForward slot s
  | .commitAxleBackward slot => Sys2Proof.Machine.execCommitAxleBackward slot s
  | .exitAxleForward slot leg => Sys2Proof.Machine.execExitAxleForward slot leg s
  | .exitAxleBackward slot leg => Sys2Proof.Machine.execExitAxleBackward slot leg s
  | .detectionChange slot input asserted => Sys2Proof.Machine.execDetectionChange slot input asserted s
  | .foulingOccupied slot => Sys2Proof.Machine.execFoulingOccupied slot s
  | .foulingClear slot => Sys2Proof.Machine.execFoulingClear slot s
  | .crestAxle => Sys2Proof.Machine.execCrestAxle s
  | .gapExpiry slot index => Sys2Proof.Machine.execGapExpiry slot index s
  | .stallExpiry slot index => Sys2Proof.Machine.execStallExpiry slot index s
  | .ghostExpiry slot => Sys2Proof.Machine.execGhostExpiry slot s
  | .overdueExpiry slot seq => Sys2Proof.Machine.execOverdueExpiry slot seq s
  | .throwDeadline slot => Sys2Proof.Machine.execThrowDeadline slot s
  | .pauseEnd slot => Sys2Proof.Machine.execPauseEnd slot s
  | .replyTimeout place => Sys2Proof.Machine.execReplyTimeout place s
  | .releaseIntervalEnd => Sys2Proof.Machine.execReleaseIntervalEnd s
  | .periodTimerExpiry => Sys2Proof.Machine.execPeriodTimerExpiry s
  | .silenceDeadline station => Sys2Proof.Machine.execSilenceDeadline station s
  | .muteRetryExpiry => Sys2Proof.Machine.execMuteRetryExpiry s
  | .transmitAttempt => Sys2Proof.Machine.execTransmitAttempt s
  | .arbitrationLost => Sys2Proof.Machine.execArbitrationLost s
  | .transmitError => Sys2Proof.Machine.execTransmitError s
  | .frameSent => Sys2Proof.Machine.execFrameSent s
  | .frameDiscarded bits => Sys2Proof.Machine.execFrameDiscarded bits s
  | .frameNotTaken origin => Sys2Proof.Machine.execFrameNotTaken origin s
  | .start origin role slotCount imageSum => Sys2Proof.Machine.execStart origin role slotCount imageSum s
  | .holdState origin mask nodeState => Sys2Proof.Machine.execHoldState origin mask nodeState s
  | .handoff origin payload => Sys2Proof.Machine.execHandoff origin payload s
  | .handoffReply origin payload => Sys2Proof.Machine.execHandoffReply origin payload s
  | .cutEntry origin payload => Sys2Proof.Machine.execCutEntry origin payload s
  | .entryWithdraw origin target tag => Sys2Proof.Machine.execEntryWithdraw origin target tag s
  | .listClear origin target => Sys2Proof.Machine.execListClear origin target s
  | .releaseOne origin target tag => Sys2Proof.Machine.execReleaseOne origin target tag s
  | .trackClose origin target track substitute => Sys2Proof.Machine.execTrackClose origin target track substitute s
  | .trackOpen origin target track => Sys2Proof.Machine.execTrackOpen origin target track s
  | .restartAck origin target station => Sys2Proof.Machine.execRestartAck origin target station s
  | .slotBlock origin target slot => Sys2Proof.Machine.execSlotBlock origin target slot s
  | .slotFree origin target slot => Sys2Proof.Machine.execSlotFree origin target slot s
  | .slotFlush origin target slot => Sys2Proof.Machine.execSlotFlush origin target slot s
  | .incidentClear origin target => Sys2Proof.Machine.execIncidentClear origin target s
  | .watchSet origin target tag => Sys2Proof.Machine.execWatchSet origin target tag s
  | .watchClear origin target tag => Sys2Proof.Machine.execWatchClear origin target tag s
  | .statusQuery origin target => Sys2Proof.Machine.execStatusQuery origin target s
  | .busIdle => Sys2Proof.Machine.execBusIdle s

end Sys2Proof.Machine
end

