-- ==== Sys2Proof/Safety.lean ====
section
/-! DEFINITION. The terms in which claims about the node are made: what an event's reports may touch,
what it means that a command leaves the machine in a given state, and the laws that every state of a run
keeps (R12, R20, R40, R61, R108, R113, R125, R127, R147, R157). -/

namespace Sys2Proof.Machine

/-! ### What an event leaves

Every event may report: offer frames, and through a full transmit queue discard others (R149), capture
alarms, and form the hold mask and the lines again. The two views below leave that out, so that a claim
can say exactly what else a command changes. -/

/-- A slot but for its ghost timer, which follows the fouling circuit and the counts (R81). -/
def Slot.apartFromTimer (x : Slot) : Slot := { x with ghostTimer := none }

/-- The state but for the frames in the transmit queue and what follows from the other parts: hold mask,
period timer, signal, fault line, ghost timers. -/
def State.apartFromFrames (s : State) : State :=
  { s with
    slots := s.slots.map Slot.apartFromTimer
    holdMask := {}
    periodTimer := none
    signal := .stop
    faultLine := false
    port := { s.port with queue := [] } }

/-- The state but for all that a report can touch: beside the above, the capture, and what a discarded
HANDOFF touches (R91, R92): handoffs, wait list, pool and fault latch. -/
def State.apartFromReports (s : State) : State :=
  { s.apartFromFrames with
    records := Vector.replicate 64 Record.blank
    free := []
    handoffs := []
    waitList := []
    faultLatch := false
    capture := none
    furtherAlarms := 0 }

/-- The transmit queue takes `n` more frames without a discard. -/
def State.hasRoom (s : State) (n : Nat) : Prop := s.port.queue.length + n ≤ Config.transmitCapacity

/-- A frame stands in the transmit queue. -/
def State.holdsFrame (s : State) (f : OutFrame) : Prop := f ∈ s.port.queue.map TxEntry.frame

/-- The command completes and leaves the machine as `u`. Where the transmit queue has room for `sends` and
one HOLD_STATE, it offers the frames `sends`, and no other but a HOLD_STATE, and discards none. -/
def Leaves (c : Instr) (s u : State) (sends : List OutFrame) : Prop :=
  ∃ t, exec c s = .next t ∧ t.apartFromReports = u.apartFromReports
    ∧ (s.hasRoom (sends.length + 1) →
        t.apartFromFrames = u.apartFromFrames
        ∧ (∀ f ∈ sends, t.holdsFrame f)
        ∧ (∀ e ∈ s.port.queue, e.isHoldState = true ∨ e ∈ t.port.queue)
        ∧ (∀ e ∈ t.port.queue, e ∈ s.port.queue ∨ e.frame ∈ sends ∨ e.isHoldState = true))

/-- R153: the frame that reports an incident from a state: the captured mark is set if the capture takes
it. -/
def State.reportOf (s : State) (inc : Incident) : OutFrame :=
  .incident inc (isAlarm inc.kind && s.capture.isNone)

/-- R142, R146: a frame from this origin is taken: the node is in service, its port has its footing on the
bus, and the frame is not the node's own. -/
def State.hears (s : State) (origin : Station) : Prop :=
  s.nodeState = .inService ∧ s.port.seenIdle = true ∧ origin.toNat ≠ s.cfg.node

/-- R146: a command frame is taken: it is heard, names this node, and comes from the yard computer. -/
def State.takesCommand (s : State) (origin : Station) (target : Byte) : Prop :=
  s.hears origin ∧ target.toNat = s.cfg.node ∧ origin.toNat = s.cfg.yardStation

/-- R135, R146: the state after the roster has been given the origin of a frame heard in service. -/
def State.refreshed (s : State) (origin : Station) : State :=
  if s.cfg.role = .crest then
    { s with roster := s.roster.map (fun x => if x.station = origin.toNat then
        { x with presence := .present, lastHeard := some s.time } else x) }
  else s

/-- The origin of a frame that stands as a command of its own. -/
def frameOrigin : Instr → Option Station
  | .start o _ _ _ => some o
  | .holdState o _ _ => some o
  | .handoff o _ => some o
  | .handoffReply o _ => some o
  | .cutEntry o _ => some o
  | .entryWithdraw o _ _ => some o
  | .listClear o _ => some o
  | .releaseOne o _ _ => some o
  | .trackClose o _ _ _ => some o
  | .trackOpen o _ _ => some o
  | .restartAck o _ _ => some o
  | .slotBlock o _ _ => some o
  | .slotFree o _ _ => some o
  | .slotFlush o _ _ => some o
  | .incidentClear o _ => some o
  | .watchSet o _ _ => some o
  | .watchClear o _ _ => some o
  | .statusQuery o _ => some o
  | _ => none

/-- Byte 0 of a unicast payload: the station a frame is addressed to (section 12.2). -/
def frameTarget : Instr → Option Byte
  | .handoff _ p => some p.target
  | .handoffReply _ p => some p.target
  | .cutEntry _ p => some p.target
  | .entryWithdraw _ t _ => some t
  | .listClear _ t => some t
  | .releaseOne _ t _ => some t
  | .trackClose _ t _ _ => some t
  | .trackOpen _ t _ => some t
  | .restartAck _ t _ => some t
  | .slotBlock _ t _ => some t
  | .slotFree _ t _ => some t
  | .slotFlush _ t _ => some t
  | .incidentClear _ t => some t
  | .watchSet _ t _ => some t
  | .watchClear _ t _ => some t
  | .statusQuery _ t => some t
  | _ => none

/-- R145, R146: the command kinds, which the yard computer alone may send. -/
def isYardCommand : Instr → Bool
  | .handoff _ _ => false
  | .handoffReply _ _ => false
  | c => (frameTarget c).isSome

/-- R169: the fields of a HANDOFF lie in their ranges, and its flags agree with its optional parts. -/
def HandoffInRange (p : HandoffPayload) : Prop :=
  p.destination.toNat ≤ 63 ∧ p.originalDestination.toNat ≤ 63 ∧ p.expectedAxles.toNat ≤ 250
    ∧ p.cutClass.toNat ≤ 3 ∧ p.companionDestination.toNat ≤ 63
    ∧ (p.flags.getLsbD 2 = true ↔ p.originalDestination ≠ 0)
    ∧ (p.flags.getLsbD 3 = true ↔ p.companionTag ≠ 0)

/-- R98: a slot is fed by the source of a HANDOFF. -/
def State.fedBy (s : State) (k : SlotIx) (origin : Station) (p : HandoffPayload) : Prop :=
  (s.slotCfg k).feedNode = origin.toNat ∧ (s.slotCfg k).feedSlot = p.sourceSlot.toNat
    ∧ (s.slotCfg k).feedLeg = p.sourceLeg

/-- R93: a PENDING context that a reply matches in its four points. -/
def Handoff.answeredBy (h : Handoff) (origin : Station) (p : ReplyPayload) : Prop :=
  (∃ a timer, h.status = .pending a timer) ∧ h.frame.targetStation = origin.toNat
    ∧ h.frame.targetSlot = p.slot.toNat ∧ h.frame.seq = p.seq ∧ h.frame.contents.tag = p.tag

/-- R160: the reply to a command. -/
def replyFrame (kind : FrameKind) (argument : BitVec 16) (r : CommandResult) : OutFrame :=
  .commandReply kind argument r

/-! ### Words for the rules' conditions -/

/-- R39, R41: the point state that the two detection inputs show. -/
def pointShownBy (provedNormal provedReverse : Bool) : PointState :=
  if provedNormal = true ∧ provedReverse = false then .provedNormal
  else if provedReverse = true ∧ provedNormal = false then .provedReverse
  else .unproved

/-- R37, R40, R53: a slot made FAILED or BLOCKED; a throw in progress is abandoned, and the drive is off. -/
def Slot.takenOut (x : Slot) (service : ServiceState) : Slot :=
  { x with
    service := service
    point := if x.isMoving = true then pointShownBy x.provedNormal x.provedReverse else x.point
    driveNormal := false
    driveReverse := false }

/-- R47: a throw begins toward a leg. -/
def Slot.thrownToward (x : Slot) (leg : Leg) (retries deadline : Nat) : Slot :=
  { x with
    point := .moving ⟨leg, retries, deadline, .driving⟩
    driveNormal := decide (leg = .normal)
    driveReverse := decide (leg = .reverse) }

/-- R64, first and fourth row: a forward commit axle begins a passage. -/
def Slot.beginsPassage (x : Slot) : Prop :=
  x.zone = [] ∨ ∃ p, x.zone = [p] ∧ p.phase = .committed ∧ p.gapRunning = false

/-- R45: the slot after the late-throw evaluation for a leg. -/
def Slot.afterLateThrow (x : Slot) (c : SlotConfig) (leg : Leg) (now : Nat) : Slot :=
  if x.zone = [] ∧ x.service = .inUse ∧ x.foulingOccupied = false ∧ x.isMoving = false
      ∧ x.point ≠ provedIn leg then
    x.thrownToward leg c.retries (now + c.throwLimit)
  else x

/-- The tag of the head of a slot's approach queue, 0 if the queue is empty. -/
def State.headTag (s : State) (k : SlotIx) : Tag :=
  match (s.slot k).queue with
  | r :: _ => (s.record r).tag
  | [] => 0

/-- The tag of the youngest passage of a slot, 0 if the zone list is empty. -/
def State.youngestTag (s : State) (k : SlotIx) : Tag :=
  match (s.slot k).zone.getLast? with
  | some p => (s.record p.record).tag
  | none => 0

/-- No passage stands at the front of a zone list that ends (R78). -/
def noneEnds (zone : List Passage) : Prop := ∀ p ∈ zone.head?, p.ends = false

/-- R82: the stall timer restarted at an axle. -/
def Passage.afterAxle (p : Passage) (now stallTime : Nat) : Passage :=
  { p with stallTimer := some (now + stallTime), stalled := false }

/-- R68: the gap timer restarted at a commit axle. -/
def Passage.afterCommitAxle (p : Passage) (now stallTime : Nat) : Passage :=
  { p.afterAxle now stallTime with lastCommit := now, gapRunning := true }

/-- R72, R75: a passage with a new number of axles out on a leg. -/
def Passage.withOut (p : Passage) (leg : Leg) (n : Nat) : Passage :=
  match leg with
  | .normal => { p with outNormal := n }
  | .reverse => { p with outReverse := n }

/-- R87: a slot whose feed counter for a leg has advanced, modulo 256. -/
def Slot.withNextFeed (x : Slot) (leg : Leg) : Slot :=
  match leg with
  | .normal => { x with feedNormal := x.feedNormal + 1 }
  | .reverse => { x with feedReverse := x.feedReverse + 1 }

/-- A record with one more set of flags (R9). -/
def Record.flagged (r : Record) (f : Flags) : Record := { r with flags := r.flags.union f }

/-- R43: the record receives STRAY at the slot. -/
def State.strays (s : State) (k : SlotIx) (r : Record) : Bool :=
  r.tag != 0 && !(decide ((s.slotCfg k).reachFirst ≤ r.destination)
    && decide (r.destination ≤ (s.slotCfg k).reachLast))

/-! ### What the end of a passage leaves (R78, R79) -/

/-- R158: the tags that a passage end looks for: the record's, and then its companion's. -/
def Record.watchable (r : Record) : List Tag :=
  r.tag :: (match r.companion with
    | none => []
    | some c => [c.tag])

/-- R158: those of the tags that a watch table holds, each taken from the table as it is hit. -/
def watchedTags (watches : List Tag) : List Tag → List Tag
  | [] => []
  | tag :: tags =>
    if tag ∈ watches then tag :: watchedTags (watches.erase tag) tags else watchedTags watches tags

/-- R91, R96: the HANDOFF_LOST alarm of a wait-list entry. -/
def State.lostEntry (s : State) (e : WaitEntry) (h : Handoff) : Incident :=
  ⟨.handoffLost, some h.frame.sourceSlot, (s.record e.record).tag, (s.record e.record).companionTag,
    .handoffLost h.frame.targetStation h.frame.targetSlot h.frame.seq⟩

/-- R96: the oldest entry of a full wait list with its PENDING handoff (R95), which is then resolved as
LOST. -/
def State.displaced (s : State) : Option (WaitEntry × Handoff) :=
  match s.waitList with
  | [] => none
  | e :: _ =>
    if s.waitList.length < 8 ∨ s.isPending e.handoff = false then none
    else (s.handoff? e.handoff).map (fun h => (e, h))

/-- R79, steps 1 to 3: what the end of a passage leaves, its place in the zone list apart. The tags that were
watched leave the table. The record is freed, or, while its handoff is PENDING, joins the wait list, whose
oldest entry first makes room if the list is full (R96). (A passage that ends has a taken leg, since its axles
out are above 0; one without finds no watch.) -/
def State.afterEnd (s : State) (p : Passage) : State :=
  let u := { s with watches := if p.taken = none then s.watches
    else (s.record p.record).watchable.foldl List.erase s.watches }
  match p.handoff with
  | .none => u.freeRecord p.record
  | .local _ => u.freeRecord p.record
  | .sent n =>
    if s.isPending n = false then (u.dropHandoff n).freeRecord p.record
    else
      match s.displaced with
      | none => { u with waitList := s.waitList ++ [(⟨p.record, n⟩ : WaitEntry)] }
      | some (e, h) =>
        (({ u with faultLatch := true, waitList := s.waitList.tail ++ [(⟨p.record, n⟩ : WaitEntry)] }.captureAlarm
          (s.lostEntry e h)).dropHandoff e.handoff).freeRecord e.record

/-- R79, R107, R158: the frames that the end of a passage offers: on a leg that ends at a track the ARRIVAL;
a WATCH_HIT for each watched tag; and the alarm of an entry that the wait list gave up (R96). -/
def State.endFrames (s : State) (k : SlotIx) (p : Passage) : List OutFrame :=
  let r := s.record p.record
  (match p.taken with
    | none => []
    | some leg =>
      (match (s.slotCfg k).legEnd leg with
        | .slot _ _ => []
        | .track n =>
          [.arrival k leg n r.tag r.destination r.originalDestination r.flags
            (decide (r.destination ≠ 0) && decide (r.destination ≠ n)) r.companion])
        ++ (watchedTags s.watches r.watchable).map (fun tag => .watchHit tag k leg))
  ++ (match p.handoff with
    | .none => []
    | .local _ => []
    | .sent n =>
      if s.isPending n = false then []
      else
        match s.displaced with
        | none => []
        | some (e, h) => [s.reportOf (s.lostEntry e h)])

/-- R78, R79 steps 4 and 5: of the first passages of the zone list, as many as `n` end while the oldest meets
the end condition; an emptied zone list brings a throw evaluation. The state they leave, and the frames they
offer. -/
def State.afterEnds (k : SlotIx) : Nat → State → State × List OutFrame
  | 0, s => (s, [])
  | n + 1, s =>
    match (s.slot k).zone with
    | [] => (s, [])
    | p :: rest =>
      if p.phase = .committed ∧ p.out = p.axlesIn ∧ 0 < p.axlesIn then
        let u := s.afterEnd p
        let v := u.setSlot k { u.slot k with zone := rest }
        let w := State.afterEnds k n (if rest = [] then v.evaluateThrow k else v)
        (w.1, s.endFrames k p ++ w.2)
      else (s, [])

/-- The command leaves the machine as `u`, with the frames `sends`, and then the passages of the slot that meet
the end condition end, oldest first; there are at most two (R61). -/
def LeavesThenEnds (c : Instr) (s u : State) (k : SlotIx) (sends : List OutFrame) : Prop :=
  Leaves c s (State.afterEnds k (u.slot k).zone.length u).1
    (sends ++ (State.afterEnds k (u.slot k).zone.length u).2)

/-- R80: of the passages of the zone list with axles out above 0 and below their axles in, as many as `n` are
ended by reconciliation, the oldest first. The record receives IMBALANCE, the AXLE_IMBALANCE alarm is raised, the
passage ends as R79 says whatever its phase, and the passage that is then the oldest is checked for its end
(R78). The state they leave, and the frames they offer. -/
def State.afterReconcile (k : SlotIx) : Nat → State → State × List OutFrame
  | 0, s => (s, [])
  | n + 1, s =>
    match (s.slot k).zone.findIdx? (fun p => decide (0 < p.out ∧ p.out < p.axlesIn)) with
    | none => (s, [])
    | some i =>
      match (s.slot k).zone[i]? with
      | none => (s, [])
      | some p =>
        let r := s.record p.record
        let inc : Incident := ⟨.axleImbalance, some k, r.tag, r.companionTag,
          .reconciled p.axlesIn p.outNormal p.outReverse⟩
        let u := (s.setRecord p.record (r.flagged { imbalance := true })).captureAlarm inc
        let rest := (s.slot k).zone.eraseIdx i
        let v := (u.afterEnd p).setSlot k { s.slot k with zone := rest }
        let left := if rest = [] then v.evaluateThrow k else v
        let ends := State.afterEnds k (left.slot k).zone.length left
        let w := State.afterReconcile k n ends.1
        (w.1, s.reportOf inc :: u.endFrames k p ++ ends.2 ++ w.2)

/-! ### What a discard leaves (R91, R92, R149) -/

/-- R149: the OUTQ_OVERFLOW alarm of a discarded frame of a kind. -/
def overflowOf (kind : FrameKind) : Incident := ⟨.outqOverflow, none, 0, 0, .overflow kind⟩

/-- R91, R95, R129: what the loss of a PENDING handoff leaves where the transmit queue is full of frames of urgency
0 and 1. The fault latch is set; HANDOFF_LOST is offered to the capture, and the discard of its INCIDENT too. The
context is RESOLVED as LOST; in the wait list the entry leaves, and its record is freed. -/
def State.afterLoss (s : State) (h : Handoff) : State :=
  let r := s.handoffRecord h
  let lost := ({ s with faultLatch := true }.captureAlarm ⟨.handoffLost, some h.frame.sourceSlot, r.tag,
    r.companionTag, .handoffLost h.frame.targetStation h.frame.targetSlot h.frame.seq⟩).captureAlarm
      (overflowOf .incident)
  match s.waitList.find? (fun e => decide (e.handoff = h.number)) with
  | none => lost.setStatus h.number (.resolved .lost)
  | some e => (({ lost with waitList := s.waitList.eraseP (fun e => decide (e.handoff = h.number)) }).dropHandoff
      h.number).freeRecord e.record

/-- R92, R149: what the discard of a frame from a full queue leaves, the queue itself apart. OUTQ_OVERFLOW is offered
to the capture, and first (log 27, the model's). A discarded second attempt is lost. A discarded first attempt becomes
the second, whose copy, of urgency 1 too, the queue does not take either, so that it is lost in its turn. A frame
whose context is no longer PENDING has no effect on the handoff unit. -/
def State.afterDiscard (s : State) (d : TxEntry) : State :=
  let u := s.captureAlarm (overflowOf d.frame.kind)
  match d.owner.bind s.handoff? with
  | none => u
  | some h =>
    match h.status with
    | .resolved _ => u
    | .pending .second _ => u.afterLoss h
    | .pending .first _ =>
      ((u.setStatus h.number (.pending .second none)).captureAlarm (overflowOf .handoff)).afterLoss h

/-! ### What a handoff carries, and what adopts it (R17, R85, R88, R103) -/

/-- R4, R17: the contents of a record under an axle count; a count above 250 is carried as 0. -/
def Record.carried (r : Record) (axles : Nat) : CutContents :=
  { tag := r.tag
    destination := r.destination
    originalDestination := r.originalDestination
    expectedAxles := if axles ≤ 250 then axles else 0
    cutClass := r.cutClass
    flags := r.flags
    companion := r.companion }

/-- R4, R88: what a passage hands on: its record's contents, with its axles in as expected axles if it is
COMMITTED. -/
def Passage.handsOn (p : Passage) (r : Record) : CutContents :=
  r.carried (if p.phase = .committed then p.axlesIn else r.expectedAxles)

/-- R10, R85, R103: the place in a zone list of the passage that adopts the handoff of a sequence: the anonymous
passage that consumed it. Anonymous is one whose record has no feed sequence: an announced record keeps the
sequence it was queued under, and an adoption writes one (R6). The first in the list is meant, which is log 24, the
model's. -/
def State.adopter (s : State) (zone : List Passage) (seq : Seq) : Option Nat :=
  zone.findIdx? (fun p => decide (p.consumed = some seq ∧ (s.record p.record).feedSeq = none))

/-- R7, R13, R100: the record that takes an announced cut into an approach queue. -/
def CutContents.announced (c : CutContents) (seq : Seq) (now overdueTime : Nat) : Record :=
  { tag := c.tag
    destination := c.destination
    originalDestination := c.originalDestination
    expectedAxles := c.expectedAxles
    cutClass := c.cutClass
    inspect := false
    flags := c.flags
    feedSeq := some seq
    companion := c.companion
    timing := some ⟨now, now + overdueTime, false⟩ }

/-- R103: the record of an anonymous passage that takes the identity of a late handoff. -/
def Record.identified (r : Record) (seq : Seq) (c : CutContents) : Record :=
  { r with
    tag := c.tag
    destination := c.destination
    originalDestination := c.originalDestination
    expectedAxles := c.expectedAxles
    cutClass := c.cutClass
    feedSeq := some seq
    companion := match r.companion with
      | some x => some x
      | none => c.companion
    flags := (r.flags.union c.flags).union { adopted := true } }

/-- R43, R103: that record after the STRAY decision, and DIVERTED where its wanted leg is not the intended
one. -/
def State.identifiedAt (s : State) (k : SlotIx) (q : Passage) (seq : Seq) (c : CutContents) : Record :=
  let r := (s.record q.record).identified seq c
  let strayed := if s.strays k r = true then r.flagged { stray := true } else r
  match q.intended with
  | none => strayed
  | some leg =>
    if leg = (s.slotCfg k).wantedLeg r.destination then strayed else strayed.flagged { diverted := true }

/-- R85: the phase, the countdown and the excess that an adopted passage takes from its new expected axles. The
countdown of a COMMITTED passage is log 13, the model's. -/
def Passage.identified (q : Passage) (n : Nat) : Passage :=
  if q.phase = .committed then { q with countdown := if n = 0 then none else some (n - q.axlesIn) }
  else if n = 0 then { q with phase := .committing, countdown := none }
  else if q.axlesIn < n then
    { q with phase := .committing, countdown := some (n - q.axlesIn), excess := 0 }
  else { q with phase := .trailing, countdown := some 0, excess := q.axlesIn - n }

/-- R103: the state after the passage at a place of the zone list has adopted a late handoff. -/
def State.afterAdoption (s : State) (k : SlotIx) (i : Nat) (q : Passage) (seq : Seq) (c : CutContents) : State :=
  (s.setRecord q.record (s.identifiedAt k q seq c)).setSlot k { s.slot k with
    zone := (s.slot k).zone.set i (q.identified c.expectedAxles)
    recent := (s.slot k).recent.map (fun x => if x.seq = seq then ⟨seq, .announced, c.tag⟩ else x) }

/-- R43, R103: the STRAY notice of an adoption, where the record had no STRAY flag before. -/
def State.adoptionNotices (s : State) (k : SlotIx) (q : Passage) (seq : Seq) (c : CutContents) :
    List OutFrame :=
  let r := (s.record q.record).identified seq c
  if s.strays k r = true ∧ r.flags.stray = false then
    [.incident ⟨.stray, some k, c.tag, 0, .destination c.destination⟩ false]
  else []

/-! ### What slot 0 decides on a release (R120) -/

/-- R15, R21, R101: the record has joined the approach queue of slot 0 behind `before` and ahead of `after`, with
queue timing; a record placed at the front is the new head, for which point control evaluates (R22, R44). -/
def State.afterJoining (s : State) (r : RecIx) (expected : Seq) (before after : List RecIx) : State :=
  let joined := (s.setRecord r { s.record r with
    timing := some ⟨s.time, s.time + (s.slotCfg 0).overdueTime, false⟩ }).setSlot 0
      { s.slot 0 with expected := some expected, queue := before ++ r :: after }
  if before = [] then joined.evaluateThrow 0 else joined

/-- R120: the HANDOFF_REFUSED alarm of a release. -/
def State.releaseRefused (s : State) (r : RecIx) (seq : Seq) (result : HandoffResult) : Incident :=
  ⟨.handoffRefused, some 0, (s.record r).tag, 0, .handoffRefused result s.cfg.node 0 seq⟩

/-- R104, R120: the LATE_HANDOFF alarm of a release, with source node 0. -/
def State.releaseLate (s : State) (r : RecIx) (seq : Seq) (adopted : Bool) : Incident :=
  ⟨.lateHandoff, some 0, (s.record r).tag, 0, .lateHandoff adopted seq 0⟩

/-- R101, R120: a release at distance 0 to 127 is a duplicate, finds the queue full, or joins it. -/
def State.DecidesAhead (s : State) (r : RecIx) (seq : Seq) (finishes : Receipt → State → List OutFrame → Prop) :
    Prop :=
  let x := s.slot 0
  ∀ e, x.expected = some e → distance e seq < 128 →
    ((∃ h ∈ x.queue, s.queuedSeq h = seq) → finishes .duplicate s [])
    ∧ ((∀ h ∈ x.queue, s.queuedSeq h ≠ seq) → 6 ≤ x.queue.length →
      finishes .refusedFull ({ s with faultLatch := true }.captureAlarm (s.releaseRefused r seq .refusedFull))
        [s.reportOf (s.releaseRefused r seq .refusedFull)])
    ∧ (∀ before after, x.queue = before ++ after → x.queue.length < 6 → (∀ h ∈ x.queue, s.queuedSeq h ≠ seq) →
      (∀ h ∈ before, distance e (s.queuedSeq h) < distance e seq) →
      (∀ h ∈ after.head?, distance e seq < distance e (s.queuedSeq h)) →
      finishes .queued (s.afterJoining r e before after) [])

/-- R102 to R104, R120: a release that stands behind is a resend, is adopted, or is LATE. -/
def State.DecidesBehind (s : State) (r : RecIx) (seq : Seq) (finishes : Receipt → State → List OutFrame → Prop) :
    Prop :=
  let x := s.slot 0
  let c := (s.record r).carried (s.record r).expectedAxles
  let entry := x.recent.find? (fun y => y.seq == seq)
  let passage := s.adopter x.zone seq
  ∀ e, x.expected = some e → 128 ≤ distance e seq →
    (entry = some ⟨seq, .announced, c.tag⟩ → finishes .duplicate s [])
    ∧ (entry = none ∨ (∃ tag, tag ≠ c.tag ∧ entry = some ⟨seq, .announced, tag⟩)
        ∨ (∃ tag, entry = some ⟨seq, .anonymous, tag⟩
          ∧ (passage = none ∨ ∃ n a, passage = some n ∧ x.zone[n]? = some a ∧ a.taken ≠ none)) →
      finishes .late (s.captureAlarm (s.releaseLate r seq false)) [s.reportOf (s.releaseLate r seq false)])
    ∧ (∀ tag n a, entry = some ⟨seq, .anonymous, tag⟩ → passage = some n → x.zone[n]? = some a →
      a.taken = none →
      finishes .adopted ((s.afterAdoption 0 n a seq c).captureAlarm (s.releaseLate r seq true))
        (s.adoptionNotices 0 a seq c ++ [s.reportOf (s.releaseLate r seq true)]))

/-- R98, R99, R120: slot 0's decision on the record `r` that the crest unit has released under `seq`. `finishes x u
sends` says that the receipt is `x`, that the decision leaves `u`, and that it offers `sends`. -/
def State.DecidesRelease (s : State) (r : RecIx) (seq : Seq) (finishes : Receipt → State → List OutFrame → Prop) :
    Prop :=
  let x := s.slot 0
  let refuses (receipt : Receipt) (result : HandoffResult) : Prop :=
    finishes receipt ({ s with faultLatch := true }.captureAlarm (s.releaseRefused r seq result))
      [s.reportOf (s.releaseRefused r seq result)]
  (x.service = .off ∨ (s.slotCfg 0).feedNode ≠ 0 → refuses .refusedUnknownFeed .refusedUnknownFeed)
  ∧ ((s.slotCfg 0).feedNode = 0 → x.service = .settling → refuses .refusedNotReady .refusedNotReady)
  ∧ ((s.slotCfg 0).feedNode = 0 → x.service ≠ .off → x.service ≠ .settling →
    (x.expected = none → x.queue = [] → finishes .queued (s.afterJoining r seq [] []) [])
    ∧ s.DecidesAhead r seq finishes ∧ s.DecidesBehind r seq finishes)

/-- R14, R118, R120: a record that slot 0 has not inserted is freed. -/
def State.afterReceipt (s : State) (r : RecIx) (receipt : Receipt) : State :=
  if receipt = .queued then s else s.freeRecord r

/-! ### The image (R164) -/

/-- R164: a leg end names a track, or a slot of a station that is not the yard computer. -/
def LegEndHolds (yard node x : Nat) : Prop :=
  (node = 0 ∧ 1 ≤ x ∧ x ≤ 63) ∨ (1 ≤ node ∧ node ≤ 62 ∧ node ≠ yard ∧ x ≤ 3)

/-- R164: the checks of the slot record at an offset; `crestFeed` says that the record is that of slot 0 of a
crest node. -/
def SlotRecordHolds (b : Nat → Nat) (o : Nat) (crestFeed : Prop) : Prop :=
  1 ≤ b o ∧ b o ≤ 63 ∧ 1 ≤ b (o + 2) ∧ b (o + 2) ≤ 63 ∧ b o < b (o + 1) ∧ b (o + 1) ≤ b (o + 2)
    ∧ b (o + 3) ≤ 1 ∧ b (o + 4) ≤ 62 ∧ (b (o + 4) = 0 → crestFeed) ∧ b (o + 5) ≤ 3 ∧ b (o + 6) ≤ 1
    ∧ LegEndHolds (b 7) (b (o + 7)) (b (o + 8)) ∧ LegEndHolds (b 7) (b (o + 9)) (b (o + 10))
    ∧ 4 ≤ b (o + 11) ∧ b (o + 11) ≤ 60 ∧ b (o + 12) ≤ 3 ∧ 10 ≤ b (o + 13) ∧ b (o + 13) ≤ 200
    ∧ 2 ≤ b (o + 14) ∧ b (o + 14) ≤ 60 ∧ 5 ≤ b (o + 15) ∧ b (o + 15) ≤ 120
    ∧ 2 ≤ b (o + 16) ∧ b (o + 16) ≤ 6

/-- R164: the checks of the crest record, whose reject track lies in the reach of slot 0, at offset `o`. -/
def CrestRecordHolds (b : Nat → Nat) (o : Nat) : Prop :=
  1 ≤ b 11 ∧ b 11 ≤ 63 ∧ b o ≤ b 11 ∧ b 11 ≤ b (o + 2) ∧ b 12 ≤ 31
    ∧ (∀ i < b 12, 1 ≤ b (13 + i) ∧ b (13 + i) ≤ 62 ∧ b (13 + i) ≠ b 4 ∧ b (13 + i) ≠ b 7)
    ∧ ∀ i < b 12, ∀ j < i, b (13 + i) ≠ b (13 + j)

/-- Section 12.5: where the slot records begin, behind the crest record of a crest node. -/
def firstSlotRecord (b : Nat → Nat) : Nat := if b 5 = 1 then 29 + b 12 else 11

/-- R164, R170: marker, format, length and sum. -/
def ImageFrameHolds (b : Nat → Nat) : Prop :=
  b 0 = 0x6E ∧ b 1 = 0x91 ∧ b 3 = 0x01 ∧ 30 ≤ b 2 ∧ b 2 ≤ 130
    ∧ b 2 = firstSlotRecord b + 17 * b 6 + 2
    ∧ ((List.range (b 2 - 2)).map b).sum % 65536 = 256 * b (b 2 - 2) + b (b 2 - 1)

/-- R164: the checks of the node record. -/
def NodeRecordHolds (b : Nat → Nat) : Prop :=
  1 ≤ b 4 ∧ b 4 ≤ 62 ∧ b 5 ≤ 1 ∧ 1 ≤ b 6 ∧ b 6 ≤ 4 ∧ 1 ≤ b 7 ∧ b 7 ≤ 62 ∧ b 7 ≠ b 4 ∧ 1 ≤ b 8 ∧ b 8 ≤ 2
    ∧ 2 ≤ b 9 ∧ b 9 ≤ 20 ∧ b 10 ≤ 1

/-- R164: every check of the table holds of the bytes at their offsets (section 12.5). -/
def ImageHolds (b : Nat → Nat) : Prop :=
  ImageFrameHolds b ∧ NodeRecordHolds b ∧ (b 5 = 1 → CrestRecordHolds b (firstSlotRecord b))
    ∧ ∀ k < b 6, SlotRecordHolds b (firstSlotRecord b + 17 * k) (k = 0 ∧ b 5 = 1)

/-! ### Words for the layouts of chapter 12 -/

/-- The number whose bits are given, bit 0 first. -/
def bitsValue : List Bool → Nat
  | [] => 0
  | b :: bits => (if b then 1 else 0) + 2 * bitsValue bits

/-- Section 12.3: the flag bits, STRAY first; MISROUTED is bit 10. -/
def Flags.bits (f : Flags) (misrouted : Bool) : List Bool :=
  [f.stray, f.diverted, f.translated, f.merged, f.short, f.long, f.rollback, f.imbalance, f.overrun, f.adopted,
    misrouted]

/-- Section 12.3: the bits of the hold mask, SETTLING first. -/
def HoldMask.bits (m : HoldMask) : List Bool :=
  [m.settling, m.queuePressure, m.stall, m.overdue, m.pointFailed, m.slotBlocked, m.handoffFault,
    m.incidentFrozen]

/-- A leg: 0 normal, 1 reverse. -/
def legBit (leg : Leg) : Nat := if leg = .reverse then 1 else 0

/-- A Boolean field: 0 no, 1 yes. -/
def yesBit (b : Bool) : Nat := if b then 1 else 0

/-- A field of two bytes, high byte first. -/
def highLow (w : BitVec 16) : List Nat := [w.toNat / 256, w.toNat % 256]

/-- An absent original destination is carried as 0. -/
def trackOrZero : Option Nat → Nat
  | none => 0
  | some n => n

/-- An absent companion is carried with tag 0 and destination 0. -/
def companionOrZero : Option Companion → List Nat
  | none => [0, 0, 0]
  | some c => highLow c.tag ++ [c.destination]

/-- The codes of a column of section 12.3, from 0 upward. -/
def codeIn {α : Type} [DecidableEq α] (column : List α) (x : α) : Nat := column.idxOf x

/-- Section 12.3: the codes of the point states. -/
def pointNumber : PointState → Nat
  | .provedNormal => 0
  | .provedReverse => 1
  | .moving _ => 2
  | .unproved => 3

/-- Section 12.3: the node states that a frame can name. -/
def nodeStateColumn : List NodeState := [.loading, .configFault, .census, .inService]

/-- Section 12.3: the service states. -/
def serviceColumn : List ServiceState := [.off, .settling, .inUse, .failed, .blocked]

/-- Section 12.3: the handoff results. -/
def handoffResultColumn : List HandoffResult :=
  [.taken, .late, .lateAdopted, .refusedFull, .refusedNotReady, .refusedUnknownFeed]

/-- Section 12.3: the command results. -/
def commandResultColumn : List CommandResult :=
  [.done, .refusedState, .refusedFull, .refusedValue, .refusedDuplicate, .refusedRole]

/-- Section 12.3: the queue results. -/
def queueResultColumn : List Receipt :=
  [.queued, .duplicate, .adopted, .late, .refusedFull, .refusedNotReady, .refusedUnknownFeed]

/-- Section 12.3: the sensors. -/
def sensorColumn : List Sensor := [.commit, .exitNormal, .exitReverse]

/-- Section 12.3: the phases. -/
def phaseColumn : List Phase := [.committing, .trailing, .committed]

/-- R152: the incident kinds, whose codes count from 1. -/
def incidentColumn : List IncidentKind :=
  [.unannouncedCut, .lateHandoff, .shortCut, .longCut, .catchUpDivert, .catchUpMerge, .stray, .splitRoute,
    .legMismatch, .axleImbalance, .rollback, .stall, .ghostOccupancy, .overdue, .pointFailed,
    .unprovedUnderCut, .detectionLost, .handoffLost, .handoffRefused, .zoneOverrun, .crestOverrun,
    .outqOverflow]

/-- Section 12.1: the kinds with their codes, urgencies and lengths. -/
def kindTable : List (FrameKind × Nat × Nat × Nat) :=
  [(.start, 0x01, 0, 4), (.holdState, 0x02, 0, 2), (.handoff, 0x04, 1, 14), (.handoffReply, 0x05, 1, 6),
    (.cutEntry, 0x08, 2, 7), (.entryWithdraw, 0x09, 2, 3), (.listClear, 0x0A, 2, 1), (.trackClose, 0x0B, 2, 3),
    (.trackOpen, 0x0C, 2, 2), (.releaseOne, 0x0D, 2, 3), (.restartAck, 0x0E, 2, 2), (.slotBlock, 0x10, 2, 2),
    (.slotFree, 0x11, 2, 2), (.slotFlush, 0x12, 2, 2), (.incidentClear, 0x13, 2, 1), (.watchSet, 0x14, 2, 3),
    (.watchClear, 0x15, 2, 3), (.statusQuery, 0x16, 2, 1), (.commandReply, 0x17, 2, 5),
    (.released, 0x18, 3, 10), (.arrival, 0x19, 3, 12), (.incident, 0x1A, 3, 13), (.watchHit, 0x1B, 3, 4),
    (.status, 0x1C, 3, 14)]

/-- The incident `d` is reported with the detail bytes `bytes` (section 12.3), and 0 in the unused ones. -/
def Detail.reads (d : Detail) (bytes : List Nat) : Prop :=
  (padTo 6 (detailBytes d)).map BitVec.toNat = bytes ++ List.replicate (6 - bytes.length) 0

/-- The frame `f` of a node whose yard computer is the station `yard` has the payload `bytes` (section 12.2), of
its kind's length. -/
def OutFrame.reads (yard : Nat) (f : OutFrame) (bytes : List Nat) : Prop :=
  (framePayload yard f).map BitVec.toNat = bytes ∧ bytes.length = kindLength f.kind

/-! ### Laws of a run -/

/-- R12: the places of the records: free list, cut list, approach queues, zone lists, wait list. -/
def State.places (s : State) : List RecIx :=
  s.free ++ s.cutList ++ (s.slots.toList.flatMap (fun x => x.queue ++ x.zone.map Passage.record))
    ++ s.waitList.map WaitEntry.record

/-- R12: each of the 64 records is in exactly one place. -/
def PoolLaw (s : State) : Prop := s.places.Perm (List.finRange 64)

/-- R12: the free list holds blank records. -/
def BlankLaw (s : State) : Prop := ∀ i ∈ s.free, s.record i = Record.blank

/-- The drive outputs that a point state gives (R39). -/
def PointState.drives : PointState → Bool × Bool
  | .moving ⟨.normal, _, _, .driving⟩ => (true, false)
  | .moving ⟨.reverse, _, _, .driving⟩ => (false, true)
  | .moving ⟨_, _, _, .pausing⟩ => (false, false)
  | .provedNormal => (false, false)
  | .provedReverse => (false, false)
  | .unproved => (false, false)

/-- R39, R40: the outputs follow the point state, and a point moves only in an IN_USE slot with its
fouling circuit clear. -/
def Slot.driveLaw (x : Slot) : Prop :=
  (x.driveNormal, x.driveReverse) = x.point.drives
    ∧ (x.isMoving = true → x.service = .inUse ∧ x.foulingOccupied = false)

/-- R35, R40: the drive law in every slot; before service every slot is OFF. -/
def DriveLaw (s : State) : Prop :=
  ∀ k, (s.slot k).driveLaw ∧ (s.nodeState ≠ .inService → (s.slot k).service = .off)

/-- R61: at most two passages, none with more axles out than in, and no count above 255. -/
def ZoneLaw (s : State) : Prop :=
  ∀ k, (s.slot k).zone.length ≤ Config.zoneCapacity
    ∧ ∀ p ∈ (s.slot k).zone, p.out ≤ p.axlesIn ∧ p.axlesIn ≤ Config.axleLimit

/-- R20, R18, R23: an approach queue holds at most six records, an UNSYNCED slot none and no recent
entries, and a recent list at most four. -/
def QueueLaw (s : State) : Prop :=
  ∀ k, (s.slot k).queue.length ≤ Config.queueCapacity
    ∧ (s.slot k).recent.length ≤ Config.recentCapacity
    ∧ ((s.slot k).expected = none → (s.slot k).queue = [] ∧ (s.slot k).recent = [])

/-- R20: at a SYNCED slot the queued records stand at distances 0 to 127, in ascending distance, so no two
under one feed sequence. -/
def OrderLaw (s : State) : Prop :=
  ∀ k e, (s.slot k).expected = some e →
    (s.slot k).queue.Pairwise (fun i j => distance e (s.queuedSeq i) < distance e (s.queuedSeq j))
    ∧ ∀ i ∈ (s.slot k).queue, (s.record i).feedSeq.isSome = true
        ∧ distance e (s.queuedSeq i) < Config.behindDistance

/-- The numbers of the handoffs whose contexts stand in a zone list. -/
def Slot.sentNumbers (x : Slot) : List Nat :=
  x.zone.filterMap (fun p => match p.handoff with
    | .sent n => some n
    | .none => none
    | .local _ => none)

/-- The numbers of the handoffs whose contexts stand anywhere: in passages or in the wait list (R63). -/
def State.contextNumbers (s : State) : List Nat :=
  s.slots.toList.flatMap Slot.sentNumbers ++ s.waitList.map WaitEntry.handoff

/-- R95: the wait list holds at most eight records, each with a PENDING handoff. A handoff stands in one
place, and is known by its number. -/
def WaitLaw (s : State) : Prop :=
  s.waitList.length ≤ Config.waitCapacity
    ∧ (∀ e ∈ s.waitList, s.isPending e.handoff = true)
    ∧ s.contextNumbers.Nodup
    ∧ (s.handoffs.map Handoff.number).Nodup
    ∧ (∀ n ∈ s.contextNumbers, n ∈ s.handoffs.map Handoff.number)
    ∧ (∀ n ∈ s.handoffs.map Handoff.number, n < s.nextHandoff)

/-- R131, R141, R147 to R149: the transmit queue stands in order of urgency, holds at most 16 frames, at most one
START and at most one HOLD_STATE, which carries the mask as it stands; one frame is on the bus exactly while the port
sends; before service the queue is empty and no handoff is in being. -/
def TransmitLaw (s : State) : Prop :=
  s.port.queue.Pairwise (fun a b => a.urgency ≤ b.urgency)
    ∧ s.port.queue.length ≤ Config.transmitCapacity
    ∧ (s.port.queue.filter TxEntry.isHoldState).length ≤ 1
    ∧ (s.port.queue.filter (fun e => e.frame.kind == .start)).length ≤ 1
    ∧ (s.port.queue.filter TxEntry.onBus).length = (if s.port.sending.isSome then 1 else 0)
    ∧ (∀ e ∈ s.port.queue, e.isHoldState = true → e.frame = .holdState s.holdMask .inService)
    ∧ (s.nodeState ≠ .inService → s.port.queue = [] ∧ s.handoffs = [])

/-- R141, R151: in ACTIVE the failure count stays below 16 and the retry timer is stopped; in MUTE the count
is 16. -/
def PortLaw (s : State) : Prop :=
  match s.port.mode with
  | .active => s.port.failures < Config.muteThreshold ∧ s.port.retry = .stopped
  | .mute => s.port.failures = Config.muteThreshold

/-- R157: the watch table. -/
def WatchLaw (s : State) : Prop :=
  s.watches.length ≤ Config.watchCapacity ∧ s.watches.Nodup ∧ (0 : Tag) ∉ s.watches

/-- R113: the closure table, whose entries lie within slot 0's reach; it is empty before service. -/
def ClosureLaw (s : State) : Prop :=
  (s.nodeState ≠ .inService → s.closures = [])
    ∧ s.closures.length ≤ Config.closureCapacity ∧ (s.closures.map Closure.track).Nodup
    ∧ ∀ c ∈ s.closures, c.substitute ≠ c.track ∧ c.track ≠ s.cfg.rejectTrack
        ∧ (s.slotCfg 0).inReach c.track = true ∧ (s.slotCfg 0).inReach c.substitute = true

/-- R108: the cut list holds at most 24 records with distinct non-zero tags, each with an empty flag set and
without feed sequence, queue timing, original destination and companion. -/
def CutListLaw (s : State) : Prop :=
  s.cutList.length ≤ Config.cutListCapacity
    ∧ (s.cutList.map (fun i => (s.record i).tag)).Nodup
    ∧ ∀ i ∈ s.cutList, (s.record i).tag ≠ 0 ∧ (s.record i).flags = {} ∧ (s.record i).feedSeq = none
        ∧ (s.record i).timing = none ∧ (s.record i).originalDestination = none ∧ (s.record i).companion = none

/-- R154: an empty capture counts no further alarms, and the count stays within 255. -/
def CaptureLaw (s : State) : Prop :=
  (s.capture = none → s.furtherAlarms = 0) ∧ s.furtherAlarms ≤ Config.furtherLimit

end Sys2Proof.Machine
end

