-- ==== Sys2Proof/Certificates/Slice0/Obligations.lean ====
section
/-! DEFINITION. The statements about the node. Each says what a command, or every command, does to the
state, in the terms of Sys2Proof/Safety.lean. `Leaves c s u sends` reads: from `s` the command `c` completes
and leaves the machine as `u`, but for reports, and offers the frames `sends`. -/

open Sys2Proof Sys2Proof.Machine

/-! ### The block (tier 1 and 2) -/

/-- A step takes the command at the front of the queue; on an empty queue one millisecond passes, except
while the node is held in reset (log 1, the model's choice). -/
def Obligations.StepTakesTheFrontCommand : Prop :=
  (∀ (c : Instr) (s : State) (rest : List Instr), s.pending = c :: rest →
    step s = exec c { s with pending := rest })
  ∧ (∀ s : State, s.pending = [] →
    step s = .next { s with time := if s.nodeState = .reset then s.time else s.time + 1 })

/-- No command stops the machine, and none touches the queue of commands. That a command for an event
which the state makes impossible completes is log 5, and that RESET leaves the queue is log 21: both are the
model's. -/
def Obligations.EveryCommandCompletes : Prop :=
  ∀ (c : Instr) (s : State), ∃ t, exec c s = .next t ∧ t.pending = s.pending

/-- R162: the events on which the node state changes. -/
def Obligations.NodeStateChangesOnlyAsListed : Prop :=
  ∀ (c : Instr) (s t : State), exec c s = .next t → t.nodeState ≠ s.nodeState →
    (c = .reset ∧ t.nodeState = .reset)
    ∨ (c = .resetRelease ∧ s.nodeState = .reset ∧ t.nodeState = .loading)
    ∨ (∃ m, c = .imageRead m ∧ s.nodeState = .loading
        ∧ (t.nodeState = .census ∨ t.nodeState = .configFault))
    ∨ (c = .censusEnd ∧ s.nodeState = .census ∧ t.nodeState = .inService)

/-! ### Node control (chapter 10) -/

/-- RESET leaves every block at its value after reset (R16, R18, R35, R61, R87, R95, R108, R113, R117,
R118, R124, R125, R127, R129, R132, R141, R154, R156, R157, R162); RESET_RELEASE then gives the state after
reset, LOADING with the running time at 0. The input lines keep their levels and the waiting commands stay
(logs 4 and 21, the model's); a line that is not asserted is not released (log 5, the model's). -/
def Obligations.ResetLeavesEveryBlockAtItsResetValue : Prop :=
  (∀ s : State, ∃ r t, exec .reset s = .next r ∧ exec .resetRelease r = .next t
      ∧ r = { t with nodeState := .reset }
      ∧ t.nodeState = .loading ∧ t.time = 0 ∧ t.censusStart = none ∧ t.config = none ∧ t.startSent = false
      ∧ (∀ i, t.record i = Record.blank) ∧ t.free = List.finRange 64
      ∧ (∀ k, (t.slot k).service = .off ∧ (t.slot k).point = .unproved
          ∧ (t.slot k).driveNormal = false ∧ (t.slot k).driveReverse = false
          ∧ (t.slot k).expected = none ∧ (t.slot k).queue = [] ∧ (t.slot k).recent = []
          ∧ (t.slot k).zone = [] ∧ (t.slot k).ghostTimer = none ∧ (t.slot k).ghostRaised = false
          ∧ (t.slot k).feedNormal = 0 ∧ (t.slot k).feedReverse = 0
          ∧ (t.slot k).provedNormal = (s.slot k).provedNormal
          ∧ (t.slot k).provedReverse = (s.slot k).provedReverse
          ∧ (t.slot k).foulingOccupied = (s.slot k).foulingOccupied)
      ∧ t.handoffs = [] ∧ t.waitList = [] ∧ t.faultLatch = false ∧ t.holdMask = {} ∧ t.periodTimer = none
      ∧ t.cutList = [] ∧ t.closures = [] ∧ t.releaseCounter = 0
      ∧ t.crestPassage.phase = .idle ∧ t.crestPassage.countdown = 0 ∧ t.releaseInterval = none
      ∧ t.signal = .stop ∧ t.signal.lines = (false, false) ∧ t.roster = []
      ∧ t.capture = none ∧ t.furtherAlarms = 0 ∧ t.watches = [] ∧ t.faultLine = false
      ∧ t.port.queue = [] ∧ t.port.sending = none ∧ t.port.failures = 0 ∧ t.port.mode = .active
      ∧ t.port.retry = .stopped ∧ t.port.seenIdle = false ∧ t.pending = s.pending)
  ∧ (∀ s : State,
      (s.nodeState = .reset → Leaves .resetRelease s { s with nodeState := .loading, time := 0 } [])
      ∧ (s.nodeState ≠ .reset → Leaves .resetRelease s s []))

/-- IMAGE_READ in LOADING: an image that passes begins the census with a roster of UNHEARD entries
(R134, R166), one that fails leads to CONFIG_FAULT, with the fault line on and the signal at STOP (R165).
In any other node state nothing is read (R162). -/
def Obligations.ImageReadDecides : Prop :=
  ∀ (s : State) (memory : List Byte),
    (s.nodeState ≠ .loading → Leaves (.imageRead memory) s s [])
    ∧ (s.nodeState = .loading →
        (∀ c, readImage memory = some c →
          Leaves (.imageRead memory) s
            { s with
              nodeState := .census
              config := some c
              censusStart := some s.time
              roster := match c.crest with
                | none => []
                | some x => x.roster.map (fun n => ⟨n, .unheard, none, {}, false⟩) } [])
        ∧ (readImage memory = none →
          Leaves (.imageRead memory) s { s with nodeState := .configFault } []
          ∧ ∃ t, exec (.imageRead memory) s = .next t ∧ t.faultLine = true ∧ t.signal = .stop))

/-- R164: an image that meets every check of the table passes; and an image that passes meets every check:
marker, length, format, sum, node record, crest record and slot records, and its configuration holds the
fields as section 12.5 places them. (A byte that the memory does not answer reads as all ones: log 19, the
model's.) -/
def Obligations.PassedImagesMeetEveryCheck : Prop :=
  (∀ (memory : List Byte) (c : NodeConfig), readImage memory = some c →
    let b := memoryByte memory
    b 0 = 0x6E ∧ b 1 = 0x91 ∧ b 3 = 0x01 ∧ 30 ≤ b 2 ∧ b 2 ≤ 130
    ∧ ((List.range (b 2 - 2)).map b).sum % 65536 = 256 * b (b 2 - 2) + b (b 2 - 1)
    ∧ c.imageSum.toNat = 256 * b (b 2 - 2) + b (b 2 - 1)
    ∧ c.node = b 4 ∧ 1 ≤ c.node ∧ c.node ≤ 62
    ∧ c.slotCount = b 6 ∧ 1 ≤ c.slotCount ∧ c.slotCount ≤ 4 ∧ c.slots.length = c.slotCount
    ∧ c.yardStation = b 7 ∧ 1 ≤ c.yardStation ∧ c.yardStation ≤ 62 ∧ c.yardStation ≠ c.node
    ∧ (b 8 = 1 ∧ c.bitRate = .kbit62 ∨ b 8 = 2 ∧ c.bitRate = .kbit125)
    ∧ c.handoffTimeout = 10 * b 9 ∧ 20 ≤ c.handoffTimeout ∧ c.handoffTimeout ≤ 200
    ∧ (b 10 = 0 ∧ c.holdOnIncident = false ∨ b 10 = 1 ∧ c.holdOnIncident = true)
    ∧ (b 5 = 0 ∧ c.role = .tree ∧ c.crest = none ∧ b 2 = 13 + 17 * c.slotCount
      ∨ b 5 = 1 ∧ c.role = .crest ∧ b 2 = 31 + b 12 + 17 * c.slotCount
        ∧ ∃ x, c.crest = some x ∧ x.rejectTrack = b 11 ∧ 1 ≤ x.rejectTrack ∧ x.rejectTrack ≤ 63
            ∧ (∃ y, c.slots.head? = some y ∧ y.reachFirst ≤ x.rejectTrack ∧ x.rejectTrack ≤ y.reachLast)
            ∧ x.roster = (List.range (b 12)).map (fun i => b (13 + i)) ∧ x.roster.length ≤ 31
            ∧ x.roster.Nodup
            ∧ (∀ n ∈ x.roster, 1 ≤ n ∧ n ≤ 62 ∧ n ≠ c.node ∧ n ≠ c.yardStation)
            ∧ x.intervals = (List.range 16).map (fun i => b (13 + b 12 + i)))
    ∧ ∀ (k : Nat) (x : SlotConfig), c.slots[k]? = some x →
        let o := (if c.role = .crest then 29 + b 12 else 11) + 17 * k
        x.reachFirst = b o ∧ x.split = b (o + 1) ∧ x.reachLast = b (o + 2)
        ∧ 1 ≤ x.reachFirst ∧ x.reachFirst < x.split ∧ x.split ≤ x.reachLast ∧ x.reachLast ≤ 63
        ∧ legCode x.strayLeg = b (o + 3) ∧ legCode x.feedLeg = b (o + 6)
        ∧ x.feedNode = b (o + 4) ∧ x.feedNode ≤ 62 ∧ (x.feedNode = 0 → k = 0 ∧ c.role = .crest)
        ∧ x.feedSlot = b (o + 5) ∧ x.feedSlot ≤ 3
        ∧ LegEndHolds (b 7) (b (o + 7)) (b (o + 8)) ∧ LegEndHolds (b 7) (b (o + 9)) (b (o + 10))
        ∧ x.normalEnd = (if b (o + 7) = 0 then .track (b (o + 8)) else .slot (b (o + 7)) (b (o + 8)))
        ∧ x.reverseEnd = (if b (o + 9) = 0 then .track (b (o + 10)) else .slot (b (o + 9)) (b (o + 10)))
        ∧ x.legEnd .normal = x.normalEnd ∧ x.legEnd .reverse = x.reverseEnd
        ∧ (∀ leg n, x.legEnd leg = .track n → 1 ≤ n ∧ n ≤ 63)
        ∧ (∀ leg n m, x.legEnd leg = .slot n m → 1 ≤ n ∧ n ≤ 62 ∧ n ≠ c.yardStation ∧ m ≤ 3)
        ∧ x.throwLimit = 50 * b (o + 11) ∧ 200 ≤ x.throwLimit ∧ x.throwLimit ≤ 3000
        ∧ x.retries = b (o + 12) ∧ x.retries ≤ 3
        ∧ x.gapTime = 10 * b (o + 13) ∧ 100 ≤ x.gapTime ∧ x.gapTime ≤ 2000
        ∧ x.stallTime = 1000 * b (o + 14) ∧ 2000 ≤ x.stallTime ∧ x.stallTime ≤ 60000
        ∧ x.overdueTime = 1000 * b (o + 15) ∧ 5000 ≤ x.overdueTime ∧ x.overdueTime ≤ 120000
        ∧ x.pressureThreshold = b (o + 16) ∧ 2 ≤ x.pressureThreshold ∧ x.pressureThreshold ≤ 6)
  ∧ ∀ memory : List Byte, ImageHolds (memoryByte memory) → ∃ c, readImage memory = some c

/-- R166: a sensor axle in the census at a slot below the slot count is counted nowhere and raises an
AXLE_IMBALANCE alarm, which goes to the capture alone; no frame is offered. The four sensor rows do the
same there, and CENSUS_AXLE does nothing otherwise. Outside the census the four sensor rows do nothing at a slot
that is not in service: an OFF slot, and every slot in LOADING, in CONFIG_FAULT and in reset (R59). (The rows of
the census are log 6, the model's.) -/
def Obligations.CensusAxlesGoToTheCaptureAlone : Prop :=
  ∀ (s : State) (k : SlotIx) (x : Sensor) (d : Direction),
    (s.nodeState = .census → k.val < s.cfg.slotCount →
      ∃ t, exec (.censusAxle k x d) s = .next t ∧ t.port.queue = s.port.queue
        ∧ t.apartFromFrames
          = (s.captureAlarm ⟨.axleImbalance, some k, 0, 0, .strayAxle x d⟩).apartFromFrames)
    ∧ (¬(s.nodeState = .census ∧ k.val < s.cfg.slotCount) → Leaves (.censusAxle k x d) s s [])
    ∧ (s.nodeState = .census →
        exec (.commitAxleForward k) s = exec (.censusAxle k .commit .forward) s
        ∧ exec (.commitAxleBackward k) s = exec (.censusAxle k .commit .backward) s
        ∧ (∀ leg, exec (.exitAxleForward k leg) s = exec (.censusAxle k (exitSensor leg) .forward) s)
        ∧ ∀ leg, exec (.exitAxleBackward k leg) s = exec (.censusAxle k (exitSensor leg) .backward) s)
    ∧ (s.nodeState ≠ .census → s.nodeState ≠ .inService ∨ (s.slot k).service = .off →
        Leaves (.commitAxleForward k) s s [] ∧ Leaves (.commitAxleBackward k) s s []
        ∧ (∀ leg, Leaves (.exitAxleForward k leg) s s [])
        ∧ ∀ leg, Leaves (.exitAxleBackward k leg) s s [])

/-- CENSUS_END: the slots below the slot count enter service from their lines, START, HOLD_STATE and the
captured alarm's INCIDENT stand in the queue in that order, and the signal shows STOP (R35, R133, R154,
R166, R167, R168). The running time comes to 2 s
after the census began (log 2, the model's). Outside the census there is no census to end (log 5, the
model's). -/
def Obligations.CensusEndEntersService : Prop :=
  ∀ s : State,
    (s.nodeState ≠ .census → Leaves .censusEnd s s [])
    ∧ ∀ start, s.nodeState = .census → s.censusStart = some start → s.port.queue = [] → s.cutList = [] →
        (∀ k, (s.slot k).service = .off) →
        ∃ t, exec .censusEnd s = .next t
          ∧ t.nodeState = .inService ∧ t.censusStart = none ∧ t.time = max s.time (start + 2000)
          ∧ (∀ k, (t.slot k).apartFromTimer = (if k.val < s.cfg.slotCount then
              { s.slot k with
                service := if (s.slot k).foulingOccupied = true then .settling else .inUse
                point := pointShownBy (s.slot k).provedNormal (s.slot k).provedReverse
                ghostRaised := false }
              else s.slot k).apartFromTimer)
          ∧ (∀ k, k.val < s.cfg.slotCount → (s.slot k).foulingOccupied = true → (s.slot k).zone = [] →
              (t.slot k).ghostTimer = some (t.time + (s.slotCfg k).gapTime))
          ∧ t.port.queue.map TxEntry.frame
              = [.start s.cfg.role s.cfg.slotCount s.cfg.imageSum, .holdState t.holdMask .inService]
                ++ (match s.capture with
                  | none => []
                  | some c => [.incident c.incident true])
          ∧ t.periodTimer = some (t.time + 1000)
          ∧ t.signal = .stop
          ∧ t.records = s.records ∧ t.free = s.free ∧ t.config = s.config ∧ t.capture = s.capture
          ∧ t.furtherAlarms = s.furtherAlarms ∧ t.handoffs = s.handoffs ∧ t.waitList = s.waitList
          ∧ t.faultLatch = s.faultLatch ∧ t.closures = s.closures ∧ t.watches = s.watches
          ∧ t.roster = s.roster ∧ t.crestPassage = s.crestPassage ∧ t.startSent = s.startSent

/-! ### Passages: the commit sensor (chapters 2 and 4) -/

/-- COMMIT_AXLE_FORWARD that begins an announced passage (R24, R45, R54, R55, R62, R65): the head leaves the
queue at distance 0, the expected next sequence advances, the recent list takes the announced entry, a late
throw may start, and the passage joins the zone list. The record keeps its fields but for its queue timing,
and receives STRAY and DIVERTED as they apply. -/
def Obligations.CommitAxleBeginsAnAnnouncedPassage : Prop :=
  ∀ (s : State) (k : SlotIx) (e : Seq) (r : RecIx) (rest : List RecIx),
    s.slotServing k = true → (s.slot k).beginsPassage → (s.slot k).expected = some e →
    (s.slot k).queue = r :: rest → distance e (s.queuedSeq r) = 0 →
    let x := s.slot k
    let wanted := (s.slotCfg k).wantedLeg (s.record r).destination
    let y := x.afterLateThrow (s.slotCfg k) wanted s.time
    let strayed := if s.strays k (s.record r) = true then (s.record r).flagged { stray := true } else s.record r
    let diverts := ∃ leg, y.intendedLeg = some leg ∧ leg ≠ wanted
    ∃ t, exec (.commitAxleForward k) s = .next t
      ∧ t.apartFromReports = (s.setSlot k { y with
          queue := rest
          expected := some (e + 1)
          recent := pushRecent ⟨e, .announced, (s.record r).tag⟩ x.recent
          zone := x.zone ++ [{
            record := r
            consumed := some e
            intended := y.intendedLeg
            taken := none
            axlesIn := 1
            outNormal := 0
            outReverse := 0
            countdown := if (s.record r).expectedAxles = 0 then none else some ((s.record r).expectedAxles - 1)
            excess := 0
            phase := if (s.record r).expectedAxles = 1 then .trailing else .committing
            lastCommit := s.time
            gapRunning := true
            stallTimer := some (s.time + (s.slotCfg k).stallTime)
            stalled := false
            rollbackNoted := false
            handoff := .none }] }).apartFromReports
      ∧ (PoolLaw s →
          (diverts → t.record r = { strayed.flagged { diverted := true } with timing := none })
          ∧ (¬diverts → t.record r = { strayed with timing := none }))
      ∧ (s.hasRoom 3 →
          (s.strays k (s.record r) = true → (s.record r).flags.stray = false →
            t.holdsFrame (.incident ⟨.stray, some k, (s.record r).tag, 0,
              .destination (s.record r).destination⟩ false))
          ∧ (∀ leg, y.intendedLeg = some leg → leg ≠ wanted → y.service = .inUse →
              (x.zone ≠ [] ∨ x.foulingOccupied = true) →
              t.holdsFrame (.incident ⟨.catchUpDivert, some k, (s.record r).tag, s.youngestTag k,
                .intended leg⟩ false)))

/-- COMMIT_AXLE_FORWARD that begins an anonymous passage (R24, R25, R62, R65): a blank record is allocated,
a SYNCED slot lets one sequence go by, an UNSYNCED slot consumes none, the queue stays as it is, and the
UNANNOUNCED_CUT alarm is raised. -/
def Obligations.CommitAxleBeginsAnAnonymousPassage : Prop :=
  ∀ (s : State) (k : SlotIx) (r : RecIx) (free : List RecIx),
    s.slotServing k = true → (s.slot k).beginsPassage → s.free = r :: free → s.record r = Record.blank →
    (∀ e, (s.slot k).expected = some e → ∀ h ∈ (s.slot k).queue.head?, distance e (s.queuedSeq h) ≠ 0) →
    let x := s.slot k
    let wanted := (s.slotCfg k).wantedLeg 0
    let y := x.afterLateThrow (s.slotCfg k) wanted s.time
    let inc : Incident := ⟨.unannouncedCut, some k, 0, s.headTag k, .unannounced x.expected⟩
    ∃ t, exec (.commitAxleForward k) s = .next t
      ∧ t.apartFromReports = (s.setSlot k { y with
          expected := x.expected.map (fun e => e + 1)
          recent := match x.expected with
            | some e => pushRecent ⟨e, .anonymous, 0⟩ x.recent
            | none => x.recent
          zone := x.zone ++ [{
            record := r
            consumed := x.expected
            intended := y.intendedLeg
            taken := none
            axlesIn := 1
            outNormal := 0
            outReverse := 0
            countdown := none
            excess := 0
            phase := .committing
            lastCommit := s.time
            gapRunning := true
            stallTimer := some (s.time + (s.slotCfg k).stallTime)
            stalled := false
            rollbackNoted := false
            handoff := .none }] }).apartFromReports
      ∧ (PoolLaw s → (t.record r).tag = 0 ∧ (t.record r).destination = 0
          ∧ (t.record r).flags.stray = false
          ∧ ((t.record r).flags.diverted = true ↔ ∃ leg, y.intendedLeg = some leg ∧ leg ≠ wanted))
      ∧ (s.capture = none → t.capture = some ⟨inc, s.time⟩)
      ∧ (s.hasRoom 3 → t.holdsFrame (s.reportOf inc))

/-- COMMIT_AXLE_FORWARD that is counted into the youngest passage (R64, R66, R67): COMMITTING and TRAILING
count it down or as excess; COMMITTED counts it as excess with LONG, and with a ZONE_OVERRUN alarm where
the gap timer had expired and the zone list is full. With 255 axles in, the axle is a stray axle (R60). -/
def Obligations.CommitAxleIsCountedIn : Prop :=
  ∀ (s : State) (k : SlotIx) (p : Passage), s.slotServing k = true → (s.slot k).zone.getLast? = some p →
    let stray : Incident := ⟨.axleImbalance, some k, 0, 0, .strayAxle .commit .forward⟩
    (p.axlesIn = 255 → (p.phase ≠ .committed ∨ p.gapRunning = true ∨ (s.slot k).zone.length = 2) →
      Leaves (.commitAxleForward k) s (s.captureAlarm stray) [s.reportOf stray])
    ∧ (p.axlesIn < 255 →
    let i := (s.slot k).zone.length - 1
    let q := p.afterCommitAxle s.time (s.slotCfg k).stallTime
    (p.phase = .trailing →
      Leaves (.commitAxleForward k) s
        (s.setPassage k i { q with axlesIn := p.axlesIn + 1, excess := p.excess + 1 }) [])
    ∧ (p.phase = .committing → p.countdown = none →
      Leaves (.commitAxleForward k) s (s.setPassage k i { q with axlesIn := p.axlesIn + 1 }) [])
    ∧ (∀ n, p.phase = .committing → p.countdown = some (n + 1) →
      Leaves (.commitAxleForward k) s
        (s.setPassage k i { q with
          axlesIn := p.axlesIn + 1
          countdown := some n
          phase := if n = 0 then .trailing else .committing }) [])
    ∧ (p.phase = .committed → p.gapRunning = true →
      Leaves (.commitAxleForward k) s
        ((s.setPassage k i { q with axlesIn := p.axlesIn + 1, excess := p.excess + 1 }).setRecord p.record
          ((s.record p.record).flagged { long := true })) [])
    ∧ (p.phase = .committed → p.gapRunning = false → (s.slot k).zone.length = 2 →
      let inc : Incident := ⟨.zoneOverrun, some k, (s.record p.record).tag, 0, .zoneOverrun (p.axlesIn + 1)⟩
      Leaves (.commitAxleForward k) s
        (((s.setPassage k i { q with axlesIn := p.axlesIn + 1, excess := p.excess + 1 }).setRecord p.record
          ((s.record p.record).flagged { long := true })).captureAlarm inc) [s.reportOf inc]))

/-- COMMIT_AXLE_BACKWARD (R76, R77): the youngest passage undoes one axle, is reopened by its expected
count, restarts both timers, and the record receives ROLLBACK, with one notice per passage. -/
def Obligations.BackwardCommitAxleReopensThePassage : Prop :=
  ∀ (s : State) (k : SlotIx) (p : Passage), s.slotServing k = true → (s.slot k).zone.getLast? = some p →
    p.out < p.axlesIn →
    let n := p.axlesIn - 1
    let x := (s.record p.record).expectedAxles
    let q := p.afterCommitAxle s.time (s.slotCfg k).stallTime
    Leaves (.commitAxleBackward k) s
      ((s.setPassage k ((s.slot k).zone.length - 1) { q with
        axlesIn := n
        excess := p.excess - 1
        phase := if x = 0 ∨ n < x then .committing else .trailing
        countdown := if x = 0 then none else some (x - n)
        rollbackNoted := true }).setRecord p.record ((s.record p.record).flagged { rollback := true }))
      (if p.rollbackNoted = true then []
       else [.incident ⟨.rollback, some k, (s.record p.record).tag, 0, .sensor .commit⟩ false])

/-! ### Passages: the exit sensors (chapter 4) -/

/-- EXIT_AXLE_FORWARD counted out by the oldest passage with axles in above its axles out, where no handoff
begins (R72 to R74). On the taken leg the axle is counted; on the other leg it is counted, and the first there
fails the slot with SPLIT_ROUTE; the first axle of a passage on a leg that ends at a track sets the taken leg, and
fails the slot with LEG_MISMATCH where the point is proved in the other leg. The passages that then meet the end
condition end (R78, R79). -/
def Obligations.ForwardExitAxleIsCountedOut : Prop :=
  ∀ (s : State) (k : SlotIx) (leg : Leg) (i : Nat) (p : Passage), s.slotServing k = true →
    (s.slot k).zone.findIdx? Passage.isOpen = some i → (s.slot k).zone[i]? = some p →
    let q := (p.withOut leg (p.outOn leg + 1)).afterAxle s.time (s.slotCfg k).stallTime
    let first := { q with taken := some leg }
    let split : Incident := ⟨.splitRoute, some k, (s.record p.record).tag, 0, .splitRoute (otherLeg leg) leg⟩
    let mismatch : Incident :=
      ⟨.legMismatch, some k, (s.record p.record).tag, 0, .legMismatch leg (s.slot k).point⟩
    (p.taken = some leg ∨ p.taken = some (otherLeg leg) ∧ 0 < p.outOn leg →
      LeavesThenEnds (.exitAxleForward k leg) s (s.setPassage k i q) k [])
    ∧ (p.taken = some (otherLeg leg) → p.outOn leg = 0 →
      LeavesThenEnds (.exitAxleForward k leg) s
        ((s.setSlot k { (s.slot k).takenOut .failed with zone := (s.slot k).zone.set i q }).captureAlarm split)
        k [s.reportOf split])
    ∧ (∀ n, p.taken = none → (s.slotCfg k).legEnd leg = .track n →
      ((s.slot k).point ≠ provedIn (otherLeg leg) →
        LeavesThenEnds (.exitAxleForward k leg) s (s.setPassage k i first) k [])
      ∧ ((s.slot k).point = provedIn (otherLeg leg) →
        LeavesThenEnds (.exitAxleForward k leg) s
          ((s.setSlot k { (s.slot k).takenOut .failed with zone := (s.slot k).zone.set i first }).captureAlarm
            mismatch) k [s.reportOf mismatch]))

/-- EXIT_AXLE_FORWARD, the first of a passage on a leg that feeds a slot of another node (R4, R17, R73, R86 to
R88): the feed counter advances, the context becomes PENDING with attempt 1, and a HANDOFF frame with the
record's contents and the counter's value is offered. Where the point is proved in the other leg, the slot fails
with LEG_MISMATCH and the handoff begins all the same. The passages that then meet the end condition end (R78,
R79), which is said for states in which each record stands in one place. -/
def Obligations.FirstExitAxleSendsTheHandoff : Prop :=
  ∀ (s : State) (k : SlotIx) (leg : Leg) (i node target : Nat) (p : Passage), s.slotServing k = true →
    (s.slot k).zone.findIdx? Passage.isOpen = some i → (s.slot k).zone[i]? = some p → p.taken = none →
    (s.slotCfg k).legEnd leg = .slot node target → node ≠ s.cfg.node →
    let q := { (p.withOut leg (p.outOn leg + 1)).afterAxle s.time (s.slotCfg k).stallTime with taken := some leg }
    let frame : HandoffFrame :=
      { targetStation := node
        targetSlot := target
        sourceSlot := k
        sourceLeg := leg
        seq := match leg with
          | .normal => (s.slot k).feedNormal
          | .reverse => (s.slot k).feedReverse
        contents := p.handsOn (s.record p.record) }
    let mismatch : Incident :=
      ⟨.legMismatch, some k, (s.record p.record).tag, 0, .legMismatch leg (s.slot k).point⟩
    let sent (u : State) (x : Slot) : State :=
      { u.setSlot k { x.withNextFeed leg with
          zone := (s.slot k).zone.set i { q with handoff := .sent s.nextHandoff } } with
        handoffs := s.handoffs ++ [({ number := s.nextHandoff, frame := frame, status := .pending .first none } : Handoff)]
        nextHandoff := s.nextHandoff + 1 }
    noneEnds ((s.slot k).zone.set i q) ∨ PoolLaw s →
    ((s.slot k).point ≠ provedIn (otherLeg leg) →
      LeavesThenEnds (.exitAxleForward k leg) s (sent s (s.slot k)) k [.handoff frame])
    ∧ ((s.slot k).point = provedIn (otherLeg leg) →
      LeavesThenEnds (.exitAxleForward k leg) s (sent (s.captureAlarm mismatch) ((s.slot k).takenOut .failed)) k
        [s.reportOf mismatch, .handoff frame])

/-- EXIT_AXLE_FORWARD, the first of a passage on a leg that feeds a slot of this node (R73, R89, R98 to R104): the
feed counter advances, the receiver's rules are applied to the target slot as the axle leaves it, and their result
stands in the passage. The refusing results leave the target slot as it is, raise HANDOFF_REFUSED and set the
fault latch. An UNSYNCED slot takes the handoff into its empty queue, and a SYNCED one inserts it by its distance;
a sequence already queued, and a resend, are TAKEN with no change; behind, an anonymous passage without an exit
axle adopts it, and any other is LATE. Where the point is proved in the other leg, the sending slot first fails
with LEG_MISMATCH. The passages of the sending slot that then meet the end condition end (R78, R79). (Logs
13 and 24, the model's, stand behind two details of an adoption.) -/
def Obligations.FirstExitAxleMakesTheLocalHandoff : Prop :=
  ∀ (s : State) (k : SlotIx) (leg : Leg) (i target : Nat) (p : Passage), s.slotServing k = true →
    (s.slot k).zone.findIdx? Passage.isOpen = some i → (s.slot k).zone[i]? = some p → p.taken = none →
    (s.slotCfg k).legEnd leg = .slot s.cfg.node target →
    let q := { (p.withOut leg (p.outOn leg + 1)).afterAxle s.time (s.slotCfg k).stallTime with taken := some leg }
    let r := s.record p.record
    let c := p.handsOn r
    let seq := match leg with
      | .normal => (s.slot k).feedNormal
      | .reverse => (s.slot k).feedReverse
    let mismatch : Incident := ⟨.legMismatch, some k, r.tag, 0, .legMismatch leg (s.slot k).point⟩
    let mismatched := (s.slot k).point = provedIn (otherLeg leg)
    let alarm : List OutFrame := if mismatched then [s.reportOf mismatch] else []
    let s0 := if mismatched then (s.captureAlarm mismatch).setSlot k ((s.slot k).takenOut .failed) else s
    let s1 := s0.setSlot k { (s0.slot k).withNextFeed leg with zone := (s.slot k).zone.set i q }
    let results (result : HandoffResult) (u : State) (sends : List OutFrame) : Prop :=
      LeavesThenEnds (.exitAxleForward k leg) s (u.setPassage k i { q with handoff := .local result }) k
        (alarm ++ sends)
    let refuses (result : HandoffResult) : Prop :=
      let refused : Incident := ⟨.handoffRefused, some k, r.tag, r.companionTag,
        .handoffRefused result s.cfg.node target seq⟩
      results result ({ s1 with faultLatch := true }.captureAlarm refused) [s1.reportOf refused]
    ((∀ j : SlotIx, j.val = target → (s.slot j).service = .off
        ∨ ¬((s.slotCfg j).feedNode = s.cfg.node ∧ (s.slotCfg j).feedSlot = k.val ∧ (s.slotCfg j).feedLeg = leg)) →
      refuses .refusedUnknownFeed)
    ∧ ∀ j : SlotIx, j.val = target → (s.slotCfg j).feedNode = s.cfg.node → (s.slotCfg j).feedSlot = k.val →
      (s.slotCfg j).feedLeg = leg →
      let y := s1.slot j
      let record := c.announced seq s.time (s.slotCfg j).overdueTime
      let late (adopted : Bool) : Incident :=
        ⟨.lateHandoff, some j, r.tag, 0, .lateHandoff adopted seq s.cfg.node⟩
      (y.service = .settling → refuses .refusedNotReady)
      ∧ (y.service ≠ .off → y.service ≠ .settling →
        (∀ new free, s.free = new :: free → y.expected = none → y.queue = [] →
          results .taken ((({ s1 with free := free }.setRecord new record).setSlot j
            { y with expected := some seq, queue := [new] }).evaluateThrow j) [])
        ∧ (∀ e, y.expected = some e → distance e seq < 128 →
          ((∃ h ∈ y.queue, s.queuedSeq h = seq) → results .taken s1 [])
          ∧ ((∀ h ∈ y.queue, s.queuedSeq h ≠ seq) → 6 ≤ y.queue.length → refuses .refusedFull)
          ∧ (∀ new free before after, s.free = new :: free → y.queue = before ++ after → y.queue.length < 6 →
            new ∉ y.queue → (∀ h ∈ y.queue, s.queuedSeq h ≠ seq) →
            (∀ h ∈ before, distance e (s.queuedSeq h) < distance e seq) →
            (∀ h ∈ after.head?, distance e seq < distance e (s.queuedSeq h)) →
            let taken := ({ s1 with free := free }.setRecord new record).setSlot j
              { y with queue := before ++ new :: after }
            results .taken (if before = [] then taken.evaluateThrow j else taken) []))
        ∧ (∀ e, y.expected = some e → 128 ≤ distance e seq →
          let entry := y.recent.find? (fun x => x.seq == seq)
          let passage := s1.adopter y.zone seq
          (entry = some ⟨seq, .announced, r.tag⟩ → results .taken s1 [])
          ∧ (entry = none ∨ (∃ tag, tag ≠ r.tag ∧ entry = some ⟨seq, .announced, tag⟩)
              ∨ (∃ tag, entry = some ⟨seq, .anonymous, tag⟩
                ∧ (passage = none ∨ ∃ n a, passage = some n ∧ y.zone[n]? = some a ∧ a.taken ≠ none)) →
            results .late (s1.captureAlarm (late false)) [s1.reportOf (late false)])
          ∧ (∀ tag n a, entry = some ⟨seq, .anonymous, tag⟩ → passage = some n → y.zone[n]? = some a →
            a.taken = none →
            results .lateAdopted ((s1.afterAdoption j n a seq c).captureAlarm (late true))
              (s1.adoptionNotices j a seq c ++ [s1.reportOf (late true)]))))

/-- The end of the oldest passage at the axle that balances it (R78, R79, R95, R96, R107, R158). Each of its tags
that is watched gives a WATCH_HIT and leaves the table. On a leg that ends at a track the ARRIVAL is offered and
the record freed. On a leg that feeds a slot the record is freed if its handoff is RESOLVED, local handoffs among
them; while it is PENDING the record joins the wait list, whose oldest entry, if it holds eight, is first resolved
as LOST, with its alarm and the fault latch, and its record freed. With the zone list empty point control
evaluates; otherwise the passage that is then the oldest ends as well if it meets the end condition. (A passage
whose first exit axle balances it is among the three statements above.) -/
def Obligations.BalancedPassageEnds : Prop :=
  ∀ (s : State) (k : SlotIx) (leg taken : Leg) (p : Passage) (rest : List Passage), s.slotServing k = true →
    (s.slot k).zone = p :: rest → p.phase = .committed → p.out + 1 = p.axlesIn → p.taken = some taken →
    (taken = leg ∨ 0 < p.outOn leg) →
    let r := s.record p.record
    let hits : List OutFrame := (watchedTags s.watches r.watchable).map (fun tag => .watchHit tag k taken)
    let gone := { s.setSlot k { s.slot k with zone := rest } with
      watches := r.watchable.foldl List.erase s.watches }
    let leaves (u : State) (sends : List OutFrame) : Prop :=
      LeavesThenEnds (.exitAxleForward k leg) s (if rest = [] then u.evaluateThrow k else u) k sends
    (∀ n, (s.slotCfg k).legEnd taken = .track n → p.handoff = .none →
      leaves (gone.freeRecord p.record)
        (.arrival k taken n r.tag r.destination r.originalDestination r.flags
          (decide (r.destination ≠ 0) && decide (r.destination ≠ n)) r.companion :: hits))
    ∧ (∀ node target, (s.slotCfg k).legEnd taken = .slot node target →
      (∀ result, p.handoff = .local result → leaves (gone.freeRecord p.record) hits)
      ∧ ∀ m, p.handoff = .sent m →
        (s.isPending m = false → leaves ((gone.dropHandoff m).freeRecord p.record) hits)
        ∧ (s.isPending m = true → s.waitList.length < 8 →
          leaves { gone with waitList := s.waitList ++ [(⟨p.record, m⟩ : WaitEntry)] } hits)
        ∧ (s.isPending m = true → 8 ≤ s.waitList.length → ∀ oldest waiting h, s.waitList = oldest :: waiting →
          s.handoff? oldest.handoff = some h → s.isPending oldest.handoff = true →
          let lost : Incident := ⟨.handoffLost, some h.frame.sourceSlot, (s.record oldest.record).tag,
            (s.record oldest.record).companionTag,
            .handoffLost h.frame.targetStation h.frame.targetSlot h.frame.seq⟩
          leaves ((({ gone with
              faultLatch := true
              waitList := waiting ++ [(⟨p.record, m⟩ : WaitEntry)] }.captureAlarm lost).dropHandoff
                oldest.handoff).freeRecord oldest.record) (hits ++ [s.reportOf lost])))

/-- EXIT_AXLE_BACKWARD (R75): the oldest passage with axles out on the leg counts one back, its record
receives ROLLBACK, and the notice is raised once per passage; the taken leg and the handoff stay. The
oldest passage's end condition is then checked (R78). -/
def Obligations.BackwardExitAxleIsCountedBack : Prop :=
  ∀ (s : State) (k : SlotIx) (leg : Leg) (i : Nat) (p : Passage), s.slotServing k = true →
    (s.slot k).zone.findIdx? (fun p => decide (0 < p.outOn leg)) = some i → (s.slot k).zone[i]? = some p →
    let q := { (p.withOut leg (p.outOn leg - 1)).afterAxle s.time (s.slotCfg k).stallTime with
      rollbackNoted := true }
    LeavesThenEnds (.exitAxleBackward k leg) s
      ((s.setPassage k i q).setRecord p.record ((s.record p.record).flagged { rollback := true })) k
      (if p.rollbackNoted = true then []
       else [.incident ⟨.rollback, some k, (s.record p.record).tag, 0, .sensor (exitSensor leg)⟩ false])

/-- R60: a stray axle is counted nowhere and raises an AXLE_IMBALANCE alarm with the sensor and the
direction. Its cases at the exit sensors and at a backward commit axle; a forward one at 255 axles in stands
above. -/
def Obligations.StrayAxlesRaiseTheirAlarm : Prop :=
  ∀ (s : State) (k : SlotIx), s.slotServing k = true →
    let inc (x : Sensor) (d : Direction) : Incident := ⟨.axleImbalance, some k, 0, 0, .strayAxle x d⟩
    (∀ leg, (∀ p ∈ (s.slot k).zone, p.axlesIn ≤ p.out) →
      Leaves (.exitAxleForward k leg) s (s.captureAlarm (inc (exitSensor leg) .forward))
        [s.reportOf (inc (exitSensor leg) .forward)])
    ∧ (∀ leg, (∀ p ∈ (s.slot k).zone, p.outOn leg = 0) →
      Leaves (.exitAxleBackward k leg) s (s.captureAlarm (inc (exitSensor leg) .backward))
        [s.reportOf (inc (exitSensor leg) .backward)])
    ∧ ((∀ p ∈ (s.slot k).zone.getLast?, p.axlesIn ≤ p.out) →
      Leaves (.commitAxleBackward k) s (s.captureAlarm (inc .commit .backward))
        [s.reportOf (inc .commit .backward)])

/-! ### Point control (chapter 3) -/

/-- The throw evaluation (R42, R44, R47): with the head of the queue as target, a throw starts toward the
head's wanted leg exactly when the zone list is empty, the slot is IN_USE, the circuit is clear, no throw is
in progress and the point is not proved there; otherwise nothing changes. -/
def Obligations.ThrowEvaluationFollowsItsRule : Prop :=
  ∀ (s : State) (k : SlotIx),
    ((s.slot k).queue = [] → s.evaluateThrow k = s)
    ∧ ∀ (r : RecIx) (rest : List RecIx), (s.slot k).queue = r :: rest →
      let x := s.slot k
      let c := s.slotCfg k
      let d := (s.record r).destination
      let wanted := if c.split ≤ d ∧ d ≤ c.reachLast then .reverse
        else if c.reachFirst ≤ d ∧ d < c.split then .normal
        else c.strayLeg
      s.evaluateThrow k =
        if x.zone = [] ∧ x.service = .inUse ∧ x.foulingOccupied = false ∧ x.isMoving = false
            ∧ x.point ≠ provedIn wanted then
          s.setSlot k (x.thrownToward wanted c.retries (s.time + c.throwLimit))
        else s

/-- DETECTION_CHANGE (R39, R41, R48, R52, R53). An unmoving point follows its inputs; losing proof in
SETTLING or IN_USE fails the slot with DETECTION_LOST. A throw takes only proof of its target, which ends it
and brings a throw evaluation. A level that is no change, or at a slot not in service, only sets the line
(log 4). -/
def Obligations.DetectionChangeMovesThePointState : Prop :=
  ∀ (s : State) (k : SlotIx) (input : Leg) (level : Bool),
    let x := s.slot k
    let y := x.setInput input level
    let shown := pointShownBy y.provedNormal y.provedReverse
    let lost : Incident :=
      ⟨.detectionLost, some k, 0, 0, .detectionLost x.point y.provedNormal y.provedReverse⟩
    (¬(s.slotServing k = true ∧ y ≠ x) → Leaves (.detectionChange k input level) s (s.setSlot k y) [])
    ∧ (s.slotServing k = true → y ≠ x → x.isMoving = false →
        ((x.point = .provedNormal ∨ x.point = .provedReverse) → shown = .unproved →
          (x.service = .settling ∨ x.service = .inUse) →
          Leaves (.detectionChange k input level) s
            ((s.setSlot k { y with
              point := .unproved, service := .failed, driveNormal := false, driveReverse := false }).captureAlarm
              lost) [s.reportOf lost])
        ∧ (¬((x.point = .provedNormal ∨ x.point = .provedReverse) ∧ shown = .unproved
            ∧ (x.service = .settling ∨ x.service = .inUse)) →
          Leaves (.detectionChange k input level) s (s.setSlot k { y with point := shown }) []))
    ∧ (∀ thrown : Throw, s.slotServing k = true → y ≠ x → x.point = .moving thrown →
        (shown = provedIn thrown.target →
          Leaves (.detectionChange k input level) s
            ((s.setSlot k { y with point := shown, driveNormal := false, driveReverse := false }).evaluateThrow k)
            [])
        ∧ (shown ≠ provedIn thrown.target →
          Leaves (.detectionChange k input level) s (s.setSlot k y) []))

/-- FOULING_OCCUPIED (R37, R40, R51, R81): a throw is stopped with the drive off and the point UNPROVED, and
the slot fails with UNPROVED_UNDER_CUT; without a throw only the circuit's state changes, and a new occupied
episode begins. -/
def Obligations.FoulingOccupiedStopsAThrow : Prop :=
  ∀ (s : State) (k : SlotIx),
    let x := s.slot k
    (s.slotServing k = true → x.foulingOccupied = false → ∀ thrown : Throw, x.point = .moving thrown →
      let inc : Incident :=
        ⟨.unprovedUnderCut, some k, s.youngestTag k, 0, .underCut thrown.target thrown.phase⟩
      Leaves (.foulingOccupied k) s
        ((s.setSlot k { x with
          foulingOccupied := true
          ghostRaised := false
          point := .unproved
          service := .failed
          driveNormal := false
          driveReverse := false }).captureAlarm inc) [s.reportOf inc])
    ∧ (s.slotServing k = true → x.foulingOccupied = false → x.isMoving = false →
      Leaves (.foulingOccupied k) s
        (s.setSlot k { x with foulingOccupied := true, ghostRaised := false }) [])
    ∧ (s.slotServing k = false ∨ x.foulingOccupied = true →
      Leaves (.foulingOccupied k) s (s.setSlot k { x with foulingOccupied := true }) [])

/-- FOULING_CLEAR (R36, R44, R79, R80): the line goes clear; every passage part out, oldest first, is ended with
IMBALANCE and its alarm as at any other end, on a leg to a track or to a slot, with its watches; then a SETTLING
slot enters IN_USE and point control evaluates. Two cases are written out: no passage part out, and one alone in
its zone list on a leg to a track, which offers its ARRIVAL. -/
def Obligations.FoulingClearReconciles : Prop :=
  ∀ (s : State) (k : SlotIx),
    let x := s.slot k
    let cleared : Slot := { x with
      foulingOccupied := false
      service := if x.service = .settling then .inUse else x.service }
    (s.slotServing k = true → x.foulingOccupied = true →
      (∀ p ∈ x.zone, p.out = 0 ∨ p.axlesIn ≤ p.out) →
      Leaves (.foulingClear k) s ((s.setSlot k cleared).evaluateThrow k) [])
    ∧ (s.slotServing k = true → x.foulingOccupied = true → ∀ p taken n, x.zone = [p] →
      0 < p.out → p.out < p.axlesIn → p.taken = some taken → (s.slotCfg k).legEnd taken = .track n →
      p.handoff = .none →
      let r := s.record p.record
      r.tag ∉ s.watches → (∀ c, r.companion = some c → c.tag ∉ s.watches) →
      let inc : Incident := ⟨.axleImbalance, some k, r.tag, r.companionTag,
        .reconciled p.axlesIn p.outNormal p.outReverse⟩
      Leaves (.foulingClear k) s
        ((((s.setSlot k { cleared with zone := [] }).captureAlarm inc).freeRecord p.record).evaluateThrow k)
        [s.reportOf inc, .arrival k taken n r.tag r.destination r.originalDestination
          (r.flags.union { imbalance := true })
          (decide (r.destination ≠ 0) && decide (r.destination ≠ n)) r.companion])
    ∧ (s.slotServing k = true → x.foulingOccupied = true →
      let w := State.afterReconcile k x.zone.length (s.setSlot k { x with foulingOccupied := false })
      Leaves (.foulingClear k) s
        ((w.1.setSlot k { w.1.slot k with service := cleared.service }).evaluateThrow k) w.2)
    ∧ (s.slotServing k = false ∨ x.foulingOccupied = false →
      Leaves (.foulingClear k) s (s.setSlot k { x with foulingOccupied := false }) [])

/-- THROW_DEADLINE and PAUSE_END (R37, R40, R49, R50): with attempts left the drive goes off for a pause of
250 ms, with one attempt fewer, and then drives again with a new deadline; with none left the slot fails
with POINT_FAILED and its point is UNPROVED. The running time comes to the deadline (log 2, the model's). -/
def Obligations.ThrowDeadlinesRetryOrFail : Prop :=
  ∀ (s : State) (k : SlotIx) (target : Leg) (deadline : Nat), (s.slot k).service ≠ .off →
    let x := s.slot k
    let now := max s.time deadline
    (∀ n, x.point = .moving ⟨target, n + 1, deadline, .driving⟩ →
      Leaves (.throwDeadline k) s
        ({ s with time := now }.setSlot k { x with
          point := .moving ⟨target, n, now + 250, .pausing⟩
          driveNormal := false
          driveReverse := false }) [])
    ∧ (x.point = .moving ⟨target, 0, deadline, .driving⟩ →
      let inc : Incident := ⟨.pointFailed, some k, 0, 0, .pointFailed target ((s.slotCfg k).retries + 1)⟩
      s.serving = true →
      Leaves (.throwDeadline k) s
        (({ s with time := now }.setSlot k { x with
          point := .unproved
          service := .failed
          driveNormal := false
          driveReverse := false }).captureAlarm inc) [s.reportOf inc])
    ∧ (∀ n, x.point = .moving ⟨target, n, deadline, .pausing⟩ →
      Leaves (.pauseEnd k) s
        ({ s with time := now }.setSlot k (x.thrownToward target n (now + (s.slotCfg k).throwLimit))) [])

/-! ### Timers of the passages and queues (chapters 2 and 4) -/

/-- GAP_EXPIRY at a passage whose gap timer runs (R26, R68 to R71): a COMMITTING passage with axles in becomes
COMMITTED, SHORT if its count is known; one with none stays; a TRAILING one becomes COMMITTED, and with excess
that is no merge it is LONG; a COMMITTED one closes its window. In a merge the head at distance 0, whose expected
axles equal the excess, leaves the queue as a consumed sequence, and its tag and destination become the companion
of the passage's record, which receives MERGED. Where a passage became COMMITTED, the passages that then meet the
end condition end (R78, R79). The running time comes to the last commit axle time plus the gap time (log 2). A head
that itself carries MERGED is absorbed like any other (log 30). Both are the model's. -/
def Obligations.GapExpiryCommitsOrMerges : Prop :=
  (∀ (s : State) (k : SlotIx) (i : Nat) (p : Passage), s.serving = true →
      (s.slot k).zone[i]? = some p → p.gapRunning = true →
      let s1 := { s with time := max s.time (p.lastCommit + (s.slotCfg k).gapTime) }
      let done : Passage := { p with phase := .committed, gapRunning := false }
      let r := s.record p.record
      (p.phase = .committed ∨ p.phase = .committing ∧ p.axlesIn = 0 →
        Leaves (.gapExpiry k i) s (s1.setPassage k i { p with gapRunning := false }) [])
      ∧ (p.phase = .committing ∧ 0 < p.axlesIn ∧ r.expectedAxles = 0 ∨ p.phase = .trailing ∧ p.excess = 0 →
        LeavesThenEnds (.gapExpiry k i) s (s1.setPassage k i done) k [])
      ∧ (p.phase = .committing → 0 < p.axlesIn → r.expectedAxles ≠ 0 →
        LeavesThenEnds (.gapExpiry k i) s
          ((s1.setPassage k i done).setRecord p.record (r.flagged { short := true })) k
          [.incident ⟨.shortCut, some k, r.tag, 0, .shortCut p.axlesIn r.expectedAxles⟩ false])
      ∧ (p.phase = .trailing → 0 < p.excess →
        ¬(∃ e h rest, (s.slot k).expected = some e ∧ (s.slot k).queue = h :: rest
            ∧ distance e (s.queuedSeq h) = 0 ∧ (s.record h).expectedAxles = p.excess
            ∧ r.companion = none ∧ (s.record h).tag ≠ 0) →
        LeavesThenEnds (.gapExpiry k i) s
          ((s1.setPassage k i done).setRecord p.record (r.flagged { long := true })) k
          [.incident ⟨.longCut, some k, r.tag, s.headTag k, .excess p.excess⟩ false]))
  ∧ (∀ (s : State) (k : SlotIx) (i : Nat) (p : Passage) (e : Seq) (h : RecIx) (rest : List RecIx),
      s.serving = true → (s.slot k).zone[i]? = some p → p.gapRunning = true → p.phase = .trailing →
      0 < p.excess → (s.slot k).expected = some e → (s.slot k).queue = h :: rest →
      distance e (s.queuedSeq h) = 0 → (s.record h).expectedAxles = p.excess →
      (s.record p.record).companion = none → (s.record h).tag ≠ 0 → p.record ≠ h →
      let merged : Passage := { p with phase := .committed, gapRunning := false, excess := 0 }
      LeavesThenEnds (.gapExpiry k i) s
        ((({ s with time := max s.time (p.lastCommit + (s.slotCfg k).gapTime) }.setSlot k
          { s.slot k with
            queue := rest
            expected := some (e + 1)
            recent := pushRecent ⟨e, .announced, (s.record h).tag⟩ (s.slot k).recent
            zone := (s.slot k).zone.set i merged }).freeRecord h).setRecord p.record
          { (s.record p.record).flagged { merged := true } with
            companion := some ⟨(s.record h).tag, (s.record h).destination⟩ }) k
        [.incident ⟨.catchUpMerge, some k, (s.record p.record).tag, (s.record h).tag, .excess p.excess⟩ false])

/-- STALL_EXPIRY, GHOST_EXPIRY and OVERDUE_EXPIRY of timers that run (R28, R81, R82): each writes its mark and
raises its notice, the ghost notice at most once in an episode; the running time comes to the deadline (log
2). After every command, a slot whose ghost condition does not hold has no ghost timer, and one whose
condition began with that command has its timer at the gap time (log 22). -/
def Obligations.StallGhostAndOverdueTimersDoTheirWork : Prop :=
  (∀ (s : State) (k : SlotIx), s.slotServing k = true →
      (∀ i p d, (s.slot k).zone[i]? = some p → p.stallTimer = some d →
        Leaves (.stallExpiry k i) s
          ({ s with time := max s.time d }.setPassage k i { p with stallTimer := none, stalled := true })
          [.incident ⟨.stall, some k, (s.record p.record).tag, 0, .stall p.phase p.axlesIn p.out⟩ false])
      ∧ (∀ d, (s.slot k).ghostTimer = some d →
        Leaves (.ghostExpiry k) s
          ({ s with time := max s.time d }.setSlot k { s.slot k with ghostRaised := true })
          (if (s.slot k).ghostRaised = true then []
           else [.incident ⟨.ghostOccupancy, some k, 0, 0, .empty⟩ false])
        ∧ ∃ t, exec (.ghostExpiry k) s = .next t ∧ (t.slot k).ghostTimer = none)
      ∧ (∀ seq r timing, (s.slot k).queue.find? (fun i => s.queuedSeq i == seq) = some r →
        (s.record r).timing = some timing →
        (timing.marked = false →
          Leaves (.overdueExpiry k seq) s
            ({ s with time := max s.time timing.deadline }.setRecord r
              { s.record r with timing := some { timing with marked := true } })
            [.incident ⟨.overdue, some k, (s.record r).tag, 0, .overdue (s.record r).feedSeq⟩ false])
        ∧ (timing.marked = true → Leaves (.overdueExpiry k seq) s s [])))
  ∧ ∀ (c : Instr) (s t : State) (k : SlotIx), exec c s = .next t →
      ((t.slot k).ghost = false → (t.slot k).ghostTimer = none)
      ∧ ((t.slot k).ghost = true → (s.slot k).ghost = false →
          (t.slot k).ghostTimer = some (t.time + (t.slotCfg k).gapTime))

/-- REPLY_TIMEOUT of a PENDING context whose timer runs (R90, R91, R95, R129): attempt 1 offers the same
frame again and becomes attempt 2 with its timer stopped; attempt 2 resolves as LOST, with its alarm and the
fault latch, and an entry of the wait list leaves it and its record is freed. -/
def Obligations.ReplyTimeoutsTryAgainOrLose : Prop :=
  ∀ (s : State) (place : ContextPlace) (n : Nat) (h : Handoff) (d : Nat), s.serving = true →
    s.handoffAt place = some n → s.handoff? n = some h →
    let s1 := { s with time := max s.time d }
    let r := s.handoffRecord h
    let inc : Incident := ⟨.handoffLost, some h.frame.sourceSlot, r.tag, r.companionTag,
      .handoffLost h.frame.targetStation h.frame.targetSlot h.frame.seq⟩
    (h.status = .pending .first (some d) →
      Leaves (.replyTimeout place) s (s1.setStatus n (.pending .second none)) [.handoff h.frame])
    ∧ (h.status = .pending .second (some d) → (∀ e ∈ s.waitList, e.handoff ≠ n) →
      Leaves (.replyTimeout place) s
        (({ s1 with faultLatch := true }.captureAlarm inc).setStatus n (.resolved .lost)) [s.reportOf inc])
    ∧ (h.status = .pending .second (some d) → ∀ before e after, s.waitList = before ++ e :: after →
      e.handoff = n → (∀ x ∈ before, x.handoff ≠ n) →
      Leaves (.replyTimeout place) s
        ((({ s1 with faultLatch := true, waitList := before ++ after }.captureAlarm inc).dropHandoff n).freeRecord
          e.record) [s.reportOf inc])

/-! ### Timers of the crest unit, the hold unit and the port (chapters 6 to 8) -/

/-- RELEASE_INTERVAL_END, SILENCE_DEADLINE, MUTE_RETRY_EXPIRY and PERIOD_TIMER_EXPIRY of timers that run
(R124, R132, R136, R151): the interval ends; a PRESENT entry falls SILENT, and the signal shows STOP; the
retry timer leaves one attempt pending (log 9); a HOLD_STATE with the mask is offered and the period timer
restarts. -/
def Obligations.NodeTimersDoTheirWork : Prop :=
  ∀ (s : State) (d : Nat),
    (s.releaseInterval = some d →
      Leaves .releaseIntervalEnd s { s with time := max s.time d, releaseInterval := none } [])
    ∧ (∀ n e, s.rosterEntry? n = some e → e.presence = .present → e.lastHeard = some d →
      Leaves (.silenceDeadline n) s
        { s with
          time := max s.time (d + 3000)
          roster := s.roster.map (fun x => if x.station = n then { x with presence := .silent } else x) } []
      ∧ ∃ t, exec (.silenceDeadline n) s = .next t ∧ t.signal = .stop)
    ∧ (s.port.retry = .running d →
      Leaves .muteRetryExpiry s
        { s with time := max s.time d, port := { s.port with retry := .attemptPending } } [])
    ∧ (s.serving = true → s.periodTimer = some d →
      ∃ t, exec .periodTimerExpiry s = .next t
        ∧ t.apartFromReports = { s with time := max s.time d }.apartFromReports
        ∧ t.periodTimer = some (t.time + 1000)
        ∧ (s.hasRoom 1 →
            t.apartFromFrames = { s with time := max s.time d }.apartFromFrames
            ∧ t.holdsFrame (.holdState t.holdMask .inService)))

/-- An expiry of a timer that does not run changes nothing, nor does FRAME_SENT without an attempt (R28, R49,
R52, R68, R81, R82, R90, R124, R132, R136, R150, R151: no such event happens then; log 5, the model's). -/
def Obligations.StoppedTimersDoNotExpire : Prop :=
  ∀ s : State,
    (∀ k i, (∀ p, (s.slot k).zone[i]? = some p → p.gapRunning = false) → Leaves (.gapExpiry k i) s s [])
    ∧ (∀ k i, (∀ p, (s.slot k).zone[i]? = some p → p.stallTimer = none) → Leaves (.stallExpiry k i) s s [])
    ∧ (∀ k, (s.slot k).ghostTimer = none → Leaves (.ghostExpiry k) s s [])
    ∧ (∀ k seq, (∀ r ∈ (s.slot k).queue, s.queuedSeq r ≠ seq) → Leaves (.overdueExpiry k seq) s s [])
    ∧ (∀ k, (s.slot k).isMoving = false →
        Leaves (.throwDeadline k) s s [] ∧ Leaves (.pauseEnd k) s s [])
    ∧ (∀ k target n d, (s.slot k).point = .moving ⟨target, n, d, .driving⟩ → Leaves (.pauseEnd k) s s [])
    ∧ (∀ k target n d, (s.slot k).point = .moving ⟨target, n, d, .pausing⟩ →
        Leaves (.throwDeadline k) s s [])
    ∧ (∀ place, s.handoffAt place = none → Leaves (.replyTimeout place) s s [])
    ∧ (∀ place n h a, s.handoffAt place = some n → s.handoff? n = some h → h.status = .pending a none →
        Leaves (.replyTimeout place) s s [])
    ∧ (s.releaseInterval = none → Leaves .releaseIntervalEnd s s [])
    ∧ (s.periodTimer = none → Leaves .periodTimerExpiry s s [])
    ∧ (∀ n, (∀ e, s.rosterEntry? n = some e → e.presence ≠ .present) → Leaves (.silenceDeadline n) s s [])
    ∧ ((∀ d, s.port.retry ≠ .running d) → Leaves .muteRetryExpiry s s [])
    ∧ (s.port.sending = none → Leaves .frameSent s s [])

/-! ### The bus port (chapter 8) -/

/-- TRANSMIT_ATTEMPT, ARBITRATION_LOST and TRANSMIT_ERROR at a node whose mask is formed (R144, R148, R150,
R151): the head goes on the bus, in ACTIVE at each idle bus and in MUTE while an attempt is pending; lost
arbitration keeps the frame and the count; an error adds one to the count, and the sixteenth brings MUTE; in
MUTE either end starts the retry timer again. An idle bus that starts nothing gives the port its footing (log
8), which a transmit error leaves (log 28); in MUTE the expiry of the retry timer leaves the attempt pending (log
9); an attempt while one is under way or outside service begins none, and without an attempt none loses or fails
(log 5): these are the model's. -/
def Obligations.AttemptsBeginAndFailAsTheRulesSay : Prop :=
  ∀ s : State, s.formMask = s.holdMask →
    let p := s.port
    let off := p.queue.map (fun e => { e with onBus := false, replaced := false })
    let gives (c : Instr) (p' : Port) : Prop :=
      ∃ t, exec c s = .next t ∧ t.port = p' ∧ t.apartFromFrames = { s with port := p' }.apartFromFrames
    (∀ e rest, s.serving = true → p.queue = e :: rest → p.sending = none →
      (p.mode = .active → p.retry = .stopped →
        gives .transmitAttempt { p with
          queue := { e with onBus := true, replaced := false } :: rest
          sending := some e.frame
          seenIdle := true })
      ∧ (p.mode = .mute → p.retry = .attemptPending →
        gives .transmitAttempt { p with
          queue := { e with onBus := true, replaced := false } :: rest
          sending := some e.frame
          retry := .stopped
          seenIdle := true }))
    ∧ (s.serving = true →
        (p.queue = [] ∨ p.sending ≠ none ∨ p.mode = .mute ∧ p.retry ≠ .attemptPending) →
        gives .transmitAttempt { p with seenIdle := true })
    ∧ (s.serving = false → gives .transmitAttempt p)
    ∧ (∀ f, p.sending = some f →
        (p.mode = .active →
          gives .arbitrationLost { p with queue := off, sending := none }
          ∧ (p.failures + 1 < 16 →
            gives .transmitError { p with queue := off, sending := none, failures := p.failures + 1 })
          ∧ (p.failures + 1 = 16 →
            gives .transmitError { p with
              queue := off
              sending := none
              failures := 16
              mode := .mute
              retry := .running (s.time + 2000) }))
        ∧ (p.mode = .mute →
          gives .arbitrationLost { p with queue := off, sending := none, retry := .running (s.time + 2000) }
          ∧ gives .transmitError { p with queue := off, sending := none, retry := .running (s.time + 2000) }))
    ∧ (p.sending = none → gives .arbitrationLost p ∧ gives .transmitError p)

/-- FRAME_SENT at a node whose mask is formed (R90, R148, R150, R151, R168): the port is ACTIVE with count 0;
the frame leaves the queue, unless it is a HOLD_STATE that was replaced, which stays to be sent again; a
HANDOFF starts the reply timer of its PENDING context, and a START is noted as sent. -/
def Obligations.FrameSentTellsTheOwner : Prop :=
  ∀ (s : State) (f : OutFrame) (e : TxEntry) (before after : List TxEntry), s.formMask = s.holdMask →
    s.port.sending = some f → s.port.queue = before ++ e :: after → e.onBus = true →
    (∀ x ∈ before ++ after, x.onBus = false ∧ x.replaced = false) →
    let kept := if e.replaced = true then before ++ { e with onBus := false, replaced := false } :: after
      else before ++ after
    let p : Port := { s.port with queue := kept, sending := none, failures := 0, mode := .active, retry := .stopped }
    let gives (u : State) : Prop :=
      ∃ t, exec .frameSent s = .next t ∧ t.port = p ∧ t.apartFromFrames = { u with port := p }.apartFromFrames
    (f.kind = .start → gives { s with startSent := true })
    ∧ (f.kind = .handoff → ∀ n, e.owner = some n →
        (∀ h a timer, s.handoff? n = some h → h.status = .pending a timer →
          gives (s.setStatus n (.pending a (some (s.time + s.cfg.handoffTimeout)))))
        ∧ ((∀ h, s.handoff? n = some h → ∃ o, h.status = .resolved o) → gives s))
    ∧ (f.kind ≠ .start → f.kind ≠ .handoff → gives s)

/-- BUS_IDLE, FRAME_DISCARDED and FRAME_NOT_TAKEN (R135, R142, R143, R146): an idle bus gives the port its
footing once the image has passed; a discarded frame leaves no trace, and one that could not be read costs
the footing (log 8); a valid frame that no block takes only refreshes the roster of a crest node. -/
def Obligations.FramesNotTakenLeaveNoTrace : Prop :=
  ∀ s : State,
    (s.nodeState = .census ∨ s.nodeState = .inService →
      Leaves .busIdle s { s with port := { s.port with seenIdle := true } } [])
    ∧ (s.nodeState ≠ .census → s.nodeState ≠ .inService → Leaves .busIdle s s [])
    ∧ (∀ bits reason, judge bits = .discarded reason →
        (reason.unreadable = true → (s.nodeState = .census ∨ s.nodeState = .inService) →
          Leaves (.frameDiscarded bits) s { s with port := { s.port with seenIdle := false } } [])
        ∧ (reason.unreadable = false ∨ s.nodeState ≠ .census ∧ s.nodeState ≠ .inService → Leaves (.frameDiscarded bits) s s []))
    ∧ (∀ origin : Station,
        (s.nodeState = .inService → s.port.seenIdle = true → s.cfg.role = .crest →
          Leaves (.frameNotTaken origin) s
            { s with roster := s.roster.map (fun x => if x.station = origin.toNat then
                { x with presence := .present, lastHeard := some s.time } else x) } [])
        ∧ ((s.nodeState ≠ .inService ∨ s.port.seenIdle = false ∨ s.cfg.role ≠ .crest) →
          Leaves (.frameNotTaken origin) s s []))

/-- R142, R143, R145, R170: the bits of every frame, of each kind, origin and payload of the kind's length,
are read back as that frame; and bits heard are a valid frame only when they are that frame's bits, the bus
resting recessive after their end, so that a changed bit, a wrong length, kind or urgency, or a dominant end
field discards. That bits which end early are heard recessive is log 7, and that the origin is not judged, so that
the numbers 0 and 63, which no station has, are read back as well, is log 25: both are the model's. -/
def Obligations.FrameBitsAreReadBackAndNoOthersAreValid : Prop :=
  (∀ (bits : List Bool) (f : RawFrame), judge bits = .valid f →
      f.payload.length = kindLength f.kind
      ∧ (bits ++ List.replicate (frameBits f).length true).take (frameBits f).length = frameBits f)
  ∧ (∀ f : RawFrame, f.payload.length = kindLength f.kind → judge (frameBits f) = .valid f)

/-- A HANDOFF as the sender's bits carry it is heard as the HANDOFF command with the same target, source,
sequence and record contents (R88, R100, R169, section 12.2). Bits that make a valid frame are taken as that
frame (log 7, the model's). And the bits of every frame that a node builds are those of its payload, whose bytes
stand as section 12.2 lays them out, with the codes of sections 12.1 and 12.3: START, HOLD_STATE, HANDOFF,
HANDOFF_REPLY, COMMAND_REPLY, RELEASED, ARRIVAL, INCIDENT with each detail, WATCH_HIT and STATUS. (An OVERDUE
detail without a feed sequence, which no queued record gives, is left out.) -/
def Obligations.FramesCarryTheirFieldsInTheirPlaces : Prop :=
  (∀ (c : NodeConfig) (f : HandoffFrame), f.targetStation ≤ 62 → f.targetSlot ≤ 3 →
    f.contents.destination ≤ 63 → f.contents.expectedAxles ≤ 250 → f.contents.cutClass ≤ 3 →
    (∀ d, f.contents.originalDestination = some d → 1 ≤ d ∧ d ≤ 63) →
    (∀ x, f.contents.companion = some x → x.tag ≠ 0 ∧ x.destination ≤ 63) →
    (f.contents.flags.translated = f.contents.originalDestination.isSome) →
    (f.contents.flags.merged = f.contents.companion.isSome) →
    ∃ p : HandoffPayload,
      (∀ s, exec (.frameDiscarded (sentBits c (.handoff f))) s = exec (.handoff (BitVec.ofNat 6 c.node) p) s)
      ∧ p.target.toNat = f.targetStation ∧ p.targetSlot.toNat = f.targetSlot
      ∧ p.sourceSlot.toNat = f.sourceSlot.val ∧ p.sourceLeg = f.sourceLeg ∧ p.seq = f.seq
      ∧ payloadAcceptable p = true ∧ payloadContents p = f.contents)
  ∧ (∀ (c : NodeConfig) (f : OutFrame),
      sentBits c f = frameBits ⟨BitVec.ofNat 6 c.node, f.kind, framePayload c.yardStation f⟩)
  ∧ ((∀ row ∈ kindTable, kindCode row.1 = row.2.1 ∧ kindUrgency row.1 = row.2.2.1 ∧ kindLength row.1 = row.2.2.2)
    ∧ ∀ kind, kind ∈ kindTable.map Prod.fst)
  ∧ (∀ yard ≤ 62,
      let reads := OutFrame.reads yard
      let flagBytes (f : Flags) (misrouted : Bool) : List Nat :=
        [bitsValue (f.bits misrouted) / 256, bitsValue (f.bits misrouted) % 256]
      (∀ role n sum, n ≤ 4 →
        reads (.start role n sum) ([if role = .crest then 1 else 0, n] ++ highLow sum))
      ∧ (∀ m state, state ≠ .reset →
        reads (.holdState m state) [bitsValue m.bits, codeIn nodeStateColumn state])
      ∧ (∀ f : HandoffFrame, f.targetStation ≤ 62 → f.targetSlot ≤ 3 → f.contents.destination ≤ 63 →
        (∀ d, f.contents.originalDestination = some d → d ≤ 63) → f.contents.expectedAxles ≤ 250 →
        f.contents.cutClass ≤ 3 → (∀ x, f.contents.companion = some x → x.destination ≤ 63) →
        reads (.handoff f)
          ([f.targetStation, 16 * f.targetSlot + 2 * f.sourceSlot.val + legBit f.sourceLeg, f.seq.toNat]
            ++ highLow f.contents.tag
            ++ [f.contents.destination, trackOrZero f.contents.originalDestination, f.contents.expectedAxles,
              f.contents.cutClass]
            ++ flagBytes f.contents.flags false ++ companionOrZero f.contents.companion))
      ∧ (∀ station slot seq tag result, station ≤ 62 → slot ≤ 15 →
        reads (.handoffReply station slot seq tag result)
          ([station, slot, seq.toNat] ++ highLow tag ++ [codeIn handoffResultColumn result]))
      ∧ (∀ row ∈ kindTable, ∀ argument result,
        reads (.commandReply row.1 argument result)
          ([yard, row.2.1] ++ highLow argument ++ [codeIn commandResultColumn result]))
      ∧ (∀ tag d o cutClass f seq receipt, d ≤ 63 → (∀ x, o = some x → x ≤ 63) → cutClass ≤ 3 →
        reads (.released tag d o cutClass f seq receipt)
          ([yard] ++ highLow tag ++ [d, trackOrZero o, cutClass] ++ flagBytes f false
            ++ [seq.toNat, codeIn queueResultColumn receipt]))
      ∧ (∀ k leg track tag d o f misrouted c, track ≤ 63 → d ≤ 63 → (∀ x, o = some x → x ≤ 63) →
        (∀ x, c = some x → x.destination ≤ 63) →
        reads (.arrival k leg track tag d o f misrouted c)
          ([yard, 16 * k.val + legBit leg, track] ++ highLow tag ++ [d, trackOrZero o] ++ flagBytes f misrouted
            ++ companionOrZero c))
      ∧ (∀ (i : Incident) (captured : Bool) (bytes : List Nat), bytes.length ≤ 6 → i.detail.reads bytes →
        reads (.incident i captured)
          ([yard, codeIn incidentColumn i.kind + 1,
              128 * yesBit captured + (match i.slot with
                | none => 15
                | some k => k.val)]
            ++ highLow i.firstTag ++ highLow i.secondTag ++ bytes ++ List.replicate (6 - bytes.length) 0))
      ∧ (∀ tag k leg, reads (.watchHit tag k leg) ([yard] ++ highLow tag ++ [16 * k.val + legBit leg]))
      ∧ ∀ (m : HoldMask) (state : NodeState) (captured : Option IncidentKind) (further seconds : Nat)
          (slots : List SlotStatus), state ≠ .reset → further ≤ 255 → seconds ≤ 65535 → slots.length = 4 →
        (∀ x ∈ slots, x.queueLength ≤ 7 ∧ x.zoneCount ≤ 3) →
        reads (.status m state captured further seconds slots)
          ([yard, bitsValue m.bits,
              64 * codeIn nodeStateColumn state + (match captured with
                | none => 0
                | some kind => codeIn incidentColumn kind + 1),
              further, seconds / 256, seconds % 256]
            ++ slots.flatMap (fun x =>
              [codeIn serviceColumn x.service, 64 * pointNumber x.point + 8 * x.queueLength + x.zoneCount])))
  ∧ (Detail.empty.reads []
    ∧ (∀ seq : Seq, (Detail.unannounced (some seq)).reads [0, seq.toNat])
    ∧ (Detail.unannounced none).reads [1]
    ∧ (∀ adopted (seq : Seq), ∀ node ≤ 62,
        (Detail.lateHandoff adopted seq node).reads [yesBit adopted, seq.toNat, node])
    ∧ (∀ axles ≤ 255, ∀ expected ≤ 250, (Detail.shortCut axles expected).reads [axles, expected])
    ∧ (∀ n ≤ 255, (Detail.excess n).reads [n] ∧ (Detail.zoneOverrun n).reads [n])
    ∧ (∀ leg, (Detail.intended leg).reads [legBit leg])
    ∧ (∀ d ≤ 63, (Detail.destination d).reads [d])
    ∧ (∀ taken axle, (Detail.splitRoute taken axle).reads [legBit taken, legBit axle])
    ∧ (∀ taken point, (Detail.legMismatch taken point).reads [legBit taken, pointNumber point])
    ∧ (∀ x (d : Direction),
        (Detail.strayAxle x d).reads [0, codeIn sensorColumn x, if d = .backward then 1 else 0])
    ∧ (∀ n ≤ 255, ∀ a ≤ 255, ∀ b ≤ 255, (Detail.reconciled n a b).reads [1, n, a, b])
    ∧ (∀ x, (Detail.sensor x).reads [codeIn sensorColumn x])
    ∧ (∀ phase, ∀ n ≤ 255, ∀ m ≤ 255, (Detail.stall phase n m).reads [codeIn phaseColumn phase, n, m])
    ∧ (∀ seq : Seq, (Detail.overdue (some seq)).reads [seq.toNat])
    ∧ (∀ leg, ∀ n ≤ 255, (Detail.pointFailed leg n).reads [legBit leg, n])
    ∧ (∀ leg (phase : ThrowPhase),
        (Detail.underCut leg phase).reads [legBit leg, if phase = .pausing then 1 else 0])
    ∧ (∀ point a b, (Detail.detectionLost point a b).reads [pointNumber point, yesBit a + 2 * yesBit b])
    ∧ (∀ station ≤ 62, ∀ slot ≤ 3, ∀ seq : Seq,
        (Detail.handoffLost station slot seq).reads [station, slot, seq.toNat]
        ∧ ∀ result, (Detail.handoffRefused result station slot seq).reads
          [codeIn handoffResultColumn result, station, slot, seq.toNat])
    ∧ (∀ listEmpty (seq : Seq), (Detail.crestOverrun listEmpty seq).reads [yesBit listEmpty, seq.toNat])
    ∧ ∀ row ∈ kindTable, (Detail.overflow row.1).reads [row.2.1, row.2.2.1])

/-- R147: with room, a frame enters directly behind the last frame whose urgency number is equal to or smaller than
its own, and nothing is discarded. R148: a HOLD_STATE takes the place of the one in the queue, which keeps its
position. R149: a frame offered to a full queue takes the place of the youngest frame of the largest urgency
number, if that is larger than its own, and is otherwise itself discarded; the queue then holds sixteen frames
still. The frame on the bus is not discarded: where it stands at the end of the queue, the youngest frame of the
next largest urgency number is dealt with in its stead. (Here `v` is the youngest frame that is not on the bus,
and `tail` is the frame on the bus where it stands behind `v`.) A discard is told to the node (R92, R149): OUTQ_OVERFLOW goes to the
capture, and first (log 27, the model's); a discarded HANDOFF whose context is PENDING is followed by its second
attempt or lost. The last part is a whole event, the period timer's HOLD_STATE at a full queue (R132); the running
time comes to the timer's deadline, and the capture takes that time (log 2, the model's). -/
def Obligations.FullQueueDiscardsTheYoungestLeastUrgent : Prop :=
  (∀ (e : TxEntry) (q : List TxEntry), q.length < 16 → q.Pairwise (fun a b => a.urgency ≤ b.urgency) →
    ¬(e.isHoldState = true ∧ q.any TxEntry.isHoldState = true) →
    ∃ before after, q = before ++ after ∧ (∀ a ∈ before, a.urgency ≤ e.urgency)
      ∧ (∀ a ∈ after, e.urgency < a.urgency) ∧ enqueue e q = (before ++ e :: after, none))
  ∧ (∀ (e h : TxEntry) (before after : List TxEntry), e.isHoldState = true → h.isHoldState = true →
    (∀ a ∈ before ++ after, a.isHoldState = false) →
    enqueue e (before ++ h :: after) = (before ++ { h with frame := e.frame, replaced := h.onBus } :: after, none))
  ∧ (∀ (e v : TxEntry) (q tail : List TxEntry), (q ++ v :: tail).length = 16 →
    (q ++ v :: tail).Pairwise (fun a b => a.urgency ≤ b.urgency) → v.onBus = false →
    (∀ b ∈ tail, b.onBus = true) →
    ¬(e.isHoldState = true ∧ (q ++ v :: tail).any TxEntry.isHoldState = true) →
    (e.urgency < v.urgency →
      (enqueue e (q ++ v :: tail)).2 = some v ∧ (enqueue e (q ++ v :: tail)).1.Perm (e :: (q ++ tail))
      ∧ (enqueue e (q ++ v :: tail)).1.length = 16
      ∧ (enqueue e (q ++ v :: tail)).1.Pairwise (fun a b => a.urgency ≤ b.urgency)
      ∧ (∀ a ∈ q ++ tail, a.urgency ≤ e.urgency → [a, e].Sublist (enqueue e (q ++ v :: tail)).1))
    ∧ (v.urgency ≤ e.urgency → enqueue e (q ++ v :: tail) = (q ++ v :: tail, some e)))
  ∧ (∀ (s : State) (f : OutFrame) (owner : Option Nat) (q : List TxEntry) (d : TxEntry), s.serving = true →
    s.port.queue.Pairwise (fun a b => a.urgency ≤ b.urgency) → (d.owner ≠ none → d.frame.kind = .handoff) →
    enqueue (.offered f owner) s.port.queue = (q, some d) →
    s.offer f owner = { s with port := { s.port with queue := q } }.afterDiscard d)
  ∧ ∀ (s : State) (deadline : Nat) (v : TxEntry) (q tail : List TxEntry), s.serving = true →
    s.periodTimer = some deadline → s.port.queue = q ++ v :: tail → s.port.queue.length = 16 →
    s.port.queue.Pairwise (fun a b => a.urgency ≤ b.urgency) → v.onBus = false → (∀ b ∈ tail, b.onBus = true) →
    s.port.queue.any TxEntry.isHoldState = false → 0 < v.urgency → (v.owner ≠ none → v.frame.kind = .handoff) →
    ∃ t, exec .periodTimerExpiry s = .next t
      ∧ t.apartFromFrames = ({ s with time := max s.time deadline }.afterDiscard v).apartFromFrames
      ∧ (t.port.queue.map TxEntry.frame).Perm (.holdState t.holdMask .inService :: (q ++ tail).map TxEntry.frame)
      ∧ (s.capture = none → t.capture = some ⟨overflowOf v.frame.kind, t.time⟩)
      ∧ (∀ n h a timer, v.owner = some n → s.handoff? n = some h → h.status = .pending a timer →
          t.faultLatch = true ∧ t.isPending n = false)

/-! ### Frames between nodes (chapters 2, 5 and 7) -/

/-- R98, R135, R142, R146: outside service, or before the port has its footing, no frame is taken; the
node's own frames, frames to other stations, and commands from another station than the yard computer only
refresh the roster. -/
def Obligations.FramesToOthersAreNotTaken : Prop :=
  ∀ (c : Instr) (s : State) (origin : Station), frameOrigin c = some origin →
    (s.nodeState ≠ .inService ∨ s.port.seenIdle = false → Leaves c s s [])
    ∧ (s.nodeState = .inService → s.port.seenIdle = true →
        (origin.toNat = s.cfg.node
          ∨ (∃ target, frameTarget c = some target ∧ target.toNat ≠ s.cfg.node)
          ∨ isYardCommand c = true ∧ origin.toNat ≠ s.cfg.yardStation) →
        Leaves c s (s.refreshed origin) [])

/-- START at the slots and at the roster (R31, R33, R138, R168): each slot fed by the sender frees its queued
records and becomes UNSYNCED with an empty recent list, its zone list untouched; no START empties the queue
that the crest feeds, with feed node 0; at the crest node the sender's entry is refreshed and, if it was heard before, marked restarted with mask zero. HOLD_STATE (R133,
R137): at the crest node the sender's entry is refreshed and takes the mask, bit by bit as section 12.3
places the reasons; at a tree node it has no effect. -/
def Obligations.StartAndHoldStateActOnQueuesAndRoster : Prop :=
  (∀ (s : State) (origin : Station) (role slotCount : Byte) (sum : BitVec 16), s.hears origin →
      let fed (k : SlotIx) : Prop := (s.slot k).service ≠ .off ∧ (s.slotCfg k).feedNode = origin.toNat
        ∧ (s.slotCfg k).feedNode ≠ 0
      ∃ t, exec (.start origin role slotCount sum) s = .next t
        ∧ (∀ k, fed k → (t.slot k).apartFromTimer
            = { s.slot k with expected := none, queue := [], recent := [] }.apartFromTimer)
        ∧ (∀ k, ¬fed k → (t.slot k).apartFromTimer = (s.slot k).apartFromTimer)
        ∧ (PoolLaw s → ∀ k, fed k → ∀ r ∈ (s.slot k).queue, t.record r = Record.blank ∧ r ∈ t.free)
        ∧ t.roster = (if s.cfg.role = .crest then
            s.roster.map (fun x => if x.station = origin.toNat then
              (if x.presence = .unheard then { x with presence := .present, lastHeard := some s.time }
               else { x with
                 presence := .present, lastHeard := some s.time, restarted := true, lastMask := {} })
              else x)
            else s.roster)
        ∧ t.apartFromReports = { s with slots := t.slots, roster := t.roster }.apartFromReports)
  ∧ (∀ (s : State) (origin : Station) (mask nodeState : Byte), s.hears origin →
      let m : HoldMask :=
        { settling := mask.getLsbD 0
          queuePressure := mask.getLsbD 1
          stall := mask.getLsbD 2
          overdue := mask.getLsbD 3
          pointFailed := mask.getLsbD 4
          slotBlocked := mask.getLsbD 5
          handoffFault := mask.getLsbD 6
          incidentFrozen := mask.getLsbD 7 }
      (s.cfg.role = .crest →
        Leaves (.holdState origin mask nodeState) s
          { s with roster := s.roster.map (fun x => if x.station = origin.toNat then
              { x with presence := .present, lastHeard := some s.time, lastMask := m } else x) } [])
      ∧ (s.cfg.role = .tree → Leaves (.holdState origin mask nodeState) s s []))

/-- START at the handoff unit (R97): every context PENDING toward the sender returns to attempt 1 with its
timer stopped, and a copy of its frame stands in the transmit queue; the other contexts stay. -/
def Obligations.StartReturnsHandoffsToTheFirstAttempt : Prop :=
  ∀ (s : State) (origin : Station) (role slotCount : Byte) (sum : BitVec 16), s.hears origin →
    (s.handoffs.map Handoff.number).Nodup → s.hasRoom (s.handoffs.length + 1) →
    let toward (h : Handoff) : Prop :=
      h.frame.targetStation = origin.toNat ∧ ∃ a timer, h.status = .pending a timer
    ∃ t, exec (.start origin role slotCount sum) s = .next t
      ∧ t.handoffs.map Handoff.number = s.handoffs.map Handoff.number
      ∧ (∀ h ∈ s.handoffs, toward h → { h with status := .pending .first none } ∈ t.handoffs
          ∧ (∃ e ∈ t.port.queue, e.owner = some h.number)
          ∧ ((∀ e ∈ s.port.queue, e.owner ≠ some h.number) → t.holdsFrame (.handoff h.frame)))
      ∧ (∀ h ∈ s.handoffs, ¬toward h → h ∈ t.handoffs)

/-- HANDOFF that is refused (R98, R99, R101, R105, R169): an unknown feed, an OFF slot or a field out of
range; a SETTLING slot; a full queue. Nothing at the slot changes, and the reply says why. -/
def Obligations.HandoffsAreRefused : Prop :=
  ∀ (s : State) (origin : Station) (p : HandoffPayload), s.hears origin → p.target.toNat = s.cfg.node →
    let reply (r : HandoffResult) : OutFrame :=
      .handoffReply origin.toNat p.targetSlot.toNat p.seq p.tag r
    (3 < p.targetSlot.toNat ∨ ¬HandoffInRange p
        ∨ (∃ k : SlotIx, k.val = p.targetSlot.toNat ∧ ((s.slot k).service = .off ∨ ¬s.fedBy k origin p)) →
      Leaves (.handoff origin p) s (s.refreshed origin) [reply .refusedUnknownFeed])
    ∧ ∀ k : SlotIx, k.val = p.targetSlot.toNat → HandoffInRange p → s.fedBy k origin p →
      ((s.slot k).service = .settling →
        Leaves (.handoff origin p) s (s.refreshed origin) [reply .refusedNotReady])
      ∧ (∀ e, (s.slot k).service ≠ .off → (s.slot k).service ≠ .settling → (s.slot k).expected = some e →
        distance e p.seq < 128 → (∀ i ∈ (s.slot k).queue, s.queuedSeq i ≠ p.seq) →
        6 ≤ (s.slot k).queue.length →
        Leaves (.handoff origin p) s (s.refreshed origin) [reply .refusedFull])

/-- HANDOFF that is taken (R13, R21, R100, R101, R105): an UNSYNCED slot takes it and syncs on it; a SYNCED
one inserts it by its distance; a record of the pool takes its contents with feed sequence and queue timing;
a record at the front brings a throw evaluation. A sequence already queued is a duplicate, answered TAKEN
with no change. -/
def Obligations.HandoffsAreTakenIntoTheQueue : Prop :=
  ∀ (s : State) (origin : Station) (p : HandoffPayload) (k : SlotIx), s.hears origin →
    p.target.toNat = s.cfg.node → k.val = p.targetSlot.toNat → HandoffInRange p → s.fedBy k origin p →
    (s.slot k).service ≠ .off → (s.slot k).service ≠ .settling →
    let s0 := s.refreshed origin
    let reply : OutFrame := .handoffReply origin.toNat p.targetSlot.toNat p.seq p.tag .taken
    let record : Record :=
      { tag := p.tag
        destination := p.destination.toNat
        originalDestination := if p.originalDestination = 0 then none else some p.originalDestination.toNat
        expectedAxles := p.expectedAxles.toNat
        cutClass := p.cutClass.toNat
        inspect := false
        flags := Flags.ofWord p.flags
        feedSeq := some p.seq
        companion := if p.companionTag = 0 then none
          else some ⟨p.companionTag, p.companionDestination.toNat⟩
        timing := some ⟨s.time, s.time + (s.slotCfg k).overdueTime, false⟩ }
    (∀ new free, s.free = new :: free → (s.slot k).expected = none → (s.slot k).queue = [] →
      Leaves (.handoff origin p) s
        ((({ s0 with free := free }.setRecord new record).setSlot k
          { s.slot k with expected := some p.seq, queue := [new] }).evaluateThrow k) [reply])
    ∧ (∀ e new free before after, s.free = new :: free → (s.slot k).expected = some e →
      distance e p.seq < 128 → (s.slot k).queue = before ++ after → (s.slot k).queue.length < 6 →
      new ∉ (s.slot k).queue →
      (∀ i ∈ (s.slot k).queue, s.queuedSeq i ≠ p.seq) →
      (∀ i ∈ before, distance e (s.queuedSeq i) < distance e p.seq) →
      (∀ i ∈ after.head?, distance e p.seq < distance e (s.queuedSeq i)) →
      let taken := ({ s0 with free := free }.setRecord new record).setSlot k
        { s.slot k with queue := before ++ new :: after }
      Leaves (.handoff origin p) s (if before = [] then taken.evaluateThrow k else taken) [reply])
    ∧ (∀ e, (s.slot k).expected = some e → distance e p.seq < 128 →
      (∃ i ∈ (s.slot k).queue, s.queuedSeq i = p.seq) →
      Leaves (.handoff origin p) s s0 [reply])

/-- HANDOFF that stands behind (R85, R102 to R105): a resend is answered TAKEN with no change; an anonymous
entry whose passage has no exit axle yet is adopted; any other is LATE. Both raise LATE_HANDOFF. (The
countdown of a COMMITTED passage at an adoption is log 13; that the older passage is meant where two hold the
sequence is log 24: both are the model's.) -/
def Obligations.BehindHandoffsAreResendsAdoptedOrLate : Prop :=
  ∀ (s : State) (origin : Station) (p : HandoffPayload) (k : SlotIx) (e : Seq), s.hears origin →
    p.target.toNat = s.cfg.node → k.val = p.targetSlot.toNat → HandoffInRange p → s.fedBy k origin p →
    (s.slot k).service ≠ .off → (s.slot k).service ≠ .settling → (s.slot k).expected = some e →
    128 ≤ distance e p.seq →
    let s0 := s.refreshed origin
    let reply (r : HandoffResult) : OutFrame :=
      .handoffReply origin.toNat p.targetSlot.toNat p.seq p.tag r
    let contents : CutContents :=
      { tag := p.tag
        destination := p.destination.toNat
        originalDestination := if p.originalDestination = 0 then none else some p.originalDestination.toNat
        expectedAxles := p.expectedAxles.toNat
        cutClass := p.cutClass.toNat
        flags := Flags.ofWord p.flags
        companion := if p.companionTag = 0 then none
          else some ⟨p.companionTag, p.companionDestination.toNat⟩ }
    let entry := (s.slot k).recent.find? (fun x => x.seq == p.seq)
    let passage := s.adopter (s.slot k).zone p.seq
    let late (adopted : Bool) : Incident :=
      ⟨.lateHandoff, some k, p.tag, 0, .lateHandoff adopted p.seq origin.toNat⟩
    (entry = some ⟨p.seq, .announced, p.tag⟩ → Leaves (.handoff origin p) s s0 [reply .taken])
    ∧ (entry = none ∨ (∃ tag, tag ≠ p.tag ∧ entry = some ⟨p.seq, .announced, tag⟩)
        ∨ (∃ tag, entry = some ⟨p.seq, .anonymous, tag⟩
          ∧ (passage = none
            ∨ ∃ i q, passage = some i ∧ (s.slot k).zone[i]? = some q ∧ q.taken ≠ none)) →
      Leaves (.handoff origin p) s (s0.captureAlarm (late false)) [s.reportOf (late false), reply .late])
    ∧ (∀ tag i q, entry = some ⟨p.seq, .anonymous, tag⟩ → passage = some i →
      (s.slot k).zone[i]? = some q → q.taken = none →
      Leaves (.handoff origin p) s ((s0.afterAdoption k i q p.seq contents).captureAlarm (late true))
        (s.adoptionNotices k q p.seq contents ++ [s.reportOf (late true), reply .lateAdopted]))

/-- HANDOFF_REPLY (R93 to R95, R129, R169): the first PENDING context that matches in four points resolves
with the result; in the wait list the entry leaves and its record is freed; a refusing result raises
HANDOFF_REFUSED and sets the fault latch. A reply that matches none, or has no result of the table, is
ignored. -/
def Obligations.HandoffRepliesResolveTheirContext : Prop :=
  ∀ (s : State) (origin : Station) (p : ReplyPayload), s.hears origin → p.target.toNat = s.cfg.node →
    let s0 := s.refreshed origin
    ((5 < p.result.toNat ∨ ∀ h ∈ s.handoffs, ¬h.answeredBy origin p) →
      Leaves (.handoffReply origin p) s s0 [])
    ∧ ∀ (before after : List Handoff) (h : Handoff) (result : HandoffResult),
      s.handoffs = before ++ h :: after → (∀ x ∈ before, ¬x.answeredBy origin p) → h.answeredBy origin p →
      (s.handoffs.map Handoff.number).Nodup → handoffResultCode result = p.result.toNat →
      let r := s.handoffRecord h
      let inc : Incident := ⟨.handoffRefused, some h.frame.sourceSlot, r.tag, r.companionTag,
        .handoffRefused result h.frame.targetStation h.frame.targetSlot h.frame.seq⟩
      let refusing := result = .refusedFull ∨ result = .refusedNotReady ∨ result = .refusedUnknownFeed
      ((∀ x ∈ s.waitList, x.handoff ≠ h.number) →
        (¬refusing → Leaves (.handoffReply origin p) s
          (s0.setStatus h.number (.resolved (.answered result))) [])
        ∧ (refusing → Leaves (.handoffReply origin p) s
          (({ s0 with faultLatch := true }.captureAlarm inc).setStatus h.number (.resolved (.answered result)))
          [s.reportOf inc]))
      ∧ ∀ (first : List WaitEntry) (x : WaitEntry) (rest : List WaitEntry),
        s.waitList = first ++ x :: rest → x.handoff = h.number → (∀ y ∈ first, y.handoff ≠ h.number) →
        (¬refusing → Leaves (.handoffReply origin p) s
          (({ s0 with waitList := first ++ rest }.dropHandoff h.number).freeRecord x.record) [])
        ∧ (refusing → Leaves (.handoffReply origin p) s
          ((({ s0 with faultLatch := true, waitList := first ++ rest }.captureAlarm inc).dropHandoff
            h.number).freeRecord x.record) [s.reportOf inc])

/-! ### Commands of the yard computer (chapters 2, 3, 6, 7 and 9) -/

/-- CUT_ENTRY at a crest node (R13, R108, R109, R160, R169): the checks in their order give the result; an
accepted entry takes a record of the pool with the five fields of the frame to the tail of the cut list, and
a refused one changes nothing. -/
def Obligations.CutEntryIsCheckedAndAppended : Prop :=
  ∀ (s : State) (origin : Station) (p : CutEntryPayload), s.takesCommand origin p.target →
    s.cfg.role = .crest →
    let s0 := s.refreshed origin
    let reply := replyFrame .cutEntry p.tag
    let c := s.slotCfg 0
    let result : CommandResult :=
      if p.tag = 0 then .refusedValue
      else if p.destination.toNat < c.reachFirst ∨ c.reachLast < p.destination.toNat then .refusedValue
      else if p.expectedAxles.toNat < 2 ∨ 250 < p.expectedAxles.toNat then .refusedValue
      else if 3 < p.cutClass.toNat ∨ 1 < p.inspect.toNat then .refusedValue
      else if ∃ i ∈ s.cutList, (s.record i).tag = p.tag then .refusedDuplicate
      else if 24 ≤ s.cutList.length then .refusedFull
      else .done
    (result ≠ .done → Leaves (.cutEntry origin p) s s0 [reply result])
    ∧ (result = .done → ∀ r free, s.free = r :: free →
        Leaves (.cutEntry origin p) s
          ({ s0 with free := free, cutList := s.cutList ++ [r] }.setRecord r
            { tag := p.tag
              destination := p.destination.toNat
              originalDestination := none
              expectedAxles := p.expectedAxles.toNat
              cutClass := p.cutClass.toNat
              inspect := decide (p.inspect = 1)
              flags := {}
              feedSeq := none
              companion := none
              timing := none }) [reply .done])

/-- ENTRY_WITHDRAW, LIST_CLEAR and RELEASE_ONE at a crest node (R14, R110 to R112, R160): the record with
the tag leaves the list and is freed; every record is freed, head first; the head with the tag loses its
inspect hold. A tag that is not there is answered REFUSED_STATE and changes nothing (for RELEASE_ONE
of tag 0 this is log 26, the model's). -/
def Obligations.CutListCommandsDoWhatTheirRulesSay : Prop :=
  ∀ (s : State) (origin : Station) (target : Byte), s.takesCommand origin target → s.cfg.role = .crest →
    let s0 := s.refreshed origin
    (∀ tag before r after, s.cutList = before ++ r :: after → (s.record r).tag = tag → tag ≠ 0 →
      (∀ i ∈ before, (s.record i).tag ≠ tag) →
      Leaves (.entryWithdraw origin target tag) s
        ({ s0 with cutList := before ++ after }.freeRecord r) [replyFrame .entryWithdraw tag .done])
    ∧ (∀ tag, tag = 0 ∨ (∀ i ∈ s.cutList, (s.record i).tag ≠ tag) →
      Leaves (.entryWithdraw origin target tag) s s0 [replyFrame .entryWithdraw tag .refusedState])
    ∧ (∃ t, exec (.listClear origin target) s = .next t ∧ t.cutList = []
      ∧ t.signal = .stop ∧ t.apartFromReports = { s0 with cutList := [] }.apartFromReports
      ∧ (s.free ++ s.cutList).IsPrefix t.free ∧ (∀ i ∈ s.cutList, t.record i = Record.blank)
      ∧ (s.hasRoom 2 → t.free = s.free ++ s.cutList ∧ t.holdsFrame (replyFrame .listClear 0 .done)
        ∧ (∀ i, t.record i = if i ∈ s.cutList then Record.blank else s.record i)))
    ∧ (∀ tag r rest, s.cutList = r :: rest → (s.record r).tag = tag →
      Leaves (.releaseOne origin target tag) s (s0.setRecord r { s.record r with inspect := false })
        [replyFrame .releaseOne tag .done])
    ∧ (∀ tag, (∀ r ∈ s.cutList.head?, (s.record r).tag ≠ tag) →
      Leaves (.releaseOne origin target tag) s s0 [replyFrame .releaseOne tag .refusedState])

/-- TRACK_CLOSE, TRACK_OPEN and RESTART_ACK at a crest node (R113 to R115, R139, R160): the checks, the
replaced or added entry, the full table, and the removed entry; a restarted entry of the roster is cleared,
one that is not restarted is REFUSED_STATE, and a station not in the roster (here named as `track`) is
REFUSED_VALUE. -/
def Obligations.ClosureAndRestartCommandsChangeTheirTables : Prop :=
  ∀ (s : State) (origin : Station) (target track substitute : Byte), s.takesCommand origin target →
    s.cfg.role = .crest →
    let s0 := s.refreshed origin
    let n := track.toNat
    let m := substitute.toNat
    let c := s.slotCfg 0
    let closed (a : Nat) : Prop := a ∈ s.closures.map Closure.track
    let bad := ¬(c.reachFirst ≤ n ∧ n ≤ c.reachLast) ∨ ¬(c.reachFirst ≤ m ∧ m ≤ c.reachLast)
      ∨ n = s.cfg.rejectTrack ∨ m = n ∨ closed m
    let close (u : State) (r : CommandResult) : Prop :=
      Leaves (.trackClose origin target track substitute) s u
        [replyFrame .trackClose (track.setWidth 16) r]
    let opens (u : State) (r : CommandResult) : Prop :=
      Leaves (.trackOpen origin target track) s u [replyFrame .trackOpen (track.setWidth 16) r]
    let acknowledges (u : State) (r : CommandResult) : Prop :=
      Leaves (.restartAck origin target track) s u [replyFrame .restartAck (track.setWidth 16) r]
    (bad → close s0 .refusedValue)
    ∧ (¬bad → closed n →
        close { s0 with closures := s.closures.map (fun x => if x.track = n then ⟨n, m⟩ else x) } .done)
    ∧ (¬bad → ¬closed n → s.closures.length < 8 →
        close { s0 with closures := s.closures ++ [⟨n, m⟩] } .done)
    ∧ (¬bad → ¬closed n → 8 ≤ s.closures.length → close s0 .refusedFull)
    ∧ (1 ≤ n → n ≤ 63 → closed n →
        opens { s0 with closures := s.closures.filter (fun x => decide (x.track ≠ n)) } .done)
    ∧ (1 ≤ n → n ≤ 63 → ¬closed n → opens s0 .refusedState)
    ∧ ((∀ e ∈ s.roster, e.station ≠ n) → acknowledges s0 .refusedValue)
    ∧ (∀ e, s.rosterEntry? n = some e → e.restarted = false → acknowledges s0 .refusedState)
    ∧ (∀ e, s.rosterEntry? n = some e → e.restarted = true →
        acknowledges { s0 with roster := s0.roster.map (fun x => if x.station = n then
          { x with restarted := false } else x) } .done)

/-- SLOT_BLOCK and SLOT_FREE at a slot that is not OFF (R40, R53, R56, R57, R160). -/
def Obligations.SlotCommandsBlockAndFree : Prop :=
  ∀ (s : State) (origin : Station) (target slot : Byte) (k : SlotIx), s.takesCommand origin target →
    k.val = slot.toNat → (s.slot k).service ≠ .off →
    let s0 := s.refreshed origin
    let x := s.slot k
    let block (u : State) (r : CommandResult) : Prop :=
      Leaves (.slotBlock origin target slot) s u [replyFrame .slotBlock (slot.setWidth 16) r]
    let frees (u : State) (r : CommandResult) : Prop :=
      Leaves (.slotFree origin target slot) s u [replyFrame .slotFree (slot.setWidth 16) r]
    let free := (x.service = .failed ∨ x.service = .blocked) ∧ x.zone = [] ∧ x.foulingOccupied = false
    let y : Slot := { x with
      service := .inUse
      point := pointShownBy x.provedNormal x.provedReverse
      driveNormal := false
      driveReverse := false }
    (x.service = .inUse ∨ x.service = .failed → block (s0.setSlot k (x.takenOut .blocked)) .done)
    ∧ (x.service = .settling ∨ x.service = .blocked → block s0 .refusedState)
    ∧ (free → y.point ≠ .unproved → frees ((s0.setSlot k y).evaluateThrow k) .done)
    ∧ (free → y.point = .unproved →
        (∀ r ∈ x.queue.head?, frees (s0.setSlot k (y.thrownToward
          ((s.slotCfg k).wantedLeg (s.record r).destination) (s.slotCfg k).retries
          (s.time + (s.slotCfg k).throwLimit))) .done)
        ∧ (x.queue = [] → frees (s0.setSlot k (y.thrownToward .normal (s.slotCfg k).retries
          (s.time + (s.slotCfg k).throwLimit))) .done))
    ∧ (¬free → frees s0 .refusedState)

/-- SLOT_FLUSH at a slot that is not OFF (R14, R30, R84, R160): the queue is emptied, its records freed, and
the slot is UNSYNCED with an empty recent list; with the circuit clear every passage is freed as well, and
its handoff context discarded. -/
def Obligations.SlotFlushEmptiesTheSlot : Prop :=
  ∀ (s : State) (origin : Station) (target slot : Byte) (k : SlotIx), s.takesCommand origin target →
    k.val = slot.toNat → (s.slot k).service ≠ .off →
    let s0 := s.refreshed origin
    let x := s.slot k
    let zone := if x.foulingOccupied = true then x.zone else []
    let freed := x.queue ++ (if x.foulingOccupied = true then [] else x.zone.map Passage.record)
    let dropped := if x.foulingOccupied = true then [] else x.sentNumbers
    ∃ t, exec (.slotFlush origin target slot) s = .next t
      ∧ t.apartFromReports
        = (s0.setSlot k { x with expected := none, queue := [], recent := [], zone := zone }).apartFromReports
      ∧ (s.hasRoom 2 →
          t.holdsFrame (replyFrame .slotFlush (slot.setWidth 16) .done)
          ∧ t.free = s.free ++ freed
          ∧ (∀ i, t.record i = if i ∈ freed then Record.blank else s.record i)
          ∧ t.handoffs = s.handoffs.filter (fun h => decide (h.number ∉ dropped))
          ∧ t.waitList = s.waitList ∧ t.faultLatch = s.faultLatch ∧ t.capture = s.capture)

/-- INCIDENT_CLEAR, WATCH_SET, WATCH_CLEAR and STATUS_QUERY (R129, R155, R157, R160, R161): the capture, its
count and the fault latch are cleared; the watch table takes and loses tags; one STATUS frame tells the node
as it stands. -/
def Obligations.IncidentUnitCommandsDoWhatTheirRulesSay : Prop :=
  ∀ (s : State) (origin : Station) (target : Byte), s.takesCommand origin target →
    let s0 := s.refreshed origin
    let slot (k : SlotIx) : SlotStatus :=
      if (s.slot k).service = .off then ⟨.off, .unproved, 0, 0⟩
      else ⟨(s.slot k).service, (s.slot k).point, (s.slot k).queue.length, (s.slot k).zone.length⟩
    Leaves (.statusQuery origin target) s s0
      [.status s.holdMask .inService
        (match s.capture with
          | none => none
          | some c => some c.incident.kind)
        s.furtherAlarms
        (match s.capture with
          | none => 0
          | some c => min 65535 (c.time / 1000))
        [slot 0, slot 1, slot 2, slot 3]]
    ∧ Leaves (.incidentClear origin target) s
      { s0 with capture := none, furtherAlarms := 0, faultLatch := false }
      [replyFrame .incidentClear 0 .done]
    ∧ (s.hasRoom 2 → ∃ t, exec (.incidentClear origin target) s = .next t
        ∧ t.holdMask.handoffFault = false ∧ t.holdMask.incidentFrozen = false
        ∧ (t.faultLine = true ↔ ∃ k, (t.slot k).service = .failed))
    ∧ ∀ tag : Tag,
      (tag = 0 → Leaves (.watchSet origin target tag) s s0 [replyFrame .watchSet tag .refusedValue])
      ∧ (tag ≠ 0 → tag ∈ s.watches →
        Leaves (.watchSet origin target tag) s s0 [replyFrame .watchSet tag .done])
      ∧ (tag ≠ 0 → tag ∉ s.watches → 4 ≤ s.watches.length →
        Leaves (.watchSet origin target tag) s s0 [replyFrame .watchSet tag .refusedFull])
      ∧ (tag ≠ 0 → tag ∉ s.watches → s.watches.length < 4 →
        Leaves (.watchSet origin target tag) s { s0 with watches := s.watches ++ [tag] }
          [replyFrame .watchSet tag .done])
      ∧ (tag ∈ s.watches →
        Leaves (.watchClear origin target tag) s { s0 with watches := s.watches.erase tag }
          [replyFrame .watchClear tag .done])
      ∧ (tag ∉ s.watches →
        Leaves (.watchClear origin target tag) s s0 [replyFrame .watchClear tag .refusedState])

/-- R159, R160: a crest-only command at a tree node is answered REFUSED_ROLE, and a slot command whose slot
is above 3 or OFF is answered REFUSED_VALUE; so is a TRACK_OPEN outside 1 to 63 (log 14, the model's
reading of R169). None changes anything. -/
def Obligations.RoleAndSlotArgumentsAreChecked : Prop :=
  ∀ (s : State) (origin : Station) (target : Byte), s.takesCommand origin target →
    let s0 := s.refreshed origin
    (s.cfg.role = .tree →
      (∀ p : CutEntryPayload, p.target = target →
        Leaves (.cutEntry origin p) s s0 [replyFrame .cutEntry p.tag .refusedRole])
      ∧ (∀ tag, Leaves (.entryWithdraw origin target tag) s s0 [replyFrame .entryWithdraw tag .refusedRole])
      ∧ Leaves (.listClear origin target) s s0 [replyFrame .listClear 0 .refusedRole]
      ∧ (∀ tag, Leaves (.releaseOne origin target tag) s s0 [replyFrame .releaseOne tag .refusedRole])
      ∧ (∀ n m : Byte, Leaves (.trackClose origin target n m) s s0
          [replyFrame .trackClose (n.setWidth 16) .refusedRole])
      ∧ (∀ n : Byte, Leaves (.trackOpen origin target n) s s0
          [replyFrame .trackOpen (n.setWidth 16) .refusedRole])
      ∧ (∀ n : Byte, Leaves (.restartAck origin target n) s s0
          [replyFrame .restartAck (n.setWidth 16) .refusedRole]))
    ∧ (∀ slot : Byte, (∀ k : SlotIx, k.val = slot.toNat → (s.slot k).service = .off) →
      Leaves (.slotBlock origin target slot) s s0 [replyFrame .slotBlock (slot.setWidth 16) .refusedValue]
      ∧ Leaves (.slotFree origin target slot) s s0 [replyFrame .slotFree (slot.setWidth 16) .refusedValue]
      ∧ Leaves (.slotFlush origin target slot) s s0 [replyFrame .slotFlush (slot.setWidth 16) .refusedValue])
    ∧ (∀ n : Byte, s.cfg.role = .crest → n.toNat < 1 ∨ 63 < n.toNat →
      Leaves (.trackOpen origin target n) s s0 [replyFrame .trackOpen (n.setWidth 16) .refusedValue])

/-! ### The crest sensor (chapter 6) -/

/-- CREST_AXLE counted in CREST_RELEASING (R117, R123, R124), and one that the node does not read: the
countdown falls by one; at 0 the release completes, and the class-pair entry of the completed class and the
head's class, or the completed class itself, gives the release interval. -/
def Obligations.CrestAxlesCountTheReleaseDown : Prop :=
  ∀ s : State,
    (s.nodeState ≠ .inService ∨ s.cfg.role = .tree → Leaves .crestAxle s s [])
    ∧ ∀ c : CrestConfig, s.nodeState = .inService → s.cfg.role = .crest → s.cfg.crest = some c →
      s.crestPassage.phase = .releasing →
      let class' := match s.cutList with
        | [] => s.crestPassage.cutClass
        | r :: _ => (s.record r).cutClass
      let entry := c.intervals.getD (4 * s.crestPassage.cutClass + class') 0
      (∀ n, s.crestPassage.countdown = n + 2 →
        Leaves .crestAxle s { s with crestPassage := { s.crestPassage with countdown := n + 1 } } [])
      ∧ (s.crestPassage.countdown ≤ 1 →
        Leaves .crestAxle s
          { s with
            crestPassage := { s.crestPassage with phase := .idle, countdown := 0 }
            releaseInterval := if entry = 0 then none else some (s.time + 100 * entry) } [])

/-- CREST_AXLE that releases the head of the cut list (R116, R118, R120 to R122): the head leaves the list,
translated by the closure table, with OVERRUN and its alarm if the signal showed STOP; it takes the release
counter's value; the crest passage is loaded; a RELEASED frame reports it. Slot 0 decides by the receiver's rules,
with each of its results: it queues the record, for which point control evaluates if it is the new head, finds a
duplicate or a resend, adopts it, is LATE, or refuses it. A refusal raises HANDOFF_REFUSED and sets the fault latch.
A record that slot 0 has not inserted is freed. Two cases are written out: the record at the tail of the queue, and a
slot 0 fed from elsewhere. (Logs 13 and 24, the model's, stand behind two details of an adoption.) -/
def Obligations.CrestAxleReleasesTheHead : Prop :=
  ∀ (s : State) (r : RecIx) (rest : List RecIx), s.nodeState = .inService → s.cfg.role = .crest →
    s.crestPassage.phase = .idle → s.cutList = r :: rest →
    let entered := s.record r
    let overrun := decide (s.signal = .stop)
    let translated : Record := match s.closures.find? (fun c => c.track == entered.destination) with
      | none => entered
      | some c => { entered.flagged { translated := true } with
          destination := if c.substitute ∈ s.closures.map Closure.track then s.cfg.rejectTrack
            else c.substitute
          originalDestination := some entered.destination }
    let released : Record := { translated.flagged { overrun := overrun } with
      inspect := false, feedSeq := some s.releaseCounter }
    let frame (x : Receipt) : OutFrame := .released released.tag released.destination
      released.originalDestination released.cutClass released.flags s.releaseCounter x
    let inc : Incident := ⟨.crestOverrun, none, entered.tag, 0, .crestOverrun false s.releaseCounter⟩
    let out : State := { (if overrun then s.captureAlarm inc else s).setRecord r released with
      cutList := rest
      releaseCounter := s.releaseCounter + 1
      crestPassage := ⟨.releasing, entered.expectedAxles - 1, entered.cutClass⟩ }
    out.DecidesRelease r s.releaseCounter (fun x u sends =>
      Leaves .crestAxle s (u.afterReceipt r x)
        ((if overrun then [s.reportOf inc] else []) ++ sends ++ [frame x]))
    ∧ ∃ t, exec .crestAxle s = .next t
      ∧ t.cutList = rest ∧ t.releaseCounter = s.releaseCounter + 1
      ∧ t.crestPassage = ⟨.releasing, entered.expectedAxles - 1, entered.cutClass⟩
      ∧ t.releaseInterval = s.releaseInterval ∧ t.closures = s.closures ∧ t.roster = s.roster
      ∧ t.config = s.config ∧ t.watches = s.watches ∧ t.time = s.time
      ∧ (∀ k, k ≠ 0 → (t.slot k).apartFromTimer = (s.slot k).apartFromTimer)
      ∧ (s.signal = .stop → s.capture = none → t.capture = some ⟨inc, s.time⟩)
      ∧ ((s.slotCfg 0).feedNode = 0 → (s.slot 0).service ≠ .off → (s.slot 0).service ≠ .settling →
          (s.slot 0).queue.length < 6 →
          ((s.slot 0).expected = none ∧ (s.slot 0).queue = []
            ∨ ∃ e, (s.slot 0).expected = some e ∧ distance e s.releaseCounter < 128
                ∧ ∀ i ∈ (s.slot 0).queue, distance e (s.queuedSeq i) < distance e s.releaseCounter) →
          r ∉ (s.slot 0).queue →
          (t.slot 0).queue = (s.slot 0).queue ++ [r]
          ∧ (t.slot 0).expected = some ((s.slot 0).expected.getD s.releaseCounter)
          ∧ (t.slot 0).zone = (s.slot 0).zone ∧ (t.slot 0).recent = (s.slot 0).recent
          ∧ (PoolLaw s → t.record r = { released with
              timing := some ⟨s.time, s.time + (s.slotCfg 0).overdueTime, false⟩ })
          ∧ (s.hasRoom 3 → t.holdsFrame (frame .queued)))
      ∧ ((s.slotCfg 0).feedNode ≠ 0 →
          (t.slot 0).apartFromTimer = (s.slot 0).apartFromTimer ∧ t.faultLatch = true
          ∧ (PoolLaw s → t.record r = Record.blank ∧ r ∈ t.free)
          ∧ (s.hasRoom 4 → t.holdsFrame (frame .refusedUnknownFeed)))

/-- CREST_AXLE with the cut list empty under STOP (R119, R120 to R124): an anonymous record is released with
OVERRUN and its alarm, and the release completes at once with class 0. Slot 0 decides as on a release of a head.
The case of a record at the tail of its queue is written out. (Logs 13 and 24, the model's, stand behind two details
of an adoption.) -/
def Obligations.CrestAxleReleasesAnAnonymousRecord : Prop :=
  ∀ (s : State) (c : CrestConfig) (r : RecIx) (free : List RecIx), s.nodeState = .inService →
    s.cfg.role = .crest → s.cfg.crest = some c → s.crestPassage.phase = .idle → s.cutList = [] →
    s.signal = .stop → s.free = r :: free → s.record r = Record.blank →
    let entry := c.intervals.getD 0 0
    let inc : Incident := ⟨.crestOverrun, none, 0, 0, .crestOverrun true s.releaseCounter⟩
    let frame (x : Receipt) : OutFrame := .released 0 0 none 0 { overrun := true } s.releaseCounter x
    let released : Record := { Record.blank with flags := { overrun := true }, feedSeq := some s.releaseCounter }
    let out : State := { (s.captureAlarm inc).setRecord r released with
      free := free
      releaseCounter := s.releaseCounter + 1
      crestPassage := ⟨.idle, 0, 0⟩
      releaseInterval := if entry = 0 then none else some (s.time + 100 * entry) }
    out.DecidesRelease r s.releaseCounter (fun x u sends =>
      Leaves .crestAxle s (u.afterReceipt r x) (s.reportOf inc :: sends ++ [frame x]))
    ∧ ((s.slotCfg 0).feedNode = 0 → (s.slot 0).service ≠ .off → (s.slot 0).service ≠ .settling →
      (s.slot 0).queue.length < 6 → r ∉ (s.slot 0).queue →
      ((s.slot 0).expected = none ∧ (s.slot 0).queue = []
        ∨ ∃ e, (s.slot 0).expected = some e ∧ distance e s.releaseCounter < 128
            ∧ ∀ i ∈ (s.slot 0).queue, distance e (s.queuedSeq i) < distance e s.releaseCounter) →
      ∃ t, exec .crestAxle s = .next t
        ∧ t.cutList = [] ∧ t.releaseCounter = s.releaseCounter + 1
        ∧ t.crestPassage = ⟨.idle, 0, 0⟩
        ∧ t.releaseInterval = (if entry = 0 then none else some (s.time + 100 * entry))
        ∧ (t.slot 0).queue = (s.slot 0).queue ++ [r]
        ∧ (t.slot 0).expected = some ((s.slot 0).expected.getD s.releaseCounter)
        ∧ (∀ k, k ≠ 0 → (t.slot k).apartFromTimer = (s.slot k).apartFromTimer)
        ∧ (PoolLaw s → t.record r = { released with
            timing := some ⟨s.time, s.time + (s.slotCfg 0).overdueTime, false⟩ })
        ∧ (s.capture = none → t.capture = some ⟨inc, s.time⟩)
        ∧ (s.hasRoom 3 → t.holdsFrame (s.reportOf inc) ∧ t.holdsFrame (frame .queued)))

/-! ### What follows every command, and the laws of every run -/

/-- R125, R127, R128, R131, R156: the mask is zero and the lines are off at reset; after every command the
hold mask holds exactly the reasons whose conditions hold, a changed mask has restarted the period timer and
stands in a HOLD_STATE of the transmit queue, be the queue full or not, and the signal and the fault line are as
the conditions decide. -/
def Obligations.MaskAndLinesFollowEveryCommand : Prop :=
  (State.reset.holdMask = {} ∧ State.reset.faultLine = false ∧ State.reset.signal = .stop
    ∧ Aspect.stop.lines = (false, false) ∧ Aspect.slow.lines = (true, false) ∧ Aspect.push.lines = (true, true))
  ∧ ∀ (c : Instr) (s t : State), exec c s = .next t →
    (t.holdMask.settling = true ↔ ∃ k, (t.slot k).service = .settling)
    ∧ (t.holdMask.queuePressure = true ↔ ∃ k, (t.slot k).service ≠ .off
        ∧ (t.slotCfg k).pressureThreshold ≤ (t.slot k).queue.length)
    ∧ (t.holdMask.stall = true ↔ ∃ k, ∃ p ∈ (t.slot k).zone, p.stalled = true)
    ∧ (t.holdMask.overdue = true ↔ ∃ k, ∃ i ∈ (t.slot k).queue,
        ∃ timing, (t.record i).timing = some timing ∧ timing.marked = true)
    ∧ (t.holdMask.pointFailed = true ↔ ∃ k, (t.slot k).service = .failed)
    ∧ (t.holdMask.slotBlocked = true ↔ ∃ k, (t.slot k).service = .blocked)
    ∧ (t.holdMask.handoffFault = true ↔ t.faultLatch = true)
    ∧ (t.holdMask.incidentFrozen = true ↔ t.capture ≠ none ∧ t.cfg.holdOnIncident = true)
    ∧ (s.nodeState = .inService → t.nodeState = .inService → t.holdMask ≠ s.holdMask →
        t.periodTimer = some (t.time + 1000))
    ∧ (TransmitLaw s → s.nodeState = .inService → t.nodeState = .inService → t.holdMask ≠ s.holdMask →
        t.holdsFrame (.holdState t.holdMask .inService))
    ∧ (t.signal ≠ .stop ↔ t.nodeState = .inService ∧ t.cfg.role = .crest
        ∧ (∀ e ∈ t.roster, e.presence = .present ∧ e.restarted = false ∧ e.lastMask = {})
        ∧ t.holdMask = {} ∧ ∃ r rest, t.cutList = r :: rest ∧ (t.record r).inspect = false)
    ∧ (t.signal = .slow → t.releaseInterval ≠ none) ∧ (t.signal = .push → t.releaseInterval = none)
    ∧ (t.faultLine = true ↔ t.capture ≠ none ∨ (∃ k, (t.slot k).service = .failed)
        ∨ t.nodeState = .configFault)

/-- R1, R12, R14 (tier 3): every step keeps each of the 64 records in exactly one place, and the records of the
free list blank. -/
def Obligations.EveryStepConservesThePool : Prop :=
  ∀ s t : State, PoolLaw s → step s = .next t → PoolLaw t ∧ (BlankLaw s → BlankLaw t)

/-- R20, R21 (tier 3): every step keeps each approach queue in ascending distance, within 0 to 127. -/
def Obligations.EveryStepKeepsTheQueueOrder : Prop :=
  ∀ s t : State, PoolLaw s → QueueLaw s → OrderLaw s → step s = .next t → OrderLaw t

/-- R95, R96 (tier 3): every step keeps the wait list at most eight long, each entry with a PENDING
handoff. -/
def Obligations.EveryStepKeepsTheWaitList : Prop :=
  ∀ s t : State, WaitLaw s → step s = .next t → WaitLaw t

/-- R39, R40 (tier 3): every step keeps the drive law: no drive over an occupied circuit or outside IN_USE,
and never both outputs. -/
def Obligations.EveryStepKeepsTheDriveLaw : Prop :=
  ∀ s t : State, DriveLaw s → step s = .next t → DriveLaw t

/-- R131, R147 to R149 (tier 3): every step keeps the transmit queue in order, within sixteen frames, with at
most one START and at most one HOLD_STATE, which carries the mask as it stands. -/
def Obligations.EveryStepKeepsTheTransmitQueue : Prop :=
  ∀ s t : State, TransmitLaw s → step s = .next t → TransmitLaw t

/-- R18, R20, R23, R61 (tier 3): every step keeps the zone lists, approach queues and recent lists within
their capacities, and no passage with more axles out than in. -/
def Obligations.EveryStepKeepsTheSlotCapacities : Prop :=
  ∀ s t : State, ZoneLaw s → QueueLaw s → step s = .next t → ZoneLaw t ∧ QueueLaw t

/-- R108, R113, R141, R151, R154, R157: every step keeps the cut list, the closure table, the watch table,
the capture's count and the failure count within their laws; the cut list's tags stay distinct where each record
stands in one place. An empty capture takes an alarm with the running time, its count staying 0; an occupied one
keeps its alarm and counts one more, up to 255. No command but RESET and an accepted INCIDENT_CLEAR, which may also
come as the bits of FRAME_DISCARDED (log 7, the model's), empties or replaces an occupied capture or lowers its
count. -/
def Obligations.EveryStepKeepsTheTables : Prop :=
  (∀ s t : State, step s = .next t →
    (PoolLaw s → CutListLaw s → CutListLaw t) ∧ (ClosureLaw s → ClosureLaw t) ∧ (WatchLaw s → WatchLaw t)
    ∧ (CaptureLaw s → CaptureLaw t) ∧ (PortLaw s → PortLaw t))
  ∧ (∀ (s : State) (inc : Incident),
    (s.capture = none → s.captureAlarm inc = { s with capture := some ⟨inc, s.time⟩ }
      ∧ (CaptureLaw s → (s.captureAlarm inc).furtherAlarms = 0))
    ∧ ∀ x, s.capture = some x → s.captureAlarm inc = { s with furtherAlarms := min 255 (s.furtherAlarms + 1) })
  ∧ ∀ (c : Instr) (s t : State) (x : Captured), exec c s = .next t → s.capture = some x →
    (t.capture = some x ∧ (CaptureLaw s → s.furtherAlarms ≤ t.furtherAlarms))
    ∨ c = .reset
    ∨ ∃ origin target, s.takesCommand origin target ∧ exec c s = exec (.incidentClear origin target) s
        ∧ (c = .incidentClear origin target ∨ ∃ bits, c = .frameDiscarded bits)

/-- The state after reset keeps every law (tier 1). -/
def Obligations.ResetKeepsEveryLaw : Prop :=
  PoolLaw State.reset ∧ BlankLaw State.reset ∧ QueueLaw State.reset ∧ OrderLaw State.reset
  ∧ ZoneLaw State.reset ∧ WaitLaw State.reset ∧ DriveLaw State.reset ∧ TransmitLaw State.reset
  ∧ CutListLaw State.reset ∧ ClosureLaw State.reset ∧ WatchLaw State.reset ∧ CaptureLaw State.reset
  ∧ PortLaw State.reset
end

