-- ==== Sys2Proof/Laws/State.lean ====
section
/-! SUPPORT. One lemma for each field and each update of State: what the update leaves is read through it,
and what it writes is read back. -/

namespace Sys2Proof.Machine

/-! ### What an update writes -/

@[simp] theorem State.slot_setSlot (s : State) (k : SlotIx) (x : Slot) : (s.setSlot k x).slot k = x := by
  simp [State.slot, State.setSlot]

@[simp] theorem State.slot_setSlot_of_ne (s : State) (k j : SlotIx) (x : Slot) (h : j ≠ k) :
    (s.setSlot k x).slot j = s.slot j := by
  simp only [State.slot, State.setSlot]
  exact Vector.getElem_set_ne k.isLt j.isLt (fun e => h (Fin.ext e.symm))

theorem State.slot_setSlot_eq_ite (s : State) (k j : SlotIx) (x : Slot) :
    (s.setSlot k x).slot j = if j = k then x else s.slot j := by
  by_cases h : j = k
  · subst h; simp
  · simp [h]

@[simp] theorem State.record_setRecord (s : State) (i : RecIx) (r : Record) : (s.setRecord i r).record i = r := by
  simp [State.record, State.setRecord]

@[simp] theorem State.record_setRecord_of_ne (s : State) (i j : RecIx) (r : Record) (h : j ≠ i) :
    (s.setRecord i r).record j = s.record j := by
  simp only [State.record, State.setRecord]
  exact Vector.getElem_set_ne i.isLt j.isLt (fun e => h (Fin.ext e.symm))

theorem State.record_setRecord_eq_ite (s : State) (i j : RecIx) (r : Record) :
    (s.setRecord i r).record j = if j = i then r else s.record j := by
  by_cases h : j = i
  · subst h; simp
  · simp [h]

@[simp] theorem State.setSlot_self (s : State) (k : SlotIx) : s.setSlot k (s.slot k) = s := by
  simp [State.setSlot, State.slot]

@[simp] theorem State.setSlot_setSlot (s : State) (k : SlotIx) (x y : Slot) :
    (s.setSlot k x).setSlot k y = s.setSlot k y := by
  simp [State.setSlot]

@[simp] theorem State.free_freeRecord (s : State) (i : RecIx) : (s.freeRecord i).free = s.free ++ [i] := rfl

@[simp] theorem State.port_setQueue (s : State) (q : List TxEntry) :
    (s.setQueue q).port = { s.port with queue := q } := rfl

@[simp] theorem State.port_setPort (s : State) (p : Port) : (s.setPort p).port = p := rfl

@[simp] theorem State.time_reach (s : State) (d : Nat) : (s.reach d).time = max s.time d := rfl

@[simp] theorem State.pending_putFront (s : State) (c : Instr) : (s.putFront c).pending = c :: s.pending := rfl

@[simp] theorem State.signal_setLines (s : State) : s.setLines.signal = s.decideSignal := rfl

@[simp] theorem State.faultLine_setLines (s : State) : s.setLines.faultLine = s.decideFaultLine := rfl

/-! ### What an update leaves -/

@[simp] theorem State.nodeState_setSlot (s : State) (k : SlotIx) (x : Slot) : (s.setSlot k x).nodeState = s.nodeState := rfl
@[simp] theorem State.time_setSlot (s : State) (k : SlotIx) (x : Slot) : (s.setSlot k x).time = s.time := rfl
@[simp] theorem State.censusStart_setSlot (s : State) (k : SlotIx) (x : Slot) : (s.setSlot k x).censusStart = s.censusStart := rfl
@[simp] theorem State.config_setSlot (s : State) (k : SlotIx) (x : Slot) : (s.setSlot k x).config = s.config := rfl
@[simp] theorem State.startSent_setSlot (s : State) (k : SlotIx) (x : Slot) : (s.setSlot k x).startSent = s.startSent := rfl
@[simp] theorem State.records_setSlot (s : State) (k : SlotIx) (x : Slot) : (s.setSlot k x).records = s.records := rfl
@[simp] theorem State.free_setSlot (s : State) (k : SlotIx) (x : Slot) : (s.setSlot k x).free = s.free := rfl
@[simp] theorem State.handoffs_setSlot (s : State) (k : SlotIx) (x : Slot) : (s.setSlot k x).handoffs = s.handoffs := rfl
@[simp] theorem State.nextHandoff_setSlot (s : State) (k : SlotIx) (x : Slot) : (s.setSlot k x).nextHandoff = s.nextHandoff := rfl
@[simp] theorem State.waitList_setSlot (s : State) (k : SlotIx) (x : Slot) : (s.setSlot k x).waitList = s.waitList := rfl
@[simp] theorem State.faultLatch_setSlot (s : State) (k : SlotIx) (x : Slot) : (s.setSlot k x).faultLatch = s.faultLatch := rfl
@[simp] theorem State.holdMask_setSlot (s : State) (k : SlotIx) (x : Slot) : (s.setSlot k x).holdMask = s.holdMask := rfl
@[simp] theorem State.periodTimer_setSlot (s : State) (k : SlotIx) (x : Slot) : (s.setSlot k x).periodTimer = s.periodTimer := rfl
@[simp] theorem State.cutList_setSlot (s : State) (k : SlotIx) (x : Slot) : (s.setSlot k x).cutList = s.cutList := rfl
@[simp] theorem State.closures_setSlot (s : State) (k : SlotIx) (x : Slot) : (s.setSlot k x).closures = s.closures := rfl
@[simp] theorem State.releaseCounter_setSlot (s : State) (k : SlotIx) (x : Slot) : (s.setSlot k x).releaseCounter = s.releaseCounter := rfl
@[simp] theorem State.crestPassage_setSlot (s : State) (k : SlotIx) (x : Slot) : (s.setSlot k x).crestPassage = s.crestPassage := rfl
@[simp] theorem State.releaseInterval_setSlot (s : State) (k : SlotIx) (x : Slot) : (s.setSlot k x).releaseInterval = s.releaseInterval := rfl
@[simp] theorem State.signal_setSlot (s : State) (k : SlotIx) (x : Slot) : (s.setSlot k x).signal = s.signal := rfl
@[simp] theorem State.roster_setSlot (s : State) (k : SlotIx) (x : Slot) : (s.setSlot k x).roster = s.roster := rfl
@[simp] theorem State.capture_setSlot (s : State) (k : SlotIx) (x : Slot) : (s.setSlot k x).capture = s.capture := rfl
@[simp] theorem State.furtherAlarms_setSlot (s : State) (k : SlotIx) (x : Slot) : (s.setSlot k x).furtherAlarms = s.furtherAlarms := rfl
@[simp] theorem State.watches_setSlot (s : State) (k : SlotIx) (x : Slot) : (s.setSlot k x).watches = s.watches := rfl
@[simp] theorem State.faultLine_setSlot (s : State) (k : SlotIx) (x : Slot) : (s.setSlot k x).faultLine = s.faultLine := rfl
@[simp] theorem State.port_setSlot (s : State) (k : SlotIx) (x : Slot) : (s.setSlot k x).port = s.port := rfl
@[simp] theorem State.pending_setSlot (s : State) (k : SlotIx) (x : Slot) : (s.setSlot k x).pending = s.pending := rfl
@[simp] theorem State.record_setSlot (s : State) (k : SlotIx) (x : Slot) (j : RecIx) : (s.setSlot k x).record j = s.record j := rfl
@[simp] theorem State.cfg_setSlot (s : State) (k : SlotIx) (x : Slot) : (s.setSlot k x).cfg = s.cfg := rfl
@[simp] theorem State.slotCfg_setSlot (s : State) (k : SlotIx) (x : Slot) (j : SlotIx) : (s.setSlot k x).slotCfg j = s.slotCfg j := rfl
@[simp] theorem State.serving_setSlot (s : State) (k : SlotIx) (x : Slot) : (s.setSlot k x).serving = s.serving := rfl

@[simp] theorem State.nodeState_setRecord (s : State) (i : RecIx) (r : Record) : (s.setRecord i r).nodeState = s.nodeState := rfl
@[simp] theorem State.time_setRecord (s : State) (i : RecIx) (r : Record) : (s.setRecord i r).time = s.time := rfl
@[simp] theorem State.censusStart_setRecord (s : State) (i : RecIx) (r : Record) : (s.setRecord i r).censusStart = s.censusStart := rfl
@[simp] theorem State.config_setRecord (s : State) (i : RecIx) (r : Record) : (s.setRecord i r).config = s.config := rfl
@[simp] theorem State.startSent_setRecord (s : State) (i : RecIx) (r : Record) : (s.setRecord i r).startSent = s.startSent := rfl
@[simp] theorem State.free_setRecord (s : State) (i : RecIx) (r : Record) : (s.setRecord i r).free = s.free := rfl
@[simp] theorem State.slots_setRecord (s : State) (i : RecIx) (r : Record) : (s.setRecord i r).slots = s.slots := rfl
@[simp] theorem State.handoffs_setRecord (s : State) (i : RecIx) (r : Record) : (s.setRecord i r).handoffs = s.handoffs := rfl
@[simp] theorem State.nextHandoff_setRecord (s : State) (i : RecIx) (r : Record) : (s.setRecord i r).nextHandoff = s.nextHandoff := rfl
@[simp] theorem State.waitList_setRecord (s : State) (i : RecIx) (r : Record) : (s.setRecord i r).waitList = s.waitList := rfl
@[simp] theorem State.faultLatch_setRecord (s : State) (i : RecIx) (r : Record) : (s.setRecord i r).faultLatch = s.faultLatch := rfl
@[simp] theorem State.holdMask_setRecord (s : State) (i : RecIx) (r : Record) : (s.setRecord i r).holdMask = s.holdMask := rfl
@[simp] theorem State.periodTimer_setRecord (s : State) (i : RecIx) (r : Record) : (s.setRecord i r).periodTimer = s.periodTimer := rfl
@[simp] theorem State.cutList_setRecord (s : State) (i : RecIx) (r : Record) : (s.setRecord i r).cutList = s.cutList := rfl
@[simp] theorem State.closures_setRecord (s : State) (i : RecIx) (r : Record) : (s.setRecord i r).closures = s.closures := rfl
@[simp] theorem State.releaseCounter_setRecord (s : State) (i : RecIx) (r : Record) : (s.setRecord i r).releaseCounter = s.releaseCounter := rfl
@[simp] theorem State.crestPassage_setRecord (s : State) (i : RecIx) (r : Record) : (s.setRecord i r).crestPassage = s.crestPassage := rfl
@[simp] theorem State.releaseInterval_setRecord (s : State) (i : RecIx) (r : Record) : (s.setRecord i r).releaseInterval = s.releaseInterval := rfl
@[simp] theorem State.signal_setRecord (s : State) (i : RecIx) (r : Record) : (s.setRecord i r).signal = s.signal := rfl
@[simp] theorem State.roster_setRecord (s : State) (i : RecIx) (r : Record) : (s.setRecord i r).roster = s.roster := rfl
@[simp] theorem State.capture_setRecord (s : State) (i : RecIx) (r : Record) : (s.setRecord i r).capture = s.capture := rfl
@[simp] theorem State.furtherAlarms_setRecord (s : State) (i : RecIx) (r : Record) : (s.setRecord i r).furtherAlarms = s.furtherAlarms := rfl
@[simp] theorem State.watches_setRecord (s : State) (i : RecIx) (r : Record) : (s.setRecord i r).watches = s.watches := rfl
@[simp] theorem State.faultLine_setRecord (s : State) (i : RecIx) (r : Record) : (s.setRecord i r).faultLine = s.faultLine := rfl
@[simp] theorem State.port_setRecord (s : State) (i : RecIx) (r : Record) : (s.setRecord i r).port = s.port := rfl
@[simp] theorem State.pending_setRecord (s : State) (i : RecIx) (r : Record) : (s.setRecord i r).pending = s.pending := rfl
@[simp] theorem State.slot_setRecord (s : State) (i : RecIx) (r : Record) (j : SlotIx) : (s.setRecord i r).slot j = s.slot j := rfl
@[simp] theorem State.cfg_setRecord (s : State) (i : RecIx) (r : Record) : (s.setRecord i r).cfg = s.cfg := rfl
@[simp] theorem State.slotCfg_setRecord (s : State) (i : RecIx) (r : Record) (j : SlotIx) : (s.setRecord i r).slotCfg j = s.slotCfg j := rfl
@[simp] theorem State.serving_setRecord (s : State) (i : RecIx) (r : Record) : (s.setRecord i r).serving = s.serving := rfl

@[simp] theorem State.nodeState_addFlags (s : State) (i : RecIx) (f : Flags) : (s.addFlags i f).nodeState = s.nodeState := rfl
@[simp] theorem State.time_addFlags (s : State) (i : RecIx) (f : Flags) : (s.addFlags i f).time = s.time := rfl
@[simp] theorem State.censusStart_addFlags (s : State) (i : RecIx) (f : Flags) : (s.addFlags i f).censusStart = s.censusStart := rfl
@[simp] theorem State.config_addFlags (s : State) (i : RecIx) (f : Flags) : (s.addFlags i f).config = s.config := rfl
@[simp] theorem State.startSent_addFlags (s : State) (i : RecIx) (f : Flags) : (s.addFlags i f).startSent = s.startSent := rfl
@[simp] theorem State.free_addFlags (s : State) (i : RecIx) (f : Flags) : (s.addFlags i f).free = s.free := rfl
@[simp] theorem State.slots_addFlags (s : State) (i : RecIx) (f : Flags) : (s.addFlags i f).slots = s.slots := rfl
@[simp] theorem State.handoffs_addFlags (s : State) (i : RecIx) (f : Flags) : (s.addFlags i f).handoffs = s.handoffs := rfl
@[simp] theorem State.nextHandoff_addFlags (s : State) (i : RecIx) (f : Flags) : (s.addFlags i f).nextHandoff = s.nextHandoff := rfl
@[simp] theorem State.waitList_addFlags (s : State) (i : RecIx) (f : Flags) : (s.addFlags i f).waitList = s.waitList := rfl
@[simp] theorem State.faultLatch_addFlags (s : State) (i : RecIx) (f : Flags) : (s.addFlags i f).faultLatch = s.faultLatch := rfl
@[simp] theorem State.holdMask_addFlags (s : State) (i : RecIx) (f : Flags) : (s.addFlags i f).holdMask = s.holdMask := rfl
@[simp] theorem State.periodTimer_addFlags (s : State) (i : RecIx) (f : Flags) : (s.addFlags i f).periodTimer = s.periodTimer := rfl
@[simp] theorem State.cutList_addFlags (s : State) (i : RecIx) (f : Flags) : (s.addFlags i f).cutList = s.cutList := rfl
@[simp] theorem State.closures_addFlags (s : State) (i : RecIx) (f : Flags) : (s.addFlags i f).closures = s.closures := rfl
@[simp] theorem State.releaseCounter_addFlags (s : State) (i : RecIx) (f : Flags) : (s.addFlags i f).releaseCounter = s.releaseCounter := rfl
@[simp] theorem State.crestPassage_addFlags (s : State) (i : RecIx) (f : Flags) : (s.addFlags i f).crestPassage = s.crestPassage := rfl
@[simp] theorem State.releaseInterval_addFlags (s : State) (i : RecIx) (f : Flags) : (s.addFlags i f).releaseInterval = s.releaseInterval := rfl
@[simp] theorem State.signal_addFlags (s : State) (i : RecIx) (f : Flags) : (s.addFlags i f).signal = s.signal := rfl
@[simp] theorem State.roster_addFlags (s : State) (i : RecIx) (f : Flags) : (s.addFlags i f).roster = s.roster := rfl
@[simp] theorem State.capture_addFlags (s : State) (i : RecIx) (f : Flags) : (s.addFlags i f).capture = s.capture := rfl
@[simp] theorem State.furtherAlarms_addFlags (s : State) (i : RecIx) (f : Flags) : (s.addFlags i f).furtherAlarms = s.furtherAlarms := rfl
@[simp] theorem State.watches_addFlags (s : State) (i : RecIx) (f : Flags) : (s.addFlags i f).watches = s.watches := rfl
@[simp] theorem State.faultLine_addFlags (s : State) (i : RecIx) (f : Flags) : (s.addFlags i f).faultLine = s.faultLine := rfl
@[simp] theorem State.port_addFlags (s : State) (i : RecIx) (f : Flags) : (s.addFlags i f).port = s.port := rfl
@[simp] theorem State.pending_addFlags (s : State) (i : RecIx) (f : Flags) : (s.addFlags i f).pending = s.pending := rfl
@[simp] theorem State.slot_addFlags (s : State) (i : RecIx) (f : Flags) (j : SlotIx) : (s.addFlags i f).slot j = s.slot j := rfl
@[simp] theorem State.cfg_addFlags (s : State) (i : RecIx) (f : Flags) : (s.addFlags i f).cfg = s.cfg := rfl
@[simp] theorem State.slotCfg_addFlags (s : State) (i : RecIx) (f : Flags) (j : SlotIx) : (s.addFlags i f).slotCfg j = s.slotCfg j := rfl
@[simp] theorem State.serving_addFlags (s : State) (i : RecIx) (f : Flags) : (s.addFlags i f).serving = s.serving := rfl

@[simp] theorem State.nodeState_freeRecord (s : State) (i : RecIx) : (s.freeRecord i).nodeState = s.nodeState := rfl
@[simp] theorem State.time_freeRecord (s : State) (i : RecIx) : (s.freeRecord i).time = s.time := rfl
@[simp] theorem State.censusStart_freeRecord (s : State) (i : RecIx) : (s.freeRecord i).censusStart = s.censusStart := rfl
@[simp] theorem State.config_freeRecord (s : State) (i : RecIx) : (s.freeRecord i).config = s.config := rfl
@[simp] theorem State.startSent_freeRecord (s : State) (i : RecIx) : (s.freeRecord i).startSent = s.startSent := rfl
@[simp] theorem State.slots_freeRecord (s : State) (i : RecIx) : (s.freeRecord i).slots = s.slots := rfl
@[simp] theorem State.handoffs_freeRecord (s : State) (i : RecIx) : (s.freeRecord i).handoffs = s.handoffs := rfl
@[simp] theorem State.nextHandoff_freeRecord (s : State) (i : RecIx) : (s.freeRecord i).nextHandoff = s.nextHandoff := rfl
@[simp] theorem State.waitList_freeRecord (s : State) (i : RecIx) : (s.freeRecord i).waitList = s.waitList := rfl
@[simp] theorem State.faultLatch_freeRecord (s : State) (i : RecIx) : (s.freeRecord i).faultLatch = s.faultLatch := rfl
@[simp] theorem State.holdMask_freeRecord (s : State) (i : RecIx) : (s.freeRecord i).holdMask = s.holdMask := rfl
@[simp] theorem State.periodTimer_freeRecord (s : State) (i : RecIx) : (s.freeRecord i).periodTimer = s.periodTimer := rfl
@[simp] theorem State.cutList_freeRecord (s : State) (i : RecIx) : (s.freeRecord i).cutList = s.cutList := rfl
@[simp] theorem State.closures_freeRecord (s : State) (i : RecIx) : (s.freeRecord i).closures = s.closures := rfl
@[simp] theorem State.releaseCounter_freeRecord (s : State) (i : RecIx) : (s.freeRecord i).releaseCounter = s.releaseCounter := rfl
@[simp] theorem State.crestPassage_freeRecord (s : State) (i : RecIx) : (s.freeRecord i).crestPassage = s.crestPassage := rfl
@[simp] theorem State.releaseInterval_freeRecord (s : State) (i : RecIx) : (s.freeRecord i).releaseInterval = s.releaseInterval := rfl
@[simp] theorem State.signal_freeRecord (s : State) (i : RecIx) : (s.freeRecord i).signal = s.signal := rfl
@[simp] theorem State.roster_freeRecord (s : State) (i : RecIx) : (s.freeRecord i).roster = s.roster := rfl
@[simp] theorem State.capture_freeRecord (s : State) (i : RecIx) : (s.freeRecord i).capture = s.capture := rfl
@[simp] theorem State.furtherAlarms_freeRecord (s : State) (i : RecIx) : (s.freeRecord i).furtherAlarms = s.furtherAlarms := rfl
@[simp] theorem State.watches_freeRecord (s : State) (i : RecIx) : (s.freeRecord i).watches = s.watches := rfl
@[simp] theorem State.faultLine_freeRecord (s : State) (i : RecIx) : (s.freeRecord i).faultLine = s.faultLine := rfl
@[simp] theorem State.port_freeRecord (s : State) (i : RecIx) : (s.freeRecord i).port = s.port := rfl
@[simp] theorem State.pending_freeRecord (s : State) (i : RecIx) : (s.freeRecord i).pending = s.pending := rfl
@[simp] theorem State.slot_freeRecord (s : State) (i : RecIx) (j : SlotIx) : (s.freeRecord i).slot j = s.slot j := rfl
@[simp] theorem State.cfg_freeRecord (s : State) (i : RecIx) : (s.freeRecord i).cfg = s.cfg := rfl
@[simp] theorem State.slotCfg_freeRecord (s : State) (i : RecIx) (j : SlotIx) : (s.freeRecord i).slotCfg j = s.slotCfg j := rfl
@[simp] theorem State.serving_freeRecord (s : State) (i : RecIx) : (s.freeRecord i).serving = s.serving := rfl

@[simp] theorem State.nodeState_setQueue (s : State) (q : List TxEntry) : (s.setQueue q).nodeState = s.nodeState := rfl
@[simp] theorem State.time_setQueue (s : State) (q : List TxEntry) : (s.setQueue q).time = s.time := rfl
@[simp] theorem State.censusStart_setQueue (s : State) (q : List TxEntry) : (s.setQueue q).censusStart = s.censusStart := rfl
@[simp] theorem State.config_setQueue (s : State) (q : List TxEntry) : (s.setQueue q).config = s.config := rfl
@[simp] theorem State.startSent_setQueue (s : State) (q : List TxEntry) : (s.setQueue q).startSent = s.startSent := rfl
@[simp] theorem State.records_setQueue (s : State) (q : List TxEntry) : (s.setQueue q).records = s.records := rfl
@[simp] theorem State.free_setQueue (s : State) (q : List TxEntry) : (s.setQueue q).free = s.free := rfl
@[simp] theorem State.slots_setQueue (s : State) (q : List TxEntry) : (s.setQueue q).slots = s.slots := rfl
@[simp] theorem State.handoffs_setQueue (s : State) (q : List TxEntry) : (s.setQueue q).handoffs = s.handoffs := rfl
@[simp] theorem State.nextHandoff_setQueue (s : State) (q : List TxEntry) : (s.setQueue q).nextHandoff = s.nextHandoff := rfl
@[simp] theorem State.waitList_setQueue (s : State) (q : List TxEntry) : (s.setQueue q).waitList = s.waitList := rfl
@[simp] theorem State.faultLatch_setQueue (s : State) (q : List TxEntry) : (s.setQueue q).faultLatch = s.faultLatch := rfl
@[simp] theorem State.holdMask_setQueue (s : State) (q : List TxEntry) : (s.setQueue q).holdMask = s.holdMask := rfl
@[simp] theorem State.periodTimer_setQueue (s : State) (q : List TxEntry) : (s.setQueue q).periodTimer = s.periodTimer := rfl
@[simp] theorem State.cutList_setQueue (s : State) (q : List TxEntry) : (s.setQueue q).cutList = s.cutList := rfl
@[simp] theorem State.closures_setQueue (s : State) (q : List TxEntry) : (s.setQueue q).closures = s.closures := rfl
@[simp] theorem State.releaseCounter_setQueue (s : State) (q : List TxEntry) : (s.setQueue q).releaseCounter = s.releaseCounter := rfl
@[simp] theorem State.crestPassage_setQueue (s : State) (q : List TxEntry) : (s.setQueue q).crestPassage = s.crestPassage := rfl
@[simp] theorem State.releaseInterval_setQueue (s : State) (q : List TxEntry) : (s.setQueue q).releaseInterval = s.releaseInterval := rfl
@[simp] theorem State.signal_setQueue (s : State) (q : List TxEntry) : (s.setQueue q).signal = s.signal := rfl
@[simp] theorem State.roster_setQueue (s : State) (q : List TxEntry) : (s.setQueue q).roster = s.roster := rfl
@[simp] theorem State.capture_setQueue (s : State) (q : List TxEntry) : (s.setQueue q).capture = s.capture := rfl
@[simp] theorem State.furtherAlarms_setQueue (s : State) (q : List TxEntry) : (s.setQueue q).furtherAlarms = s.furtherAlarms := rfl
@[simp] theorem State.watches_setQueue (s : State) (q : List TxEntry) : (s.setQueue q).watches = s.watches := rfl
@[simp] theorem State.faultLine_setQueue (s : State) (q : List TxEntry) : (s.setQueue q).faultLine = s.faultLine := rfl
@[simp] theorem State.pending_setQueue (s : State) (q : List TxEntry) : (s.setQueue q).pending = s.pending := rfl
@[simp] theorem State.slot_setQueue (s : State) (q : List TxEntry) (j : SlotIx) : (s.setQueue q).slot j = s.slot j := rfl
@[simp] theorem State.record_setQueue (s : State) (q : List TxEntry) (j : RecIx) : (s.setQueue q).record j = s.record j := rfl
@[simp] theorem State.cfg_setQueue (s : State) (q : List TxEntry) : (s.setQueue q).cfg = s.cfg := rfl
@[simp] theorem State.slotCfg_setQueue (s : State) (q : List TxEntry) (j : SlotIx) : (s.setQueue q).slotCfg j = s.slotCfg j := rfl
@[simp] theorem State.serving_setQueue (s : State) (q : List TxEntry) : (s.setQueue q).serving = s.serving := rfl

@[simp] theorem State.nodeState_setPort (s : State) (p : Port) : (s.setPort p).nodeState = s.nodeState := rfl
@[simp] theorem State.time_setPort (s : State) (p : Port) : (s.setPort p).time = s.time := rfl
@[simp] theorem State.censusStart_setPort (s : State) (p : Port) : (s.setPort p).censusStart = s.censusStart := rfl
@[simp] theorem State.config_setPort (s : State) (p : Port) : (s.setPort p).config = s.config := rfl
@[simp] theorem State.startSent_setPort (s : State) (p : Port) : (s.setPort p).startSent = s.startSent := rfl
@[simp] theorem State.records_setPort (s : State) (p : Port) : (s.setPort p).records = s.records := rfl
@[simp] theorem State.free_setPort (s : State) (p : Port) : (s.setPort p).free = s.free := rfl
@[simp] theorem State.slots_setPort (s : State) (p : Port) : (s.setPort p).slots = s.slots := rfl
@[simp] theorem State.handoffs_setPort (s : State) (p : Port) : (s.setPort p).handoffs = s.handoffs := rfl
@[simp] theorem State.nextHandoff_setPort (s : State) (p : Port) : (s.setPort p).nextHandoff = s.nextHandoff := rfl
@[simp] theorem State.waitList_setPort (s : State) (p : Port) : (s.setPort p).waitList = s.waitList := rfl
@[simp] theorem State.faultLatch_setPort (s : State) (p : Port) : (s.setPort p).faultLatch = s.faultLatch := rfl
@[simp] theorem State.holdMask_setPort (s : State) (p : Port) : (s.setPort p).holdMask = s.holdMask := rfl
@[simp] theorem State.periodTimer_setPort (s : State) (p : Port) : (s.setPort p).periodTimer = s.periodTimer := rfl
@[simp] theorem State.cutList_setPort (s : State) (p : Port) : (s.setPort p).cutList = s.cutList := rfl
@[simp] theorem State.closures_setPort (s : State) (p : Port) : (s.setPort p).closures = s.closures := rfl
@[simp] theorem State.releaseCounter_setPort (s : State) (p : Port) : (s.setPort p).releaseCounter = s.releaseCounter := rfl
@[simp] theorem State.crestPassage_setPort (s : State) (p : Port) : (s.setPort p).crestPassage = s.crestPassage := rfl
@[simp] theorem State.releaseInterval_setPort (s : State) (p : Port) : (s.setPort p).releaseInterval = s.releaseInterval := rfl
@[simp] theorem State.signal_setPort (s : State) (p : Port) : (s.setPort p).signal = s.signal := rfl
@[simp] theorem State.roster_setPort (s : State) (p : Port) : (s.setPort p).roster = s.roster := rfl
@[simp] theorem State.capture_setPort (s : State) (p : Port) : (s.setPort p).capture = s.capture := rfl
@[simp] theorem State.furtherAlarms_setPort (s : State) (p : Port) : (s.setPort p).furtherAlarms = s.furtherAlarms := rfl
@[simp] theorem State.watches_setPort (s : State) (p : Port) : (s.setPort p).watches = s.watches := rfl
@[simp] theorem State.faultLine_setPort (s : State) (p : Port) : (s.setPort p).faultLine = s.faultLine := rfl
@[simp] theorem State.pending_setPort (s : State) (p : Port) : (s.setPort p).pending = s.pending := rfl
@[simp] theorem State.slot_setPort (s : State) (p : Port) (j : SlotIx) : (s.setPort p).slot j = s.slot j := rfl
@[simp] theorem State.record_setPort (s : State) (p : Port) (j : RecIx) : (s.setPort p).record j = s.record j := rfl
@[simp] theorem State.cfg_setPort (s : State) (p : Port) : (s.setPort p).cfg = s.cfg := rfl
@[simp] theorem State.slotCfg_setPort (s : State) (p : Port) (j : SlotIx) : (s.setPort p).slotCfg j = s.slotCfg j := rfl
@[simp] theorem State.serving_setPort (s : State) (p : Port) : (s.setPort p).serving = s.serving := rfl

@[simp] theorem State.nodeState_setStatus (s : State) (n : Nat) (st : HandoffStatus) : (s.setStatus n st).nodeState = s.nodeState := rfl
@[simp] theorem State.time_setStatus (s : State) (n : Nat) (st : HandoffStatus) : (s.setStatus n st).time = s.time := rfl
@[simp] theorem State.censusStart_setStatus (s : State) (n : Nat) (st : HandoffStatus) : (s.setStatus n st).censusStart = s.censusStart := rfl
@[simp] theorem State.config_setStatus (s : State) (n : Nat) (st : HandoffStatus) : (s.setStatus n st).config = s.config := rfl
@[simp] theorem State.startSent_setStatus (s : State) (n : Nat) (st : HandoffStatus) : (s.setStatus n st).startSent = s.startSent := rfl
@[simp] theorem State.records_setStatus (s : State) (n : Nat) (st : HandoffStatus) : (s.setStatus n st).records = s.records := rfl
@[simp] theorem State.free_setStatus (s : State) (n : Nat) (st : HandoffStatus) : (s.setStatus n st).free = s.free := rfl
@[simp] theorem State.slots_setStatus (s : State) (n : Nat) (st : HandoffStatus) : (s.setStatus n st).slots = s.slots := rfl
@[simp] theorem State.nextHandoff_setStatus (s : State) (n : Nat) (st : HandoffStatus) : (s.setStatus n st).nextHandoff = s.nextHandoff := rfl
@[simp] theorem State.waitList_setStatus (s : State) (n : Nat) (st : HandoffStatus) : (s.setStatus n st).waitList = s.waitList := rfl
@[simp] theorem State.faultLatch_setStatus (s : State) (n : Nat) (st : HandoffStatus) : (s.setStatus n st).faultLatch = s.faultLatch := rfl
@[simp] theorem State.holdMask_setStatus (s : State) (n : Nat) (st : HandoffStatus) : (s.setStatus n st).holdMask = s.holdMask := rfl
@[simp] theorem State.periodTimer_setStatus (s : State) (n : Nat) (st : HandoffStatus) : (s.setStatus n st).periodTimer = s.periodTimer := rfl
@[simp] theorem State.cutList_setStatus (s : State) (n : Nat) (st : HandoffStatus) : (s.setStatus n st).cutList = s.cutList := rfl
@[simp] theorem State.closures_setStatus (s : State) (n : Nat) (st : HandoffStatus) : (s.setStatus n st).closures = s.closures := rfl
@[simp] theorem State.releaseCounter_setStatus (s : State) (n : Nat) (st : HandoffStatus) : (s.setStatus n st).releaseCounter = s.releaseCounter := rfl
@[simp] theorem State.crestPassage_setStatus (s : State) (n : Nat) (st : HandoffStatus) : (s.setStatus n st).crestPassage = s.crestPassage := rfl
@[simp] theorem State.releaseInterval_setStatus (s : State) (n : Nat) (st : HandoffStatus) : (s.setStatus n st).releaseInterval = s.releaseInterval := rfl
@[simp] theorem State.signal_setStatus (s : State) (n : Nat) (st : HandoffStatus) : (s.setStatus n st).signal = s.signal := rfl
@[simp] theorem State.roster_setStatus (s : State) (n : Nat) (st : HandoffStatus) : (s.setStatus n st).roster = s.roster := rfl
@[simp] theorem State.capture_setStatus (s : State) (n : Nat) (st : HandoffStatus) : (s.setStatus n st).capture = s.capture := rfl
@[simp] theorem State.furtherAlarms_setStatus (s : State) (n : Nat) (st : HandoffStatus) : (s.setStatus n st).furtherAlarms = s.furtherAlarms := rfl
@[simp] theorem State.watches_setStatus (s : State) (n : Nat) (st : HandoffStatus) : (s.setStatus n st).watches = s.watches := rfl
@[simp] theorem State.faultLine_setStatus (s : State) (n : Nat) (st : HandoffStatus) : (s.setStatus n st).faultLine = s.faultLine := rfl
@[simp] theorem State.port_setStatus (s : State) (n : Nat) (st : HandoffStatus) : (s.setStatus n st).port = s.port := rfl
@[simp] theorem State.pending_setStatus (s : State) (n : Nat) (st : HandoffStatus) : (s.setStatus n st).pending = s.pending := rfl
@[simp] theorem State.slot_setStatus (s : State) (n : Nat) (st : HandoffStatus) (j : SlotIx) : (s.setStatus n st).slot j = s.slot j := rfl
@[simp] theorem State.record_setStatus (s : State) (n : Nat) (st : HandoffStatus) (j : RecIx) : (s.setStatus n st).record j = s.record j := rfl
@[simp] theorem State.cfg_setStatus (s : State) (n : Nat) (st : HandoffStatus) : (s.setStatus n st).cfg = s.cfg := rfl
@[simp] theorem State.slotCfg_setStatus (s : State) (n : Nat) (st : HandoffStatus) (j : SlotIx) : (s.setStatus n st).slotCfg j = s.slotCfg j := rfl
@[simp] theorem State.serving_setStatus (s : State) (n : Nat) (st : HandoffStatus) : (s.setStatus n st).serving = s.serving := rfl

@[simp] theorem State.nodeState_dropHandoff (s : State) (n : Nat) : (s.dropHandoff n).nodeState = s.nodeState := rfl
@[simp] theorem State.time_dropHandoff (s : State) (n : Nat) : (s.dropHandoff n).time = s.time := rfl
@[simp] theorem State.censusStart_dropHandoff (s : State) (n : Nat) : (s.dropHandoff n).censusStart = s.censusStart := rfl
@[simp] theorem State.config_dropHandoff (s : State) (n : Nat) : (s.dropHandoff n).config = s.config := rfl
@[simp] theorem State.startSent_dropHandoff (s : State) (n : Nat) : (s.dropHandoff n).startSent = s.startSent := rfl
@[simp] theorem State.records_dropHandoff (s : State) (n : Nat) : (s.dropHandoff n).records = s.records := rfl
@[simp] theorem State.free_dropHandoff (s : State) (n : Nat) : (s.dropHandoff n).free = s.free := rfl
@[simp] theorem State.slots_dropHandoff (s : State) (n : Nat) : (s.dropHandoff n).slots = s.slots := rfl
@[simp] theorem State.nextHandoff_dropHandoff (s : State) (n : Nat) : (s.dropHandoff n).nextHandoff = s.nextHandoff := rfl
@[simp] theorem State.waitList_dropHandoff (s : State) (n : Nat) : (s.dropHandoff n).waitList = s.waitList := rfl
@[simp] theorem State.faultLatch_dropHandoff (s : State) (n : Nat) : (s.dropHandoff n).faultLatch = s.faultLatch := rfl
@[simp] theorem State.holdMask_dropHandoff (s : State) (n : Nat) : (s.dropHandoff n).holdMask = s.holdMask := rfl
@[simp] theorem State.periodTimer_dropHandoff (s : State) (n : Nat) : (s.dropHandoff n).periodTimer = s.periodTimer := rfl
@[simp] theorem State.cutList_dropHandoff (s : State) (n : Nat) : (s.dropHandoff n).cutList = s.cutList := rfl
@[simp] theorem State.closures_dropHandoff (s : State) (n : Nat) : (s.dropHandoff n).closures = s.closures := rfl
@[simp] theorem State.releaseCounter_dropHandoff (s : State) (n : Nat) : (s.dropHandoff n).releaseCounter = s.releaseCounter := rfl
@[simp] theorem State.crestPassage_dropHandoff (s : State) (n : Nat) : (s.dropHandoff n).crestPassage = s.crestPassage := rfl
@[simp] theorem State.releaseInterval_dropHandoff (s : State) (n : Nat) : (s.dropHandoff n).releaseInterval = s.releaseInterval := rfl
@[simp] theorem State.signal_dropHandoff (s : State) (n : Nat) : (s.dropHandoff n).signal = s.signal := rfl
@[simp] theorem State.roster_dropHandoff (s : State) (n : Nat) : (s.dropHandoff n).roster = s.roster := rfl
@[simp] theorem State.capture_dropHandoff (s : State) (n : Nat) : (s.dropHandoff n).capture = s.capture := rfl
@[simp] theorem State.furtherAlarms_dropHandoff (s : State) (n : Nat) : (s.dropHandoff n).furtherAlarms = s.furtherAlarms := rfl
@[simp] theorem State.watches_dropHandoff (s : State) (n : Nat) : (s.dropHandoff n).watches = s.watches := rfl
@[simp] theorem State.faultLine_dropHandoff (s : State) (n : Nat) : (s.dropHandoff n).faultLine = s.faultLine := rfl
@[simp] theorem State.port_dropHandoff (s : State) (n : Nat) : (s.dropHandoff n).port = s.port := rfl
@[simp] theorem State.pending_dropHandoff (s : State) (n : Nat) : (s.dropHandoff n).pending = s.pending := rfl
@[simp] theorem State.slot_dropHandoff (s : State) (n : Nat) (j : SlotIx) : (s.dropHandoff n).slot j = s.slot j := rfl
@[simp] theorem State.record_dropHandoff (s : State) (n : Nat) (j : RecIx) : (s.dropHandoff n).record j = s.record j := rfl
@[simp] theorem State.cfg_dropHandoff (s : State) (n : Nat) : (s.dropHandoff n).cfg = s.cfg := rfl
@[simp] theorem State.slotCfg_dropHandoff (s : State) (n : Nat) (j : SlotIx) : (s.dropHandoff n).slotCfg j = s.slotCfg j := rfl
@[simp] theorem State.serving_dropHandoff (s : State) (n : Nat) : (s.dropHandoff n).serving = s.serving := rfl

@[simp] theorem State.nodeState_setPassage (s : State) (k : SlotIx) (i : Nat) (p : Passage) : (s.setPassage k i p).nodeState = s.nodeState := rfl
@[simp] theorem State.time_setPassage (s : State) (k : SlotIx) (i : Nat) (p : Passage) : (s.setPassage k i p).time = s.time := rfl
@[simp] theorem State.censusStart_setPassage (s : State) (k : SlotIx) (i : Nat) (p : Passage) : (s.setPassage k i p).censusStart = s.censusStart := rfl
@[simp] theorem State.config_setPassage (s : State) (k : SlotIx) (i : Nat) (p : Passage) : (s.setPassage k i p).config = s.config := rfl
@[simp] theorem State.startSent_setPassage (s : State) (k : SlotIx) (i : Nat) (p : Passage) : (s.setPassage k i p).startSent = s.startSent := rfl
@[simp] theorem State.records_setPassage (s : State) (k : SlotIx) (i : Nat) (p : Passage) : (s.setPassage k i p).records = s.records := rfl
@[simp] theorem State.free_setPassage (s : State) (k : SlotIx) (i : Nat) (p : Passage) : (s.setPassage k i p).free = s.free := rfl
@[simp] theorem State.handoffs_setPassage (s : State) (k : SlotIx) (i : Nat) (p : Passage) : (s.setPassage k i p).handoffs = s.handoffs := rfl
@[simp] theorem State.nextHandoff_setPassage (s : State) (k : SlotIx) (i : Nat) (p : Passage) : (s.setPassage k i p).nextHandoff = s.nextHandoff := rfl
@[simp] theorem State.waitList_setPassage (s : State) (k : SlotIx) (i : Nat) (p : Passage) : (s.setPassage k i p).waitList = s.waitList := rfl
@[simp] theorem State.faultLatch_setPassage (s : State) (k : SlotIx) (i : Nat) (p : Passage) : (s.setPassage k i p).faultLatch = s.faultLatch := rfl
@[simp] theorem State.holdMask_setPassage (s : State) (k : SlotIx) (i : Nat) (p : Passage) : (s.setPassage k i p).holdMask = s.holdMask := rfl
@[simp] theorem State.periodTimer_setPassage (s : State) (k : SlotIx) (i : Nat) (p : Passage) : (s.setPassage k i p).periodTimer = s.periodTimer := rfl
@[simp] theorem State.cutList_setPassage (s : State) (k : SlotIx) (i : Nat) (p : Passage) : (s.setPassage k i p).cutList = s.cutList := rfl
@[simp] theorem State.closures_setPassage (s : State) (k : SlotIx) (i : Nat) (p : Passage) : (s.setPassage k i p).closures = s.closures := rfl
@[simp] theorem State.releaseCounter_setPassage (s : State) (k : SlotIx) (i : Nat) (p : Passage) : (s.setPassage k i p).releaseCounter = s.releaseCounter := rfl
@[simp] theorem State.crestPassage_setPassage (s : State) (k : SlotIx) (i : Nat) (p : Passage) : (s.setPassage k i p).crestPassage = s.crestPassage := rfl
@[simp] theorem State.releaseInterval_setPassage (s : State) (k : SlotIx) (i : Nat) (p : Passage) : (s.setPassage k i p).releaseInterval = s.releaseInterval := rfl
@[simp] theorem State.signal_setPassage (s : State) (k : SlotIx) (i : Nat) (p : Passage) : (s.setPassage k i p).signal = s.signal := rfl
@[simp] theorem State.roster_setPassage (s : State) (k : SlotIx) (i : Nat) (p : Passage) : (s.setPassage k i p).roster = s.roster := rfl
@[simp] theorem State.capture_setPassage (s : State) (k : SlotIx) (i : Nat) (p : Passage) : (s.setPassage k i p).capture = s.capture := rfl
@[simp] theorem State.furtherAlarms_setPassage (s : State) (k : SlotIx) (i : Nat) (p : Passage) : (s.setPassage k i p).furtherAlarms = s.furtherAlarms := rfl
@[simp] theorem State.watches_setPassage (s : State) (k : SlotIx) (i : Nat) (p : Passage) : (s.setPassage k i p).watches = s.watches := rfl
@[simp] theorem State.faultLine_setPassage (s : State) (k : SlotIx) (i : Nat) (p : Passage) : (s.setPassage k i p).faultLine = s.faultLine := rfl
@[simp] theorem State.port_setPassage (s : State) (k : SlotIx) (i : Nat) (p : Passage) : (s.setPassage k i p).port = s.port := rfl
@[simp] theorem State.pending_setPassage (s : State) (k : SlotIx) (i : Nat) (p : Passage) : (s.setPassage k i p).pending = s.pending := rfl
@[simp] theorem State.record_setPassage (s : State) (k : SlotIx) (i : Nat) (p : Passage) (j : RecIx) : (s.setPassage k i p).record j = s.record j := rfl
@[simp] theorem State.cfg_setPassage (s : State) (k : SlotIx) (i : Nat) (p : Passage) : (s.setPassage k i p).cfg = s.cfg := rfl
@[simp] theorem State.slotCfg_setPassage (s : State) (k : SlotIx) (i : Nat) (p : Passage) (j : SlotIx) : (s.setPassage k i p).slotCfg j = s.slotCfg j := rfl
@[simp] theorem State.serving_setPassage (s : State) (k : SlotIx) (i : Nat) (p : Passage) : (s.setPassage k i p).serving = s.serving := rfl

@[simp] theorem State.nodeState_reach (s : State) (d : Nat) : (s.reach d).nodeState = s.nodeState := rfl
@[simp] theorem State.censusStart_reach (s : State) (d : Nat) : (s.reach d).censusStart = s.censusStart := rfl
@[simp] theorem State.config_reach (s : State) (d : Nat) : (s.reach d).config = s.config := rfl
@[simp] theorem State.startSent_reach (s : State) (d : Nat) : (s.reach d).startSent = s.startSent := rfl
@[simp] theorem State.records_reach (s : State) (d : Nat) : (s.reach d).records = s.records := rfl
@[simp] theorem State.free_reach (s : State) (d : Nat) : (s.reach d).free = s.free := rfl
@[simp] theorem State.slots_reach (s : State) (d : Nat) : (s.reach d).slots = s.slots := rfl
@[simp] theorem State.handoffs_reach (s : State) (d : Nat) : (s.reach d).handoffs = s.handoffs := rfl
@[simp] theorem State.nextHandoff_reach (s : State) (d : Nat) : (s.reach d).nextHandoff = s.nextHandoff := rfl
@[simp] theorem State.waitList_reach (s : State) (d : Nat) : (s.reach d).waitList = s.waitList := rfl
@[simp] theorem State.faultLatch_reach (s : State) (d : Nat) : (s.reach d).faultLatch = s.faultLatch := rfl
@[simp] theorem State.holdMask_reach (s : State) (d : Nat) : (s.reach d).holdMask = s.holdMask := rfl
@[simp] theorem State.periodTimer_reach (s : State) (d : Nat) : (s.reach d).periodTimer = s.periodTimer := rfl
@[simp] theorem State.cutList_reach (s : State) (d : Nat) : (s.reach d).cutList = s.cutList := rfl
@[simp] theorem State.closures_reach (s : State) (d : Nat) : (s.reach d).closures = s.closures := rfl
@[simp] theorem State.releaseCounter_reach (s : State) (d : Nat) : (s.reach d).releaseCounter = s.releaseCounter := rfl
@[simp] theorem State.crestPassage_reach (s : State) (d : Nat) : (s.reach d).crestPassage = s.crestPassage := rfl
@[simp] theorem State.releaseInterval_reach (s : State) (d : Nat) : (s.reach d).releaseInterval = s.releaseInterval := rfl
@[simp] theorem State.signal_reach (s : State) (d : Nat) : (s.reach d).signal = s.signal := rfl
@[simp] theorem State.roster_reach (s : State) (d : Nat) : (s.reach d).roster = s.roster := rfl
@[simp] theorem State.capture_reach (s : State) (d : Nat) : (s.reach d).capture = s.capture := rfl
@[simp] theorem State.furtherAlarms_reach (s : State) (d : Nat) : (s.reach d).furtherAlarms = s.furtherAlarms := rfl
@[simp] theorem State.watches_reach (s : State) (d : Nat) : (s.reach d).watches = s.watches := rfl
@[simp] theorem State.faultLine_reach (s : State) (d : Nat) : (s.reach d).faultLine = s.faultLine := rfl
@[simp] theorem State.port_reach (s : State) (d : Nat) : (s.reach d).port = s.port := rfl
@[simp] theorem State.pending_reach (s : State) (d : Nat) : (s.reach d).pending = s.pending := rfl
@[simp] theorem State.slot_reach (s : State) (d : Nat) (j : SlotIx) : (s.reach d).slot j = s.slot j := rfl
@[simp] theorem State.record_reach (s : State) (d : Nat) (j : RecIx) : (s.reach d).record j = s.record j := rfl
@[simp] theorem State.cfg_reach (s : State) (d : Nat) : (s.reach d).cfg = s.cfg := rfl
@[simp] theorem State.slotCfg_reach (s : State) (d : Nat) (j : SlotIx) : (s.reach d).slotCfg j = s.slotCfg j := rfl
@[simp] theorem State.serving_reach (s : State) (d : Nat) : (s.reach d).serving = s.serving := rfl

@[simp] theorem State.nodeState_atStation (s : State) (n : Nat) (f : RosterEntry → RosterEntry) : (s.atStation n f).nodeState = s.nodeState := rfl
@[simp] theorem State.time_atStation (s : State) (n : Nat) (f : RosterEntry → RosterEntry) : (s.atStation n f).time = s.time := rfl
@[simp] theorem State.censusStart_atStation (s : State) (n : Nat) (f : RosterEntry → RosterEntry) : (s.atStation n f).censusStart = s.censusStart := rfl
@[simp] theorem State.config_atStation (s : State) (n : Nat) (f : RosterEntry → RosterEntry) : (s.atStation n f).config = s.config := rfl
@[simp] theorem State.startSent_atStation (s : State) (n : Nat) (f : RosterEntry → RosterEntry) : (s.atStation n f).startSent = s.startSent := rfl
@[simp] theorem State.records_atStation (s : State) (n : Nat) (f : RosterEntry → RosterEntry) : (s.atStation n f).records = s.records := rfl
@[simp] theorem State.free_atStation (s : State) (n : Nat) (f : RosterEntry → RosterEntry) : (s.atStation n f).free = s.free := rfl
@[simp] theorem State.slots_atStation (s : State) (n : Nat) (f : RosterEntry → RosterEntry) : (s.atStation n f).slots = s.slots := rfl
@[simp] theorem State.handoffs_atStation (s : State) (n : Nat) (f : RosterEntry → RosterEntry) : (s.atStation n f).handoffs = s.handoffs := rfl
@[simp] theorem State.nextHandoff_atStation (s : State) (n : Nat) (f : RosterEntry → RosterEntry) : (s.atStation n f).nextHandoff = s.nextHandoff := rfl
@[simp] theorem State.waitList_atStation (s : State) (n : Nat) (f : RosterEntry → RosterEntry) : (s.atStation n f).waitList = s.waitList := rfl
@[simp] theorem State.faultLatch_atStation (s : State) (n : Nat) (f : RosterEntry → RosterEntry) : (s.atStation n f).faultLatch = s.faultLatch := rfl
@[simp] theorem State.holdMask_atStation (s : State) (n : Nat) (f : RosterEntry → RosterEntry) : (s.atStation n f).holdMask = s.holdMask := rfl
@[simp] theorem State.periodTimer_atStation (s : State) (n : Nat) (f : RosterEntry → RosterEntry) : (s.atStation n f).periodTimer = s.periodTimer := rfl
@[simp] theorem State.cutList_atStation (s : State) (n : Nat) (f : RosterEntry → RosterEntry) : (s.atStation n f).cutList = s.cutList := rfl
@[simp] theorem State.closures_atStation (s : State) (n : Nat) (f : RosterEntry → RosterEntry) : (s.atStation n f).closures = s.closures := rfl
@[simp] theorem State.releaseCounter_atStation (s : State) (n : Nat) (f : RosterEntry → RosterEntry) : (s.atStation n f).releaseCounter = s.releaseCounter := rfl
@[simp] theorem State.crestPassage_atStation (s : State) (n : Nat) (f : RosterEntry → RosterEntry) : (s.atStation n f).crestPassage = s.crestPassage := rfl
@[simp] theorem State.releaseInterval_atStation (s : State) (n : Nat) (f : RosterEntry → RosterEntry) : (s.atStation n f).releaseInterval = s.releaseInterval := rfl
@[simp] theorem State.signal_atStation (s : State) (n : Nat) (f : RosterEntry → RosterEntry) : (s.atStation n f).signal = s.signal := rfl
@[simp] theorem State.capture_atStation (s : State) (n : Nat) (f : RosterEntry → RosterEntry) : (s.atStation n f).capture = s.capture := rfl
@[simp] theorem State.furtherAlarms_atStation (s : State) (n : Nat) (f : RosterEntry → RosterEntry) : (s.atStation n f).furtherAlarms = s.furtherAlarms := rfl
@[simp] theorem State.watches_atStation (s : State) (n : Nat) (f : RosterEntry → RosterEntry) : (s.atStation n f).watches = s.watches := rfl
@[simp] theorem State.faultLine_atStation (s : State) (n : Nat) (f : RosterEntry → RosterEntry) : (s.atStation n f).faultLine = s.faultLine := rfl
@[simp] theorem State.port_atStation (s : State) (n : Nat) (f : RosterEntry → RosterEntry) : (s.atStation n f).port = s.port := rfl
@[simp] theorem State.pending_atStation (s : State) (n : Nat) (f : RosterEntry → RosterEntry) : (s.atStation n f).pending = s.pending := rfl
@[simp] theorem State.slot_atStation (s : State) (n : Nat) (f : RosterEntry → RosterEntry) (j : SlotIx) : (s.atStation n f).slot j = s.slot j := rfl
@[simp] theorem State.record_atStation (s : State) (n : Nat) (f : RosterEntry → RosterEntry) (j : RecIx) : (s.atStation n f).record j = s.record j := rfl
@[simp] theorem State.cfg_atStation (s : State) (n : Nat) (f : RosterEntry → RosterEntry) : (s.atStation n f).cfg = s.cfg := rfl
@[simp] theorem State.slotCfg_atStation (s : State) (n : Nat) (f : RosterEntry → RosterEntry) (j : SlotIx) : (s.atStation n f).slotCfg j = s.slotCfg j := rfl
@[simp] theorem State.serving_atStation (s : State) (n : Nat) (f : RosterEntry → RosterEntry) : (s.atStation n f).serving = s.serving := rfl

@[simp] theorem State.nodeState_putFront (s : State) (c : Instr) : (s.putFront c).nodeState = s.nodeState := rfl
@[simp] theorem State.time_putFront (s : State) (c : Instr) : (s.putFront c).time = s.time := rfl
@[simp] theorem State.censusStart_putFront (s : State) (c : Instr) : (s.putFront c).censusStart = s.censusStart := rfl
@[simp] theorem State.config_putFront (s : State) (c : Instr) : (s.putFront c).config = s.config := rfl
@[simp] theorem State.startSent_putFront (s : State) (c : Instr) : (s.putFront c).startSent = s.startSent := rfl
@[simp] theorem State.records_putFront (s : State) (c : Instr) : (s.putFront c).records = s.records := rfl
@[simp] theorem State.free_putFront (s : State) (c : Instr) : (s.putFront c).free = s.free := rfl
@[simp] theorem State.slots_putFront (s : State) (c : Instr) : (s.putFront c).slots = s.slots := rfl
@[simp] theorem State.handoffs_putFront (s : State) (c : Instr) : (s.putFront c).handoffs = s.handoffs := rfl
@[simp] theorem State.nextHandoff_putFront (s : State) (c : Instr) : (s.putFront c).nextHandoff = s.nextHandoff := rfl
@[simp] theorem State.waitList_putFront (s : State) (c : Instr) : (s.putFront c).waitList = s.waitList := rfl
@[simp] theorem State.faultLatch_putFront (s : State) (c : Instr) : (s.putFront c).faultLatch = s.faultLatch := rfl
@[simp] theorem State.holdMask_putFront (s : State) (c : Instr) : (s.putFront c).holdMask = s.holdMask := rfl
@[simp] theorem State.periodTimer_putFront (s : State) (c : Instr) : (s.putFront c).periodTimer = s.periodTimer := rfl
@[simp] theorem State.cutList_putFront (s : State) (c : Instr) : (s.putFront c).cutList = s.cutList := rfl
@[simp] theorem State.closures_putFront (s : State) (c : Instr) : (s.putFront c).closures = s.closures := rfl
@[simp] theorem State.releaseCounter_putFront (s : State) (c : Instr) : (s.putFront c).releaseCounter = s.releaseCounter := rfl
@[simp] theorem State.crestPassage_putFront (s : State) (c : Instr) : (s.putFront c).crestPassage = s.crestPassage := rfl
@[simp] theorem State.releaseInterval_putFront (s : State) (c : Instr) : (s.putFront c).releaseInterval = s.releaseInterval := rfl
@[simp] theorem State.signal_putFront (s : State) (c : Instr) : (s.putFront c).signal = s.signal := rfl
@[simp] theorem State.roster_putFront (s : State) (c : Instr) : (s.putFront c).roster = s.roster := rfl
@[simp] theorem State.capture_putFront (s : State) (c : Instr) : (s.putFront c).capture = s.capture := rfl
@[simp] theorem State.furtherAlarms_putFront (s : State) (c : Instr) : (s.putFront c).furtherAlarms = s.furtherAlarms := rfl
@[simp] theorem State.watches_putFront (s : State) (c : Instr) : (s.putFront c).watches = s.watches := rfl
@[simp] theorem State.faultLine_putFront (s : State) (c : Instr) : (s.putFront c).faultLine = s.faultLine := rfl
@[simp] theorem State.port_putFront (s : State) (c : Instr) : (s.putFront c).port = s.port := rfl
@[simp] theorem State.slot_putFront (s : State) (c : Instr) (j : SlotIx) : (s.putFront c).slot j = s.slot j := rfl
@[simp] theorem State.record_putFront (s : State) (c : Instr) (j : RecIx) : (s.putFront c).record j = s.record j := rfl
@[simp] theorem State.cfg_putFront (s : State) (c : Instr) : (s.putFront c).cfg = s.cfg := rfl
@[simp] theorem State.slotCfg_putFront (s : State) (c : Instr) (j : SlotIx) : (s.putFront c).slotCfg j = s.slotCfg j := rfl
@[simp] theorem State.serving_putFront (s : State) (c : Instr) : (s.putFront c).serving = s.serving := rfl

@[simp] theorem State.nodeState_setLines (s : State) : (s.setLines).nodeState = s.nodeState := rfl
@[simp] theorem State.time_setLines (s : State) : (s.setLines).time = s.time := rfl
@[simp] theorem State.censusStart_setLines (s : State) : (s.setLines).censusStart = s.censusStart := rfl
@[simp] theorem State.config_setLines (s : State) : (s.setLines).config = s.config := rfl
@[simp] theorem State.startSent_setLines (s : State) : (s.setLines).startSent = s.startSent := rfl
@[simp] theorem State.records_setLines (s : State) : (s.setLines).records = s.records := rfl
@[simp] theorem State.free_setLines (s : State) : (s.setLines).free = s.free := rfl
@[simp] theorem State.slots_setLines (s : State) : (s.setLines).slots = s.slots := rfl
@[simp] theorem State.handoffs_setLines (s : State) : (s.setLines).handoffs = s.handoffs := rfl
@[simp] theorem State.nextHandoff_setLines (s : State) : (s.setLines).nextHandoff = s.nextHandoff := rfl
@[simp] theorem State.waitList_setLines (s : State) : (s.setLines).waitList = s.waitList := rfl
@[simp] theorem State.faultLatch_setLines (s : State) : (s.setLines).faultLatch = s.faultLatch := rfl
@[simp] theorem State.holdMask_setLines (s : State) : (s.setLines).holdMask = s.holdMask := rfl
@[simp] theorem State.periodTimer_setLines (s : State) : (s.setLines).periodTimer = s.periodTimer := rfl
@[simp] theorem State.cutList_setLines (s : State) : (s.setLines).cutList = s.cutList := rfl
@[simp] theorem State.closures_setLines (s : State) : (s.setLines).closures = s.closures := rfl
@[simp] theorem State.releaseCounter_setLines (s : State) : (s.setLines).releaseCounter = s.releaseCounter := rfl
@[simp] theorem State.crestPassage_setLines (s : State) : (s.setLines).crestPassage = s.crestPassage := rfl
@[simp] theorem State.releaseInterval_setLines (s : State) : (s.setLines).releaseInterval = s.releaseInterval := rfl
@[simp] theorem State.roster_setLines (s : State) : (s.setLines).roster = s.roster := rfl
@[simp] theorem State.capture_setLines (s : State) : (s.setLines).capture = s.capture := rfl
@[simp] theorem State.furtherAlarms_setLines (s : State) : (s.setLines).furtherAlarms = s.furtherAlarms := rfl
@[simp] theorem State.watches_setLines (s : State) : (s.setLines).watches = s.watches := rfl
@[simp] theorem State.port_setLines (s : State) : (s.setLines).port = s.port := rfl
@[simp] theorem State.pending_setLines (s : State) : (s.setLines).pending = s.pending := rfl
@[simp] theorem State.slot_setLines (s : State) (j : SlotIx) : (s.setLines).slot j = s.slot j := rfl
@[simp] theorem State.record_setLines (s : State) (j : RecIx) : (s.setLines).record j = s.record j := rfl
@[simp] theorem State.cfg_setLines (s : State) : (s.setLines).cfg = s.cfg := rfl
@[simp] theorem State.slotCfg_setLines (s : State) (j : SlotIx) : (s.setLines).slotCfg j = s.slotCfg j := rfl
@[simp] theorem State.serving_setLines (s : State) : (s.setLines).serving = s.serving := rfl

end Sys2Proof.Machine
end

