-- ==== Sys2Proof/Laws/Reports.lean ====
section
/-! SUPPORT. What reporting touches: for each operation through which a block reports, one lemma that it
leaves the state as it was apart from reports, and, where the transmit queue has room, apart from frames;
and what the transmit queue holds after an offer. -/

namespace Sys2Proof.Machine

/-! ### The view apart from reports -/

@[simp] theorem State.slot_apartFromFrames (s : State) (k : SlotIx) :
    s.apartFromFrames.slot k = (s.slot k).apartFromTimer := by
  simp [State.slot, State.apartFromFrames]

@[simp] theorem State.slot_apartFromReports (s : State) (k : SlotIx) :
    s.apartFromReports.slot k = (s.slot k).apartFromTimer := by
  simp [State.slot, State.apartFromReports, State.apartFromFrames]

theorem State.apartFromReports_of_frames {s u : State} (h : s.apartFromFrames = u.apartFromFrames) :
    s.apartFromReports = u.apartFromReports := by
  simp only [State.apartFromReports, h]

@[simp] theorem State.apartFromReports_setQueue (s : State) (q : List TxEntry) :
    (s.setQueue q).apartFromReports = s.apartFromReports := rfl

@[simp] theorem State.apartFromFrames_setQueue (s : State) (q : List TxEntry) :
    (s.setQueue q).apartFromFrames = s.apartFromFrames := rfl

@[simp] theorem State.apartFromReports_setStatus (s : State) (n : Nat) (st : HandoffStatus) :
    (s.setStatus n st).apartFromReports = s.apartFromReports := rfl

@[simp] theorem State.apartFromReports_dropHandoff (s : State) (n : Nat) :
    (s.dropHandoff n).apartFromReports = s.apartFromReports := rfl

@[simp] theorem State.apartFromReports_freeRecord (s : State) (i : RecIx) :
    (s.freeRecord i).apartFromReports = s.apartFromReports := rfl

@[simp] theorem State.apartFromReports_setRecord (s : State) (i : RecIx) (r : Record) :
    (s.setRecord i r).apartFromReports = s.apartFromReports := rfl

@[simp] theorem State.apartFromReports_addFlags (s : State) (i : RecIx) (f : Flags) :
    (s.addFlags i f).apartFromReports = s.apartFromReports := rfl

@[simp] theorem State.apartFromReports_setLines (s : State) :
    s.setLines.apartFromReports = s.apartFromReports := rfl

@[simp] theorem State.apartFromFrames_setLines (s : State) :
    s.setLines.apartFromFrames = s.apartFromFrames := rfl

theorem State.apartFromFrames_setSlot (s : State) (k : SlotIx) (x : Slot) :
    (s.setSlot k x).apartFromFrames = s.apartFromFrames.setSlot k x.apartFromTimer := by
  simp [State.apartFromFrames, State.setSlot]

theorem State.apartFromReports_setSlot (s : State) (k : SlotIx) (x : Slot) :
    (s.setSlot k x).apartFromReports = s.apartFromReports.setSlot k x.apartFromTimer := by
  simp [State.apartFromReports, State.apartFromFrames, State.setSlot]

theorem State.freeRecords_apartFromReports (is : List RecIx) (s : State) :
    (s.freeRecords is).apartFromReports = s.apartFromReports := by
  induction is generalizing s with
  | nil => rfl
  | cons i is ih => exact (ih (s.freeRecord i)).trans rfl

@[simp] theorem State.apartFromReports_captureAlarm (s : State) (inc : Incident) :
    (s.captureAlarm inc).apartFromReports = s.apartFromReports := by
  unfold State.captureAlarm; split <;> rfl

@[simp] theorem State.apartFromReports_noteDiscard (s : State) (d : Option TxEntry) :
    (s.noteDiscard d).apartFromReports = s.apartFromReports := by
  cases d with
  | none => rfl
  | some e => exact s.apartFromReports_captureAlarm _

@[simp] theorem State.apartFromReports_offerReport (s : State) (f : OutFrame) :
    (s.offerReport f).apartFromReports = s.apartFromReports := by
  unfold State.offerReport; split
  · simp
  · rfl

@[simp] theorem State.apartFromReports_raise (s : State) (inc : Incident) :
    (s.raise inc).apartFromReports = s.apartFromReports := by
  unfold State.raise; split <;> simp

@[simp] theorem State.apartFromReports_resolve (s : State) (n : Nat) (o : HandoffOutcome) :
    (s.resolve n o).apartFromReports = s.apartFromReports := by
  unfold State.resolve; split
  · rfl
  · rfl

@[simp] theorem State.apartFromReports_lose (s : State) (n : Nat) :
    (s.lose n).apartFromReports = s.apartFromReports := by
  unfold State.lose; split
  · split
    · simp only [State.apartFromReports_resolve, State.apartFromReports_raise]; rfl
    · rfl
  · rfl

@[simp] theorem State.apartFromReports_secondAttempt (s : State) (n : Nat) :
    (s.secondAttempt n).apartFromReports = s.apartFromReports := by
  unfold State.secondAttempt; split
  · rfl
  · split
    · simp
    · split <;> simp

@[simp] theorem State.apartFromReports_attemptExpired (s : State) (n : Nat) :
    (s.attemptExpired n).apartFromReports = s.apartFromReports := by
  unfold State.attemptExpired; split
  · split <;> simp
  · rfl

@[simp] theorem State.apartFromReports_offer (s : State) (f : OutFrame) (o : Option Nat) :
    (s.offer f o).apartFromReports = s.apartFromReports := by
  unfold State.offer; split
  · split
    · simp
    · split <;> simp
  · rfl

@[simp] theorem State.apartFromReports_offerHoldState (s : State) :
    s.offerHoldState.apartFromReports = s.apartFromReports := by
  unfold State.offerHoldState; split
  · rw [State.apartFromReports_offer]; rfl
  · rfl

@[simp] theorem State.apartFromReports_updateMask (s : State) :
    s.updateMask.apartFromReports = s.apartFromReports := by
  unfold State.updateMask; split
  · rfl
  · rw [State.apartFromReports_offerHoldState]; rfl

theorem Slot.apartFromTimer_timeGhost (b x : Slot) (now gap : Nat) :
    (b.timeGhost x now gap).apartFromTimer = x.apartFromTimer := by
  unfold Slot.timeGhost; split
  · split <;> rfl
  · rfl

theorem State.apartFromFrames_timeGhost (b s : State) (k : SlotIx) :
    (b.timeGhost s k).apartFromFrames = s.apartFromFrames := by
  unfold State.timeGhost
  rw [State.apartFromFrames_setSlot, Slot.apartFromTimer_timeGhost, ← State.slot_apartFromFrames,
    State.setSlot_self]

@[simp] theorem State.apartFromFrames_timeGhosts (b s : State) :
    (b.timeGhosts s).apartFromFrames = s.apartFromFrames := by
  simp only [State.timeGhosts, State.apartFromFrames_timeGhost]

@[simp] theorem State.apartFromReports_timeGhosts (b s : State) :
    (b.timeGhosts s).apartFromReports = s.apartFromReports :=
  State.apartFromReports_of_frames (State.apartFromFrames_timeGhosts b s)

/-- What follows an event changes nothing apart from reports. -/
@[simp] theorem State.apartFromReports_settle (b s : State) :
    (b.settle s).apartFromReports = s.apartFromReports := by
  simp [State.settle]

/-! ### The transmit queue -/

theorem mem_insertByUrgency (e x : TxEntry) (q : List TxEntry) :
    x ∈ insertByUrgency e q ↔ x = e ∨ x ∈ q := by
  induction q with
  | nil => simp [insertByUrgency]
  | cons y ys ih =>
    unfold insertByUrgency; split
    · simp
    · simp only [List.mem_cons, ih]; tauto

theorem length_insertByUrgency (e : TxEntry) (q : List TxEntry) :
    (insertByUrgency e q).length = q.length + 1 := by
  induction q with
  | nil => rfl
  | cons y ys ih =>
    unfold insertByUrgency; split
    · rfl
    · simp [ih]

theorem insertByUrgency_perm (e : TxEntry) (q : List TxEntry) : (insertByUrgency e q).Perm (e :: q) := by
  induction q with
  | nil => exact List.Perm.refl _
  | cons y ys ih =>
    unfold insertByUrgency; split
    · exact List.Perm.refl _
    · exact (ih.cons y).trans (List.Perm.swap e y ys)

theorem insertByUrgency_sorted (e : TxEntry) (q : List TxEntry)
    (h : q.Pairwise (fun a b => a.urgency ≤ b.urgency)) :
    (insertByUrgency e q).Pairwise (fun a b => a.urgency ≤ b.urgency) := by
  induction q with
  | nil => simp [insertByUrgency]
  | cons y ys ih =>
    rw [List.pairwise_cons] at h
    unfold insertByUrgency; split
    · rename_i hlt
      rw [List.pairwise_cons]
      refine ⟨?_, List.pairwise_cons.mpr h⟩
      intro z hz
      rcases List.mem_cons.mp hz with rfl | hz
      · exact Nat.le_of_lt hlt
      · exact Nat.le_trans (Nat.le_of_lt hlt) (h.1 z hz)
    · rename_i hge
      rw [List.pairwise_cons]
      refine ⟨?_, ih h.2⟩
      intro z hz
      rcases (mem_insertByUrgency e z ys).mp hz with rfl | hz
      · exact Nat.le_of_not_lt hge
      · exact h.1 z hz

@[simp] theorem length_replaceHoldState (f : OutFrame) (q : List TxEntry) :
    (replaceHoldState f q).length = q.length := by
  simp [replaceHoldState]

/-- R149: the frame taken from a full queue and the frames left are the queue's frames, in their order. -/
theorem takeYoungest_spec {q : List TxEntry} {v : TxEntry} {rest : List TxEntry}
    (h : takeYoungest q = some (v, rest)) :
    q.Perm (v :: rest) ∧ rest.Sublist q ∧ v.onBus = false := by
  induction q generalizing rest with
  | nil => simp [takeYoungest] at h
  | cons x xs ih =>
    unfold takeYoungest at h
    split at h
    · rename_i v' rest' h'
      obtain ⟨rfl, rfl⟩ : v' = v ∧ x :: rest' = rest := by simpa using h
      obtain ⟨hp, hs, hb⟩ := ih h'
      exact ⟨(hp.cons x).trans (List.Perm.swap v' x rest'), hs.cons_cons x, hb⟩
    · split at h
      · simp at h
      · rename_i hb
        obtain ⟨rfl, rfl⟩ : x = v ∧ xs = rest := by simpa using h
        exact ⟨List.Perm.refl _, List.sublist_cons_self x xs, by simpa using hb⟩

/-- R147, R148: with room in the queue an offer discards nothing. -/
theorem enqueue_of_room (e : TxEntry) (q : List TxEntry) (h : q.length < Config.transmitCapacity) :
    (enqueue e q).2 = none := by
  unfold enqueue; split
  · rfl
  · rfl

theorem enqueue_length_le (e : TxEntry) (q : List TxEntry) (h : q.length < Config.transmitCapacity) :
    (enqueue e q).1.length ≤ q.length + 1 := by
  unfold enqueue; split
  · simp
  · simp [length_insertByUrgency]

/-- R147, R148: after an offer with room, the frame offered stands in the queue. -/
theorem enqueue_mem (e : TxEntry) (q : List TxEntry) (h : q.length < Config.transmitCapacity) :
    ∃ x ∈ (enqueue e q).1, x.frame = e.frame := by
  unfold enqueue; split
  · rename_i hr
    obtain ⟨hh, ha⟩ : e.isHoldState = true ∧ q.any TxEntry.isHoldState = true := by simpa using hr
    obtain ⟨x, hx, hxh⟩ := List.any_eq_true.mp ha
    refine ⟨{ x with frame := e.frame, replaced := x.onBus }, ?_, rfl⟩
    simp only [replaceHoldState, List.mem_map]
    exact ⟨x, hx, by simp [hxh]⟩
  · exact ⟨e, (mem_insertByUrgency e e q).mpr (Or.inl rfl), rfl⟩

/-- R147, R148: an offer with room leaves the other frames, but for a HOLD_STATE that is replaced. -/
theorem enqueue_keeps (e x : TxEntry) (q : List TxEntry) (h : q.length < Config.transmitCapacity)
    (hx : x ∈ q) : x.isHoldState = true ∨ x ∈ (enqueue e q).1 := by
  by_cases hh : x.isHoldState = true
  · exact Or.inl hh
  · right
    unfold enqueue; split
    · simp only [replaceHoldState, List.mem_map]
      exact ⟨x, hx, by simp [hh]⟩
    · exact (mem_insertByUrgency e x q).mpr (Or.inr hx)

/-- R147, R148: an offer with room adds no frame but the one offered, which replaces a HOLD_STATE or is
new. -/
theorem enqueue_adds (e x : TxEntry) (q : List TxEntry) (h : q.length < Config.transmitCapacity)
    (hx : x ∈ (enqueue e q).1) : x ∈ q ∨ x.frame = e.frame := by
  unfold enqueue at hx; split at hx
  · simp only [replaceHoldState, List.mem_map] at hx
    obtain ⟨y, hy, rfl⟩ := hx
    by_cases hh : y.isHoldState = true
    · right; simp [hh]
    · left; simpa [hh] using hy
  · rcases (mem_insertByUrgency e x q).mp hx with rfl | hx
    · exact Or.inr rfl
    · exact Or.inl hx

/-! ### Offers with room -/

/-- An offer with room only puts the frame into the queue. -/
theorem State.offer_of_room (s : State) (f : OutFrame) (o : Option Nat) (h : s.hasRoom 1) :
    s.offer f o = if s.serving then s.setQueue (enqueue (.offered f o) s.port.queue).1 else s := by
  have hlt : s.port.queue.length < Config.transmitCapacity := h
  unfold State.offer
  by_cases hs : s.serving = true
  · rw [if_pos hs, if_pos hs]
    have := enqueue_of_room (.offered f o) s.port.queue hlt
    split
    · rename_i q heq; rw [heq]
    · rename_i q e heq; rw [heq] at this; simp at this
  · rw [if_neg hs, if_neg hs]

theorem State.offerReport_of_room (s : State) (f : OutFrame) (h : s.hasRoom 1) :
    s.offerReport f = if s.serving then s.setQueue (enqueue (.offered f none) s.port.queue).1 else s := by
  have hlt : s.port.queue.length < Config.transmitCapacity := h
  unfold State.offerReport
  rw [enqueue_of_room _ _ hlt]
  rfl

/-- The state in which an incident leaves the capture (R153, step 1). -/
def State.noted (s : State) (inc : Incident) : State := if isAlarm inc.kind then s.captureAlarm inc else s

theorem State.captureAlarm_serving (s : State) (inc : Incident) :
    (s.captureAlarm inc).serving = s.serving := by
  unfold State.captureAlarm; split <;> rfl

theorem State.captureAlarm_port (s : State) (inc : Incident) : (s.captureAlarm inc).port = s.port := by
  unfold State.captureAlarm; split <;> rfl

theorem State.noted_port (s : State) (inc : Incident) : (s.noted inc).port = s.port := by
  unfold State.noted; split
  · exact s.captureAlarm_port inc
  · rfl

theorem State.raise_eq_offerReport (s : State) (inc : Incident) :
    s.raise inc = (s.noted inc).offerReport (s.reportOf inc) := by
  unfold State.raise State.noted State.reportOf
  by_cases h : isAlarm inc.kind = true
  · cases s.capture <;> simp [h]
  · simp [h]

theorem State.apartFromFrames_offerReport_of_room (s : State) (f : OutFrame) (h : s.hasRoom 1) :
    (s.offerReport f).apartFromFrames = s.apartFromFrames := by
  rw [State.offerReport_of_room s f h]; split <;> rfl

theorem State.apartFromFrames_offer_of_room (s : State) (f : OutFrame) (o : Option Nat) (h : s.hasRoom 1) :
    (s.offer f o).apartFromFrames = s.apartFromFrames := by
  rw [State.offer_of_room s f o h]; split <;> rfl

theorem State.hasRoom_noted (s : State) (inc : Incident) (n : Nat) :
    (s.noted inc).hasRoom n ↔ s.hasRoom n := by
  unfold State.hasRoom; rw [State.noted_port]

theorem State.apartFromFrames_raise_of_room (s : State) (inc : Incident) (h : s.hasRoom 1) :
    (s.raise inc).apartFromFrames = (s.noted inc).apartFromFrames := by
  rw [State.raise_eq_offerReport,
    State.apartFromFrames_offerReport_of_room _ _ ((State.hasRoom_noted s inc 1).mpr h)]

theorem State.apartFromFrames_offerHoldState_of_room (s : State) (h : s.hasRoom 1) :
    s.offerHoldState.apartFromFrames = s.apartFromFrames := by
  unfold State.offerHoldState; split
  · rw [State.apartFromFrames_offer_of_room]
    · rfl
    · exact h
  · rfl

/-- Where the mask is formed from. -/
theorem State.formMask_congr {s u : State} (hs : s.slots = u.slots) (hr : s.records = u.records)
    (hl : s.faultLatch = u.faultLatch) (hc : s.capture = u.capture) (hg : s.config = u.config) :
    s.formMask = u.formMask := by
  obtain ⟨⟩ := s; obtain ⟨⟩ := u; subst hs hr hl hc hg; rfl

/-- R128, R131: with room in the queue, forming the mask writes it, offers its HOLD_STATE and restarts the
period timer, and nothing else. -/
theorem State.updateMask_of_room (s : State) (h : s.hasRoom 1) :
    s.updateMask =
      if s.formMask = s.holdMask then s
      else if s.serving then
        { s with holdMask := s.formMask, periodTimer := some (s.time + Config.periodTime) }.setQueue
          (enqueue (.offered (.holdState s.formMask s.nodeState) none) s.port.queue).1
      else { s with holdMask := s.formMask } := by
  unfold State.updateMask
  split
  · rfl
  · unfold State.offerHoldState
    by_cases hs : s.serving = true
    · rw [if_pos hs, if_pos (show State.serving { s with holdMask := s.formMask } = true from hs)]
      rw [State.offer_of_room]
      · exact if_pos hs
      · exact h
    · rw [if_neg hs, if_neg (show ¬State.serving { s with holdMask := s.formMask } = true from hs)]

/-- With room in the queue the mask is formed once: the second time finds it as it is. -/
theorem State.updateMask_updateMask_of_room (s : State) (h : s.hasRoom 1) :
    s.updateMask.updateMask = s.updateMask := by
  have key : s.updateMask.formMask = s.updateMask.holdMask := by
    rw [State.updateMask_of_room s h]
    split
    · assumption
    · split <;> exact State.formMask_congr rfl rfl rfl rfl rfl
  generalize s.updateMask = u at key ⊢
  unfold State.updateMask
  rw [if_pos key]

theorem State.apartFromFrames_updateMask_of_room (s : State) (h : s.hasRoom 1) :
    s.updateMask.apartFromFrames = s.apartFromFrames := by
  rw [State.updateMask_of_room s h]
  split
  · rfl
  · split <;> rfl

theorem State.timeGhosts_port (b s : State) : (b.timeGhosts s).port = s.port := rfl

/-- What follows an event, where the queue has room: nothing changes apart from frames. -/
theorem State.apartFromFrames_settle_of_room (b s : State) (h : s.hasRoom 1) :
    (b.settle s).apartFromFrames = s.apartFromFrames := by
  have h' : (b.timeGhosts s).hasRoom 1 := h
  unfold State.settle
  rw [State.apartFromFrames_setLines, State.updateMask_updateMask_of_room _ h',
    State.apartFromFrames_updateMask_of_room _ h', State.apartFromFrames_timeGhosts]

/-- What follows an event, where the queue has room: a frame in the queue stays, unless it is a HOLD_STATE. -/
theorem State.settle_keeps_of_room (b s : State) (h : s.hasRoom 1) (x : TxEntry) (hx : x ∈ s.port.queue) :
    x.isHoldState = true ∨ x ∈ (b.settle s).port.queue := by
  have h' : (b.timeGhosts s).hasRoom 1 := h
  unfold State.settle
  rw [State.updateMask_updateMask_of_room _ h', State.updateMask_of_room _ h']
  split
  · exact Or.inr hx
  · split
    · exact enqueue_keeps _ x _ h hx
    · exact Or.inr hx

/-- What follows an event, where the queue has room: it adds no frame but a HOLD_STATE. -/
theorem State.settle_adds_of_room (b s : State) (h : s.hasRoom 1) (x : TxEntry)
    (hx : x ∈ (b.settle s).port.queue) : x ∈ s.port.queue ∨ x.isHoldState = true := by
  have h' : (b.timeGhosts s).hasRoom 1 := h
  unfold State.settle at hx
  rw [State.updateMask_updateMask_of_room _ h', State.updateMask_of_room _ h'] at hx
  split at hx
  · exact Or.inl hx
  · split at hx
    · rcases enqueue_adds _ x _ h hx with hx | hx
      · exact Or.inl hx
      · right
        unfold TxEntry.isHoldState
        rw [hx]; rfl
    · exact Or.inl hx

/-! ### Completion -/

/-- How a claim `Leaves` is shown of a command that offers nothing itself. -/
theorem Leaves.of_finish {c : Instr} {s u v : State} (hc : exec c s = finish s v)
    (hr : v.apartFromReports = u.apartFromReports) (hf : s.hasRoom 1 → v.apartFromFrames = u.apartFromFrames)
    (hq : v.port.queue = s.port.queue) : Leaves c s u [] := by
  refine ⟨s.settle v, hc, ?_, ?_⟩
  · rw [State.apartFromReports_settle]; exact hr
  · intro h
    have hv : v.hasRoom 1 := by unfold State.hasRoom; rw [hq]; exact h
    refine ⟨?_, ?_, ?_, ?_⟩
    · rw [State.apartFromFrames_settle_of_room _ _ hv]; exact hf h
    · intro f hfm; exact absurd hfm (List.not_mem_nil)
    · intro e he; exact State.settle_keeps_of_room s v hv e (hq ▸ he)
    · intro e he
      rcases State.settle_adds_of_room s v hv e he with he | he
      · exact Or.inl (hq ▸ he)
      · exact Or.inr (Or.inr he)

end Sys2Proof.Machine
end

