-- ==== Sys2Proof/Laws/Leaves.lean ====
section
/-! SUPPORT. How a claim `Leaves` is shown of a command that offers frames: the body of the command is
followed offer by offer with `Reported`, and `Leaves.of_reported` adds what follows every command. -/

namespace Sys2Proof.Machine

/-- From `s` the body of a command has come to `v`, which is `u` but for the frames `sends` it has offered. -/
def Reported (s v u : State) (sends : List OutFrame) : Prop :=
  v.apartFromReports = u.apartFromReports
    ∧ (s.hasRoom sends.length →
        v.apartFromFrames = u.apartFromFrames
        ∧ v.port.queue.length ≤ s.port.queue.length + sends.length
        ∧ (∀ f ∈ sends, ∃ e ∈ v.port.queue, e.frame = f)
        ∧ (∀ e ∈ s.port.queue, e.isHoldState = true ∨ e ∈ v.port.queue)
        ∧ (∀ e ∈ v.port.queue, e ∈ s.port.queue ∨ e.frame ∈ sends))

/-- A body that offers nothing. -/
theorem Reported.of_queue {s v : State} (h : v.port.queue = s.port.queue) : Reported s v v [] :=
  ⟨rfl, fun _ => ⟨rfl, by simp [h], by simp, fun e he => Or.inr (h ▸ he), fun e he => Or.inl (h ▸ he)⟩⟩

/-- What the body is compared with may be written in another way. -/
theorem Reported.congr {s v u w : State} {sends : List OutFrame} (h : Reported s v u sends)
    (hr : u.apartFromReports = w.apartFromReports)
    (hf : s.hasRoom sends.length → u.apartFromFrames = w.apartFromFrames) : Reported s v w sends :=
  ⟨h.1.trans hr, fun hs => ⟨(h.2 hs).1.trans (hf hs), (h.2 hs).2⟩⟩

/-- Two states alike apart from frames are alike for `Reported`. -/
theorem Reported.congr_frames {s v u w : State} {sends : List OutFrame} (h : Reported s v u sends)
    (hf : u.apartFromFrames = w.apartFromFrames) : Reported s v w sends :=
  h.congr (State.apartFromReports_of_frames hf) (fun _ => hf)

theorem State.hasRoom_mono {s : State} {m n : Nat} (hmn : m ≤ n) (h : s.hasRoom n) : s.hasRoom m :=
  Nat.le_trans (Nat.add_le_add_left hmn _) h

/-- The room that is left after some offers. -/
theorem Reported.room {s v u : State} {sends : List OutFrame} (h : Reported s v u sends) {n : Nat}
    (hs : s.hasRoom (sends.length + n)) : v.hasRoom n := by
  have h1 := (h.2 (State.hasRoom_mono (Nat.le_add_right _ _) hs)).2.1
  have h2 : s.port.queue.length + (sends.length + n) ≤ Config.transmitCapacity := hs
  show v.port.queue.length + n ≤ Config.transmitCapacity
  omega

theorem OutFrame.kind_of_frame_eq {e : TxEntry} {f : OutFrame} (h : e.frame = f) (hf : f.kind ≠ .holdState) :
    e.isHoldState = false := by
  unfold TxEntry.isHoldState; rw [h]; simpa using hf

/-- One more offer to the queue: of a step that changes nothing else when there is room. -/
theorem Reported.offered {s v u w x : State} {sends : List OutFrame} {f : OutFrame} {o : Option Nat}
    (h : Reported s v u sends) (hk : ∀ g ∈ sends, g.kind ≠ .holdState)
    (hr : w.apartFromReports = x.apartFromReports)
    (hf : v.hasRoom 1 → v.apartFromFrames = u.apartFromFrames →
      w.apartFromFrames = x.apartFromFrames ∧ w.port.queue = (enqueue (.offered f o) v.port.queue).1) :
    Reported s w x (f :: sends) := by
  refine ⟨hr, fun hs => ?_⟩
  have hs0 : s.hasRoom sends.length := State.hasRoom_mono (by simp) hs
  have hv : v.hasRoom 1 := h.room (by simpa [Nat.add_comm] using hs)
  obtain ⟨h1, h2, h3, h4, h5⟩ := h.2 hs0
  obtain ⟨hw, hq⟩ := hf hv h1
  have hlt : v.port.queue.length < Config.transmitCapacity := hv
  refine ⟨hw, ?_, ?_, ?_, ?_⟩
  · rw [hq]
    have := enqueue_length_le (.offered f o) v.port.queue hlt
    simp only [List.length_cons]; omega
  · intro g hg
    rcases List.mem_cons.mp hg with rfl | hg
    · rw [hq]
      obtain ⟨e, he, hef⟩ := enqueue_mem (.offered g o) v.port.queue hlt
      exact ⟨e, he, hef⟩
    · obtain ⟨e, he, hef⟩ := h3 g hg
      refine ⟨e, ?_, hef⟩
      rw [hq]
      rcases enqueue_keeps (.offered f o) e v.port.queue hlt he with hh | hh
      · rw [OutFrame.kind_of_frame_eq hef (hk g hg)] at hh; exact absurd hh (by simp)
      · exact hh
  · intro e he
    rcases h4 e he with hh | hh
    · exact Or.inl hh
    · rw [hq]; exact enqueue_keeps _ _ _ hlt hh
  · intro e he
    rw [hq] at he
    rcases enqueue_adds _ _ _ hlt he with hh | hh
    · rcases h5 e hh with hh | hh
      · exact Or.inl hh
      · exact Or.inr (List.mem_cons_of_mem _ hh)
    · exact Or.inr (by rw [hh]; exact List.mem_cons_self)

/-- An offer in service. -/
theorem Reported.offer {s v u : State} {sends : List OutFrame} (h : Reported s v u sends)
    (hk : ∀ g ∈ sends, g.kind ≠ .holdState) (hv : v.serving = true) (f : OutFrame) (o : Option Nat) :
    Reported s (v.offer f o) u (f :: sends) := by
  refine h.offered (o := o) hk ((State.apartFromReports_offer v f o).trans h.1) (fun hr hu => ?_)
  refine ⟨(State.apartFromFrames_offer_of_room v f o hr).trans hu, ?_⟩
  rw [State.offer_of_room v f o hr, if_pos hv]; rfl

/-- The offer of a report in service. -/
theorem Reported.offerReport {s v u : State} {sends : List OutFrame} (h : Reported s v u sends)
    (hk : ∀ g ∈ sends, g.kind ≠ .holdState) (hv : v.serving = true) (f : OutFrame) :
    Reported s (v.offerReport f) u (f :: sends) := by
  refine h.offered (o := none) hk ((State.apartFromReports_offerReport v f).trans h.1) (fun hr hu => ?_)
  refine ⟨(State.apartFromFrames_offerReport_of_room v f hr).trans hu, ?_⟩
  rw [State.offerReport_of_room v f hr, if_pos hv]; rfl

/-- A change of the state between two offers, alike in `v` and `u`. -/
theorem Reported.map {s v u v' u' : State} {sends : List OutFrame} (h : Reported s v u sends)
    (hr : v.apartFromReports = u.apartFromReports → v'.apartFromReports = u'.apartFromReports)
    (hf : v.apartFromFrames = u.apartFromFrames → v'.apartFromFrames = u'.apartFromFrames)
    (hq : v'.port.queue = v.port.queue) : Reported s v' u' sends :=
  ⟨hr h.1, fun hs => by
    obtain ⟨h1, h2, h3, h4, h5⟩ := h.2 hs
    exact ⟨hf h1, by rw [hq]; exact h2, by rw [hq]; exact h3, by rw [hq]; exact h4, by rw [hq]; exact h5⟩⟩

theorem State.noted_serving (s : State) (inc : Incident) : (s.noted inc).serving = s.serving := by
  unfold State.noted; split
  · exact s.captureAlarm_serving inc
  · rfl

/-- The latching of an alarm does not read the frames. -/
theorem State.captureAlarm_apartFromFrames (v : State) (inc : Incident) :
    (v.captureAlarm inc).apartFromFrames = v.apartFromFrames.captureAlarm inc := by
  obtain ⟨⟩ := v
  unfold State.captureAlarm State.apartFromFrames
  dsimp only
  split <;> rfl

/-- States alike apart from frames are alike after the latching of an alarm. -/
theorem State.captureAlarm_congr {v u : State} (inc : Incident) (h : v.apartFromFrames = u.apartFromFrames) :
    (v.captureAlarm inc).apartFromFrames = (u.captureAlarm inc).apartFromFrames := by
  rw [State.captureAlarm_apartFromFrames, h, State.captureAlarm_apartFromFrames]

/-- Raising an alarm in service, as the first report of the body. -/
theorem Reported.raise_alarm {s v u : State} {sends : List OutFrame} (h : Reported s v u sends)
    (hk : ∀ g ∈ sends, g.kind ≠ .holdState) (hv : v.serving = true) (inc : Incident)
    (ha : isAlarm inc.kind = true) :
    Reported s (v.raise inc) (u.captureAlarm inc) (v.reportOf inc :: sends) := by
  rw [State.raise_eq_offerReport]
  have hn : v.noted inc = v.captureAlarm inc := by unfold State.noted; rw [if_pos ha]
  rw [hn]
  refine Reported.offerReport ?_ hk (by rw [State.captureAlarm_serving]; exact hv) _
  exact h.map (fun hr => by simpa using hr) (State.captureAlarm_congr inc)
    (by rw [State.captureAlarm_port])

/-- Raising a notice in service. -/
theorem Reported.raise_notice {s v u : State} {sends : List OutFrame} (h : Reported s v u sends)
    (hk : ∀ g ∈ sends, g.kind ≠ .holdState) (hv : v.serving = true) (inc : Incident)
    (ha : isAlarm inc.kind = false) :
    Reported s (v.raise inc) u (.incident inc false :: sends) := by
  rw [State.raise_eq_offerReport]
  have hn : v.noted inc = v := by unfold State.noted; rw [if_neg (by simp [ha])]
  have hr : v.reportOf inc = .incident inc false := by unfold State.reportOf; rw [ha]; rfl
  rw [hn, hr]
  exact h.offerReport hk hv _

/-- A command whose body offers `sends` leaves the machine as that body does. -/
theorem Leaves.of_reported {c : Instr} {s v u : State} {sends : List OutFrame} (hc : exec c s = finish s v)
    (h : Reported s v u sends) (hk : ∀ g ∈ sends, g.kind ≠ .holdState) : Leaves c s u sends := by
  refine ⟨s.settle v, hc, ?_, ?_⟩
  · rw [State.apartFromReports_settle]; exact h.1
  · intro hs
    have hs0 : s.hasRoom sends.length := State.hasRoom_mono (by simp) hs
    have hv : v.hasRoom 1 := h.room hs
    obtain ⟨h1, h2, h3, h4, h5⟩ := h.2 hs0
    refine ⟨?_, ?_, ?_, ?_⟩
    · rw [State.apartFromFrames_settle_of_room _ _ hv]; exact h1
    · intro f hf
      obtain ⟨e, he, hef⟩ := h3 f hf
      rcases State.settle_keeps_of_room s v hv e he with hh | hh
      · rw [OutFrame.kind_of_frame_eq hef (hk f hf)] at hh; exact absurd hh (by simp)
      · exact List.mem_map.mpr ⟨e, hh, hef⟩
    · intro e he
      rcases h4 e he with hh | hh
      · exact Or.inl hh
      · exact State.settle_keeps_of_room s v hv e hh
    · intro e he
      rcases State.settle_adds_of_room s v hv e he with hh | hh
      · rcases h5 e hh with hh | hh
        · exact Or.inl hh
        · exact Or.inr (Or.inl hh)
      · exact Or.inr (Or.inr hh)

end Sys2Proof.Machine
end

