-- ==== Sys2Proof/Laws/Ends.lean ====
section
/-! SUPPORT. What the check of the passages' ends and the reconciliation do (R78 to R80): `Offered.checkEnds`
and `Offered.reconcileAll` say once that the machine's own work leaves what `State.afterEnds` and
`State.afterReconcile` say, and offers their frames; `LeavesThenEnds.of_offered` makes a claim of the first. -/

namespace Sys2Proof.Machine

/-! ### Bodies that offer reports and otherwise act alike -/

/-- The state with other contents of what an offered report can touch: capture and transmit queue. -/
def State.withOffers (s : State) (c : Option Captured) (n : Nat) (q : List TxEntry) : State :=
  { s with capture := c, furtherAlarms := n, port := { s.port with queue := q } }

/-- From `s` the body of a command has come to `v`, which is `u` but for what its reports have touched; with
room it is `u` but for the transmit queue, in which the frames `sends` stand. -/
structure Offered (s v u : State) (sends : List OutFrame) : Prop where
  alike : v = u.withOffers v.capture v.furtherAlarms v.port.queue
  room : s.hasRoom sends.length →
    v = u.setQueue v.port.queue
    ∧ v.port.queue.length ≤ s.port.queue.length + sends.length
    ∧ (∀ f ∈ sends, ∃ e ∈ v.port.queue, e.frame = f)
    ∧ (∀ e ∈ s.port.queue, e.isHoldState = true ∨ e ∈ v.port.queue)
    ∧ (∀ e ∈ v.port.queue, e ∈ s.port.queue ∨ e.frame ∈ sends)

theorem Offered.reported {s v u : State} {sends : List OutFrame} (h : Offered s v u sends) :
    Reported s v u sends :=
  ⟨by rw [h.alike]; rfl, fun hs => by
    obtain ⟨h1, h2⟩ := h.room hs
    exact ⟨by rw [h1]; rfl, h2⟩⟩

/-- A body that offers nothing. -/
theorem Offered.of_queue {s v : State} (h : v.port.queue = s.port.queue) : Offered s v v [] :=
  ⟨rfl, fun _ => ⟨rfl, by simp [h], by simp, fun e he => Or.inr (h ▸ he), fun e he => Or.inl (h ▸ he)⟩⟩

/-- Only which frames are offered counts, and how many. -/
theorem Offered.perm {s v u : State} {sends sends' : List OutFrame} (h : Offered s v u sends)
    (hp : sends.Perm sends') : Offered s v u sends' :=
  ⟨h.alike, fun hs => by
    rw [← hp.length_eq] at hs ⊢
    obtain ⟨h1, h2, h3, h4, h5⟩ := h.room hs
    exact ⟨h1, h2, fun f hf => h3 f (hp.mem_iff.mpr hf), h4, fun e he => (h5 e he).imp id hp.mem_iff.mp⟩⟩

/-- A change that neither reads nor writes capture and queue. -/
theorem Offered.map {s v u : State} {sends : List OutFrame} (h : Offered s v u sends) (g : State → State)
    (hg : ∀ x c n q, g (x.withOffers c n q) = (g x).withOffers c n q) : Offered s (g v) (g u) sends := by
  have hv : g v = (g v).withOffers v.capture v.furtherAlarms v.port.queue := hg v _ _ _
  have hu : g u = (g u).withOffers u.capture u.furtherAlarms u.port.queue := hg u _ _ _
  have hq : (g v).port.queue = v.port.queue := by rw [hv]; rfl
  refine ⟨?_, fun hs => ?_⟩
  · have e : g v = (g u).withOffers v.capture v.furtherAlarms v.port.queue := by
      conv_lhs => rw [h.alike]
      exact hg u _ _ _
    rw [e]; rfl
  · obtain ⟨h1, h2⟩ := h.room hs
    rw [hq]
    refine ⟨?_, h2⟩
    have e : g v = (g u).withOffers u.capture u.furtherAlarms v.port.queue := by
      conv_lhs => rw [h1]
      exact hg u _ _ _
    rw [e]
    conv_rhs => rw [hu]
    rfl

theorem Offered.serving {s v u : State} {sends : List OutFrame} (h : Offered s v u sends) :
    v.serving = u.serving := by rw [h.alike]; rfl

/-- The room that is left after some offers. -/
theorem Offered.left {s v u : State} {sends : List OutFrame} (h : Offered s v u sends) {n : Nat}
    (hs : s.hasRoom (sends.length + n)) : v.hasRoom n := h.reported.room hs

/-- The latching of an alarm, without its frame. -/
theorem Offered.captureAlarm {s v u : State} {sends : List OutFrame} (h : Offered s v u sends) (inc : Incident) :
    Offered s (v.captureAlarm inc) (u.captureAlarm inc) sends := by
  refine ⟨?_, fun hs => ?_⟩
  · have e := h.alike
    unfold State.captureAlarm
    split <;> split <;> (dsimp only; rw [e]; rfl)
  · obtain ⟨h1, h2⟩ := h.room hs
    rw [State.captureAlarm_port]
    refine ⟨?_, h2⟩
    rw [h1]; unfold State.captureAlarm; dsimp only [State.setQueue]; split <;> rfl

/-- The offer of a report in service. -/
theorem Offered.offerReport {s v u : State} {sends : List OutFrame} (h : Offered s v u sends)
    (hk : ∀ g ∈ sends, g.kind ≠ .holdState) (hv : v.serving = true) (f : OutFrame) :
    Offered s (v.offerReport f) u (f :: sends) := by
  refine ⟨?_, fun hs => ?_⟩
  · have e := h.alike
    unfold State.offerReport State.noteDiscard
    rw [if_pos hv]
    split
    · dsimp only [State.setQueue]; rw [e]; rfl
    · unfold State.captureAlarm; dsimp only [State.setQueue]; split <;> (dsimp only; rw [e]; rfl)
  · have hs0 : s.hasRoom sends.length := State.hasRoom_mono (by simp) hs
    have hr : v.hasRoom 1 := h.left (by simpa [Nat.add_comm] using hs)
    refine ⟨?_, ((h.reported.offerReport hk hv f).2 hs).2⟩
    rw [State.offerReport_of_room v f hr, if_pos hv]
    rw [(h.room hs0).1]; rfl

/-- The urgency number of a frame is at most 3. -/
theorem OutFrame.urgency_le (f : OutFrame) : f.urgency ≤ 3 := by
  unfold OutFrame.urgency; cases f.kind <;> decide

/-- R149: an offer of urgency 3 discards no frame but itself, so it is a report. -/
theorem State.offer_eq_offerReport (s : State) (f : OutFrame) (hf : f.urgency = 3) :
    s.offer f none = s.offerReport f := by
  have key : (enqueue (.offered f none) s.port.queue).2 = none
      ∨ (enqueue (.offered f none) s.port.queue).2 = some (.offered f none) := by
    unfold enqueue
    split
    · exact Or.inl rfl
    · split
      · exact Or.inl rfl
      · split
        · rename_i v rest hv
          have : ¬(TxEntry.offered f none).urgency < v.urgency := by
            have h1 : (TxEntry.offered f none).urgency = 3 := hf
            have h2 : v.urgency ≤ 3 := v.frame.urgency_le
            omega
          rw [if_neg this]
          exact Or.inr rfl
        · exact Or.inr rfl
  unfold State.offer State.offerReport
  split
  · generalize enqueue (.offered f none) s.port.queue = r at key
    obtain ⟨q, d⟩ := r
    rcases key with key | key <;> (dsimp only at key; subst key; rfl)
  · rfl

/-- Raising an alarm in service. -/
theorem Offered.raise_alarm {s v u : State} {sends : List OutFrame} (h : Offered s v u sends)
    (hk : ∀ g ∈ sends, g.kind ≠ .holdState) (hv : v.serving = true) (inc : Incident)
    (ha : isAlarm inc.kind = true) : Offered s (v.raise inc) (u.captureAlarm inc) (u.reportOf inc :: sends) := by
  have hn : v.raise inc = (v.captureAlarm inc).offerReport (v.reportOf inc) := by
    rw [State.raise_eq_offerReport]; unfold State.noted; rw [if_pos ha]
  have hm := (h.captureAlarm inc).offerReport hk (by rw [State.captureAlarm_serving]; exact hv) (v.reportOf inc)
  rw [hn]
  refine ⟨hm.alike, fun hs => ?_⟩
  have hc : v.capture = u.capture := by
    rw [(h.room (State.hasRoom_mono (by simp) hs)).1]; rfl
  have he : u.reportOf inc = v.reportOf inc := by unfold State.reportOf; rw [hc]
  rw [he]; exact hm.room hs

/-- Raising a notice in service. -/
theorem Offered.raise_notice {s v u : State} {sends : List OutFrame} (h : Offered s v u sends)
    (hk : ∀ g ∈ sends, g.kind ≠ .holdState) (hv : v.serving = true) (inc : Incident)
    (ha : isAlarm inc.kind = false) : Offered s (v.raise inc) u (.incident inc false :: sends) := by
  have hn : v.raise inc = v.offerReport (.incident inc false) := by
    unfold State.raise; rw [if_neg (by simp [ha])]
  rw [hn]
  exact h.offerReport hk hv _

/-! ### The watch table (R158) -/

/-- R158: the tags of a passage end, looked for in turn. -/
theorem State.checkWatches_eq_foldl (s : State) (k : SlotIx) (leg : Leg) (r : Record) :
    s.checkWatches k leg r = r.watchable.foldl (fun t tag => t.checkWatch k leg tag) s := by
  unfold State.checkWatches Record.watchable
  cases r.companion <;> rfl

/-- R158: the tags that are watched leave the table, and each offers its WATCH_HIT. -/
theorem Offered.checkWatches {s : State} {k : SlotIx} {leg : Leg} (tags : List Tag) {v u : State}
    {sends : List OutFrame} (h : Offered s v u sends) (hk : ∀ g ∈ sends, g.kind ≠ .holdState)
    (hv : v.serving = true) :
    Offered s (tags.foldl (fun t tag => t.checkWatch k leg tag) v)
        { u with watches := tags.foldl List.erase u.watches }
        ((watchedTags u.watches tags).map (fun tag => .watchHit tag k leg) ++ sends)
      ∧ (tags.foldl (fun t tag => t.checkWatch k leg tag) v).serving = true := by
  induction tags generalizing v u sends with
  | nil => exact ⟨h, hv⟩
  | cons tag tags ih =>
    have hw : v.watches = u.watches := by rw [h.alike]; rfl
    simp only [List.foldl_cons]
    by_cases ht : tag ∈ u.watches
    · have e : v.checkWatch k leg tag
          = ({ v with watches := v.watches.erase tag } : State).offerReport (.watchHit tag k leg) := by
        unfold State.checkWatch
        rw [if_pos (by rw [hw]; exact ht), State.offer_eq_offerReport _ _ rfl]
      have h1 : Offered s (v.checkWatch k leg tag) { u with watches := u.watches.erase tag }
          (.watchHit tag k leg :: sends) := by
        rw [e]
        exact (h.map (fun x => { x with watches := x.watches.erase tag }) (fun _ _ _ _ => rfl)).offerReport hk hv _
      have hk1 : ∀ g ∈ OutFrame.watchHit tag k leg :: sends, g.kind ≠ .holdState := by
        intro g hg
        rcases List.mem_cons.mp hg with rfl | hg
        · simp [OutFrame.kind]
        · exact hk g hg
      obtain ⟨h2, h3⟩ := ih h1 hk1 (by rw [h1.serving, ← hv, h.serving]; rfl)
      refine ⟨?_, h3⟩
      rw [show watchedTags u.watches (tag :: tags) = tag :: watchedTags (u.watches.erase tag) tags from if_pos ht]
      exact h2.perm (List.perm_middle)
    · have e : v.checkWatch k leg tag = v := by
        unfold State.checkWatch; rw [if_neg (by rw [hw]; exact ht)]
      rw [e, List.erase_of_not_mem ht,
        show watchedTags u.watches (tag :: tags) = watchedTags u.watches tags from if_neg ht]
      exact ih h hk hv

/-! ### The end of one passage (R79) -/

/-- R79, steps 1 and 2: the frames of a passage's end, but for the alarm of a displaced wait-list entry. -/
def State.arrivalFrames (s : State) (k : SlotIx) (p : Passage) : List OutFrame :=
  let r := s.record p.record
  match p.taken with
  | none => []
  | some leg =>
    (match (s.slotCfg k).legEnd leg with
      | .slot _ _ => []
      | .track n => [arrivalFrame k leg n r])
      ++ (watchedTags s.watches r.watchable).map (fun tag => .watchHit tag k leg)

theorem State.arrivalFrames_kind (s : State) (k : SlotIx) (p : Passage) :
    ∀ g ∈ s.arrivalFrames k p, g.kind ≠ .holdState := by
  intro g hg
  unfold State.arrivalFrames at hg
  split at hg
  · simp at hg
  · rcases List.mem_append.mp hg with hg | hg
    · split at hg
      · simp at hg
      · rw [List.mem_singleton.mp hg]; simp [arrivalFrame, OutFrame.kind]
    · obtain ⟨t, -, rfl⟩ := List.mem_map.mp hg; simp [OutFrame.kind]

/-- R79, steps 1 and 2. -/
theorem Offered.reportEnd {s v u : State} {sends : List OutFrame} (h : Offered s v u sends)
    (hk : ∀ g ∈ sends, g.kind ≠ .holdState) (hv : v.serving = true) (k : SlotIx) (p : Passage) :
    Offered s (v.reportEnd k p)
        { u with watches := if p.taken = none then u.watches
            else (u.record p.record).watchable.foldl List.erase u.watches }
        (u.arrivalFrames k p ++ sends)
      ∧ (v.reportEnd k p).serving = true := by
  have hr : v.record p.record = u.record p.record := by rw [h.alike]; rfl
  have hc : v.slotCfg k = u.slotCfg k := by rw [h.alike]; rfl
  unfold State.reportEnd State.arrivalFrames
  split
  · rename_i ht
    rw [ht]; exact ⟨h, hv⟩
  · rename_i leg ht
    rw [ht, hr, State.checkWatches_eq_foldl]
    unfold State.reportArrival
    rw [hc]
    dsimp only
    rw [if_neg (by simp)]
    cases (u.slotCfg k).legEnd leg with
    | slot a b => simpa using Offered.checkWatches _ h hk hv
    | track n =>
      dsimp only
      rw [State.offer_eq_offerReport _ _ rfl]
      have h1 := h.offerReport hk hv (arrivalFrame k leg n (u.record p.record))
      have hk1 : ∀ g ∈ arrivalFrame k leg n (u.record p.record) :: sends, g.kind ≠ .holdState := by
        intro g hg
        rcases List.mem_cons.mp hg with rfl | hg
        · simp [arrivalFrame, OutFrame.kind]
        · exact hk g hg
      obtain ⟨h2, h3⟩ := Offered.checkWatches (k := k) (leg := leg) (u.record p.record).watchable h1 hk1
        (by rw [h1.serving, ← h.serving]; exact hv)
      refine ⟨h2.perm ?_, h3⟩
      rw [List.append_assoc, List.singleton_append]
      exact List.perm_middle

/-- R96: the alarm of the entry that a full wait list gives up at a passage's end. -/
def State.displacedFrames (s : State) (p : Passage) : List OutFrame :=
  match p.handoff with
  | .none => []
  | .local _ => []
  | .sent n =>
    if s.isPending n = false then []
    else
      match s.displaced with
      | none => []
      | some (e, h) => [s.reportOf (s.lostEntry e h)]

theorem State.endFrames_eq (s : State) (k : SlotIx) (p : Passage) :
    s.endFrames k p = s.arrivalFrames k p ++ s.displacedFrames p := rfl

/-- R95: a context that is not PENDING is not lost. -/
theorem State.lose_of_not_pending (s : State) (n : Nat) (h : s.isPending n = false) : s.lose n = s := by
  unfold State.isPending at h
  unfold State.lose
  cases hx : s.handoff? n with
  | none => rfl
  | some x =>
    rw [hx] at h
    dsimp only at h ⊢
    cases hs : x.status with
    | pending a t => rw [hs] at h; simp at h
    | resolved o => rfl

/-- R91: what the loss of a PENDING context does. -/
theorem State.lose_of_pending (s : State) (n : Nat) (x : Handoff) (hx : s.handoff? n = some x)
    (h : s.isPending n = true) :
    s.lose n = ({ s with faultLatch := true }.raise (s.lostIncident x)).resolve n .lost := by
  unfold State.isPending at h
  unfold State.lose
  rw [hx] at h ⊢
  dsimp only at h ⊢
  cases hs : x.status with
  | pending a t => rfl
  | resolved o => rw [hs] at h; simp at h

/-- R96: nothing is displaced, and a full wait list makes no room. -/
theorem State.makeRoom_of_displaced_none (s : State) (h : s.displaced = none) : s.makeRoom = s := by
  unfold State.displaced at h
  unfold State.makeRoom
  split
  · rfl
  · rename_i hl
    split
    · rfl
    · rename_i e rest hw
      rw [hw] at h
      dsimp only at h
      by_cases hp : s.isPending e.handoff = false
      · exact s.lose_of_not_pending _ hp
      · exfalso
        rw [if_neg (by rw [← hw]; exact not_or.mpr ⟨hl, hp⟩)] at h
        cases hh : s.handoff? e.handoff with
        | none => unfold State.isPending at hp; rw [hh] at hp; exact hp rfl
        | some x => rw [hh] at h; simp at h

/-- R96: the displaced entry is the oldest, and its context is lost. -/
theorem State.makeRoom_of_displaced (s : State) (e : WaitEntry) (x : Handoff) (h : s.displaced = some (e, x)) :
    (∃ rest, s.waitList = e :: rest) ∧ s.makeRoom = s.lose e.handoff ∧ s.handoff? e.handoff = some x
      ∧ s.isPending e.handoff = true := by
  unfold State.displaced at h
  split at h
  · simp at h
  · rename_i e' rest hw
    split at h
    · simp at h
    · rename_i hc
      obtain ⟨hl, hp⟩ := not_or.mp hc
      rw [Option.map_eq_some_iff] at h
      obtain ⟨y, hy, hyx⟩ := h
      obtain ⟨rfl, rfl⟩ : e' = e ∧ y = x := by simpa using hyx
      refine ⟨⟨rest, hw⟩, ?_, hy, by simpa using hp⟩
      unfold State.makeRoom
      rw [if_neg (show ¬s.waitList.length < Config.waitCapacity from hl), hw]

/-- R91, R96: the alarm names the record of the entry. -/
theorem State.lostIncident_of_head (s : State) (e : WaitEntry) (rest : List WaitEntry) (x : Handoff)
    (hw : s.waitList = e :: rest) (hx : s.handoff? e.handoff = some x) : s.lostIncident x = s.lostEntry e x := by
  have hn : x.number = e.handoff := by
    have := List.find?_some hx; simpa using this
  have : s.handoffRecord x = s.record e.record := by
    unfold State.handoffRecord; rw [hw, hn]; simp
  unfold State.lostIncident State.lostEntry; rw [this]

/-- R79, step 3: the record is freed or joins the wait list. -/
theorem Offered.placeRecord {s v u : State} {sends : List OutFrame} {w : List Tag} (p : Passage)
    (h : Offered s v { u with watches := w } sends) (hk : ∀ g ∈ sends, g.kind ≠ .holdState)
    (hv : v.serving = true)
    (hw : w = if p.taken = none then u.watches else (u.record p.record).watchable.foldl List.erase u.watches) :
    Offered s (v.placeRecord p.record p.handoff) (u.afterEnd p) (u.displacedFrames p ++ sends) := by
  unfold State.placeRecord State.afterEnd State.displacedFrames
  rw [← hw]
  rcases p.handoff with _ | n | r
  rotate_left 2
  · exact h.map (fun x => x.freeRecord p.record) (fun _ _ _ _ => rfl)
  · exact h.map (fun x => x.freeRecord p.record) (fun _ _ _ _ => rfl)
  · have hp : v.isPending n = u.isPending n := by rw [h.alike]; rfl
    have hd : v.displaced = u.displaced := by rw [h.alike]; rfl
    dsimp only
    rw [hp]
    cases hq : u.isPending n with
    | false => exact h.map (fun x => (x.dropHandoff n).freeRecord p.record) (fun _ _ _ _ => rfl)
    | true =>
      have hwl : v.waitList = u.waitList := by rw [h.alike]; rfl
      rw [if_pos rfl, if_neg (by simp), if_neg (by simp)]
      unfold State.joinWaitList
      cases hc : u.displaced with
      | none =>
        rw [v.makeRoom_of_displaced_none (hd.trans hc), hwl]
        exact h.map (fun x => { x with waitList := u.waitList ++ [⟨p.record, n⟩] }) (fun _ _ _ _ => rfl)
      | some ex =>
        obtain ⟨e, x⟩ := ex
        obtain ⟨⟨rest, hr⟩, hm, hx, hpe⟩ := v.makeRoom_of_displaced e x (hd.trans hc)
        have hi : v.lostIncident x = u.lostEntry e x := by
          rw [v.lostIncident_of_head e rest x hr hx, h.alike]; rfl
        have h1 := (h.map (fun y => { y with faultLatch := true }) (fun _ _ _ _ => rfl)).raise_alarm hk hv
          (u.lostEntry e x) rfl
        have hrw : ({ v with faultLatch := true }.raise (u.lostEntry e x)).waitList = e :: rest := by
          rw [h1.alike]
          show (State.captureAlarm _ _).waitList = _
          unfold State.captureAlarm
          split <;> exact hwl.symm.trans hr
        have hres : v.makeRoom = (({ ({ v with faultLatch := true }.raise (u.lostEntry e x)) with
            waitList := rest } : State).dropHandoff e.handoff).freeRecord e.record := by
          rw [hm, v.lose_of_pending _ x hx hpe, hi]
          unfold State.resolve
          rw [hrw]; simp
        have h2 := h1.map (fun y => { (({ y with waitList := rest } : State).dropHandoff e.handoff).freeRecord
          e.record with waitList := rest ++ [⟨p.record, n⟩] }) (fun _ _ _ _ => rfl)
        rw [hres]
        dsimp only
        have htail : u.waitList.tail = rest := by rw [← hwl, hr]; rfl
        rw [htail]
        refine Eq.mp ?_ h2
        congr 1
        unfold State.captureAlarm
        dsimp only
        split <;> rfl

/-! ### The ends of a zone list (R78) -/

/-- R78: the end condition, as the statements say it. -/
theorem Passage.ends_iff (p : Passage) :
    p.ends = true ↔ p.phase = .committed ∧ p.out = p.axlesIn ∧ 0 < p.axlesIn := by
  unfold Passage.ends; simp [and_assoc]

/-- A passage that does not end stops the check. -/
theorem State.afterEnds_of_noneEnds (k : SlotIx) (n : Nat) (u : State) (h : noneEnds (u.slot k).zone) :
    State.afterEnds k n u = (u, []) := by
  cases n with
  | zero => rfl
  | succ n =>
    unfold State.afterEnds
    cases hz : (u.slot k).zone with
    | nil => rfl
    | cons p rest =>
      have hp : p.ends = false := h p (by rw [hz]; rfl)
      have : ¬(p.phase = .committed ∧ p.out = p.axlesIn ∧ 0 < p.axlesIn) := by
        rw [← p.ends_iff]; simp [hp]
      exact if_neg this

/-- The end of the oldest passage, and the check of the one behind it. -/
theorem State.afterEnds_of_ends (k : SlotIx) (n : Nat) (u : State) (p : Passage) (rest : List Passage)
    (hz : (u.slot k).zone = p :: rest) (hp : p.ends = true) :
    State.afterEnds k (n + 1) u =
      let a := u.afterEnd p
      let b := a.setSlot k { a.slot k with zone := rest }
      let w := State.afterEnds k n (if rest = [] then b.evaluateThrow k else b)
      (w.1, u.endFrames k p ++ w.2) := by
  conv_lhs => unfold State.afterEnds
  rw [hz]
  exact if_pos (p.ends_iff.mp hp)

/-- What ends a passage touches no slot. -/
theorem State.slots_afterEnd (u : State) (p : Passage) : (u.afterEnd p).slots = u.slots := by
  unfold State.afterEnd
  rcases p.handoff with _ | n | r
  · rfl
  · dsimp only
    by_cases hp : u.isPending n = false
    · rw [if_pos hp]; rfl
    · rw [if_neg hp]
      cases u.displaced with
      | none => rfl
      | some ex => dsimp only; unfold State.captureAlarm; dsimp only; cases u.capture <;> rfl
  · rfl

/-- A throw evaluation neither reads nor writes capture and queue. -/
theorem State.evaluateThrow_withOffers (k : SlotIx) (x : State) (c : Option Captured) (n : Nat)
    (q : List TxEntry) : (x.withOffers c n q).evaluateThrow k = (x.evaluateThrow k).withOffers c n q := by
  have hs : (x.withOffers c n q).slot k = x.slot k := rfl
  unfold State.evaluateThrow
  rw [hs]
  cases (x.slot k).queue with
  | nil => rfl
  | cons r rest =>
    dsimp only
    have hl : (x.withOffers c n q).wantedLeg k r = x.wantedLeg k r := rfl
    rw [hl]
    by_cases ht : ((x.slot k).zone.isEmpty && (x.slot k).canThrow (x.wantedLeg k r)) = true
    · rw [if_pos ht, if_pos ht]; rfl
    · rw [if_neg ht, if_neg ht]

/-- R79: the end of the passage at a place of the zone list. -/
theorem Offered.endPassageAt {s v u : State} {sends : List OutFrame} (h : Offered s v u sends)
    (hk : ∀ g ∈ sends, g.kind ≠ .holdState) (hv : v.serving = true) (k : SlotIx) (i : Nat) (p : Passage)
    (hz : (u.slot k).zone[i]? = some p) :
    let b := (u.afterEnd p).setSlot k { u.slot k with zone := (u.slot k).zone.eraseIdx i }
    Offered s (v.endPassage k i) (if (u.slot k).zone.eraseIdx i = [] then b.evaluateThrow k else b)
      (u.endFrames k p ++ sends) := by
  have hp : v.passage k i = some p := by
    have e : v.passage k i = (u.slot k).zone[i]? := by rw [h.alike]; rfl
    rw [e, hz]
  obtain ⟨h1, h2⟩ := h.reportEnd hk hv k p
  have hk1 : ∀ g ∈ u.arrivalFrames k p ++ sends, g.kind ≠ .holdState := by
    intro g hg
    rcases List.mem_append.mp hg with hg | hg
    · exact u.arrivalFrames_kind k p g hg
    · exact hk g hg
  have h3 := Offered.placeRecord p h1 hk1 h2 rfl
  have hs : ((v.reportEnd k p).placeRecord p.record p.handoff).slot k = u.slot k := by
    rw [h3.alike]
    show (u.afterEnd p).slot k = u.slot k
    unfold State.slot; simp only [State.slots_afterEnd]
  have h4 := h3.map (fun x => x.setSlot k { u.slot k with zone := (u.slot k).zone.eraseIdx i })
    (fun _ _ _ _ => rfl)
  dsimp only
  rw [State.endFrames_eq, List.append_assoc]
  refine Offered.perm (sends := u.displacedFrames p ++ (u.arrivalFrames k p ++ sends)) ?_ ?_
  · unfold State.endPassage
    rw [hp]
    dsimp only
    rw [hs]
    simp only [State.slot_setSlot]
    generalize (u.slot k).zone.eraseIdx i = rest at h4 ⊢
    cases rest with
    | nil => exact h4.map (fun x => x.evaluateThrow k) (State.evaluateThrow_withOffers k)
    | cons y ys => exact h4
  · rw [← List.append_assoc, ← List.append_assoc]
    exact List.Perm.append_right _ List.perm_append_comm

/-- R79: the end of the oldest passage. -/
theorem Offered.endPassage {s v u : State} {sends : List OutFrame} (h : Offered s v u sends)
    (hk : ∀ g ∈ sends, g.kind ≠ .holdState) (hv : v.serving = true) (k : SlotIx) (p : Passage)
    (rest : List Passage) (hz : (u.slot k).zone = p :: rest) :
    let a := u.afterEnd p
    let b := a.setSlot k { a.slot k with zone := rest }
    Offered s (v.endPassage k 0) (if rest = [] then b.evaluateThrow k else b) (u.endFrames k p ++ sends) := by
  have h1 := h.endPassageAt hk hv k 0 p (by rw [hz]; rfl)
  have hs : (u.afterEnd p).slot k = u.slot k := by unfold State.slot; simp only [State.slots_afterEnd]
  have he : (u.slot k).zone.eraseIdx 0 = rest := by rw [hz]; rfl
  intro a b
  have hb : b = (u.afterEnd p).setSlot k { u.slot k with zone := rest } := by
    show a.setSlot k { a.slot k with zone := rest } = _
    rw [show a.slot k = u.slot k from hs]
  rw [hb, ← he]
  exact h1

/-- The end of a passage leaves the node state. -/
theorem State.nodeState_afterEnd (u : State) (p : Passage) : (u.afterEnd p).nodeState = u.nodeState := by
  unfold State.afterEnd
  rcases p.handoff with _ | n | r
  · rfl
  · dsimp only
    by_cases hp : u.isPending n = false
    · rw [if_pos hp]; rfl
    · rw [if_neg hp]
      cases u.displaced with
      | none => rfl
      | some ex => dsimp only; unfold State.captureAlarm; dsimp only; cases u.capture <;> rfl
  · rfl

theorem State.nodeState_evaluateThrow (u : State) (k : SlotIx) :
    (u.evaluateThrow k).nodeState = u.nodeState := by
  unfold State.evaluateThrow
  split
  · rfl
  · split <;> rfl

theorem Offered.endPassage_serving {s v u : State} {sends : List OutFrame} (h : Offered s v u sends)
    (hk : ∀ g ∈ sends, g.kind ≠ .holdState) (hv : v.serving = true) (k : SlotIx) (p : Passage)
    (rest : List Passage) (hz : (u.slot k).zone = p :: rest) : (v.endPassage k 0).serving = true := by
  rw [(h.endPassage hk hv k p rest hz).serving]
  rw [h.serving] at hv
  unfold State.serving at hv ⊢
  rw [← hv]
  split
  · rw [State.nodeState_evaluateThrow]; exact congrArg (· == NodeState.inService) (u.nodeState_afterEnd p)
  · exact congrArg (· == NodeState.inService) (u.nodeState_afterEnd p)

/-- The end of a passage offers no HOLD_STATE. -/
theorem State.endFrames_kind (u : State) (k : SlotIx) (p : Passage) :
    ∀ g ∈ u.endFrames k p, g.kind ≠ .holdState := by
  intro g hg
  rw [State.endFrames_eq] at hg
  rcases List.mem_append.mp hg with hg | hg
  · exact u.arrivalFrames_kind k p g hg
  · unfold State.displacedFrames at hg
    generalize p.handoff = x at hg
    rcases x with _ | n | r
    · simp at hg
    · dsimp only at hg
      split at hg
      · simp at hg
      · split at hg
        · simp at hg
        · rw [List.mem_singleton.mp hg]; simp [State.reportOf, OutFrame.kind]
    · simp at hg

/-- R78, R79: the machine's check of the ends leaves what `afterEnds` says, and offers its frames. -/
theorem Offered.checkEnds (k : SlotIx) (n : Nat) {s v u : State} {sends : List OutFrame}
    (h : Offered s v u sends) (hk : ∀ g ∈ sends, g.kind ≠ .holdState) (hv : v.serving = true) :
    Offered s (v.checkEnds k n) (State.afterEnds k n u).1 (sends ++ (State.afterEnds k n u).2)
      ∧ ∀ g ∈ sends ++ (State.afterEnds k n u).2, g.kind ≠ .holdState := by
  induction n generalizing v u sends with
  | zero => simpa [State.checkEnds, State.afterEnds] using ⟨h, hk⟩
  | succ n ih =>
    have hz : (v.slot k).zone = (u.slot k).zone := by rw [h.alike]; rfl
    unfold State.checkEnds
    rw [hz]
    cases hu : (u.slot k).zone with
    | nil =>
      rw [State.afterEnds_of_noneEnds k (n + 1) u (by rw [hu]; intro p hp; simp at hp)]
      simpa using ⟨h, hk⟩
    | cons p rest =>
      dsimp only
      by_cases hp : p.ends = true
      · rw [if_pos hp, State.afterEnds_of_ends k n u p rest hu hp]
        have h1 := h.endPassage hk hv k p rest hu
        have hk1 : ∀ g ∈ u.endFrames k p ++ sends, g.kind ≠ .holdState := by
          intro g hg
          rcases List.mem_append.mp hg with hg | hg
          · exact u.endFrames_kind k p g hg
          · exact hk g hg
        obtain ⟨h2, h3⟩ := ih h1 hk1 (h.endPassage_serving hk hv k p rest hu)
        have hp : (u.endFrames k p ++ sends ++ (State.afterEnds k n (if rest = [] then
              ((u.afterEnd p).setSlot k { (u.afterEnd p).slot k with zone := rest }).evaluateThrow k
              else (u.afterEnd p).setSlot k { (u.afterEnd p).slot k with zone := rest })).2).Perm
            (sends ++ (u.endFrames k p ++ (State.afterEnds k n (if rest = [] then
              ((u.afterEnd p).setSlot k { (u.afterEnd p).slot k with zone := rest }).evaluateThrow k
              else (u.afterEnd p).setSlot k { (u.afterEnd p).slot k with zone := rest })).2)) := by
          rw [← List.append_assoc]
          exact List.Perm.append_right _ List.perm_append_comm
        exact ⟨h2.perm hp, fun g hg => h3 g (hp.mem_iff.mpr hg)⟩
      · rw [if_neg hp, State.afterEnds_of_noneEnds k (n + 1) u (by
          rw [hu]; intro y hy; obtain rfl : p = y := by simpa using hy
          simpa using hp)]
        simpa using ⟨h, hk⟩

theorem State.nodeState_afterEnds (k : SlotIx) (n : Nat) (u : State) :
    (State.afterEnds k n u).1.nodeState = u.nodeState := by
  induction n generalizing u with
  | zero => rfl
  | succ n ih =>
    cases hz : (u.slot k).zone with
    | nil => rw [State.afterEnds_of_noneEnds k (n + 1) u (by rw [hz]; intro p hp; simp at hp)]
    | cons p rest =>
      by_cases hp : p.ends = true
      · rw [State.afterEnds_of_ends k n u p rest hz hp]
        dsimp only
        rw [ih]
        have h : ∀ x : State, ((if rest = [] then x.evaluateThrow k else x).nodeState) = x.nodeState := by
          intro x; by_cases hr : rest = []
          · rw [if_pos hr, State.nodeState_evaluateThrow]
          · rw [if_neg hr]
        rw [h]; exact u.nodeState_afterEnd p
      · rw [State.afterEnds_of_noneEnds k (n + 1) u (by
          rw [hz]; intro y hy; obtain rfl : p = y := by simpa using hy
          simpa using hp)]

/-! ### The reconciliation of a fouling clear (R80) -/

theorem State.nodeState_captureAlarm (u : State) (inc : Incident) :
    (u.captureAlarm inc).nodeState = u.nodeState := by
  unfold State.captureAlarm; cases u.capture <;> rfl

theorem State.slot_captureAlarm (u : State) (inc : Incident) (k : SlotIx) :
    (u.captureAlarm inc).slot k = u.slot k := by
  unfold State.captureAlarm; cases u.capture <;> rfl

/-- One passage part out, and what follows it. -/
theorem State.afterReconcile_of_partOut (k : SlotIx) (n : Nat) (u : State) (i : Nat) (p : Passage)
    (hi : (u.slot k).zone.findIdx? (fun p => decide (0 < p.out ∧ p.out < p.axlesIn)) = some i)
    (hp : (u.slot k).zone[i]? = some p) :
    State.afterReconcile k (n + 1) u =
      let r := u.record p.record
      let inc : Incident := ⟨.axleImbalance, some k, r.tag, r.companionTag,
        .reconciled p.axlesIn p.outNormal p.outReverse⟩
      let a := (u.setRecord p.record (r.flagged { imbalance := true })).captureAlarm inc
      let rest := (u.slot k).zone.eraseIdx i
      let v := (a.afterEnd p).setSlot k { u.slot k with zone := rest }
      let left := if rest = [] then v.evaluateThrow k else v
      let ends := State.afterEnds k (left.slot k).zone.length left
      let w := State.afterReconcile k n ends.1
      (w.1, u.reportOf inc :: a.endFrames k p ++ ends.2 ++ w.2) := by
  conv_lhs => unfold State.afterReconcile
  rw [hi]
  dsimp only
  rw [hp]

/-- R80: the machine's reconciliation leaves what `afterReconcile` says, and offers its frames. -/
theorem Offered.reconcileAll (k : SlotIx) (n : Nat) {s v u : State} {sends : List OutFrame}
    (h : Offered s v u sends) (hk : ∀ g ∈ sends, g.kind ≠ .holdState) (hv : v.serving = true) :
    Offered s (State.reconcileAll k n v) (State.afterReconcile k n u).1 (sends ++ (State.afterReconcile k n u).2)
      ∧ (∀ g ∈ sends ++ (State.afterReconcile k n u).2, g.kind ≠ .holdState)
      ∧ (State.afterReconcile k n u).1.nodeState = u.nodeState := by
  induction n generalizing v u sends with
  | zero => simpa [State.reconcileAll, State.afterReconcile] using ⟨h, hk⟩
  | succ n ih =>
    have hz : (v.slot k).zone = (u.slot k).zone := by rw [h.alike]; rfl
    have hf : Passage.isPartOut = (fun p => decide (0 < p.out ∧ p.out < p.axlesIn)) := by
      funext p; unfold Passage.isPartOut; simp
    unfold State.reconcileAll
    rw [hz, hf]
    cases hi : (u.slot k).zone.findIdx? (fun p => decide (0 < p.out ∧ p.out < p.axlesIn)) with
    | none =>
      have e : State.afterReconcile k (n + 1) u = (u, []) := by
        unfold State.afterReconcile; rw [hi]
      rw [e]; simpa using ⟨h, hk⟩
    | some i =>
      cases hp : (u.slot k).zone[i]? with
      | none =>
        exfalso
        have := List.findIdx?_eq_some_iff_getElem.mp hi
        obtain ⟨hl, _⟩ := this
        rw [List.getElem?_eq_none_iff] at hp; omega
      | some p =>
        dsimp only
        have hpv : v.passage k i = some p := by
          have e : v.passage k i = (u.slot k).zone[i]? := by rw [h.alike]; rfl
          rw [e, hp]
        have hr : v.record p.record = u.record p.record := by rw [h.alike]; rfl
        set inc : Incident := ⟨.axleImbalance, some k, (u.record p.record).tag,
          (u.record p.record).companionTag, .reconciled p.axlesIn p.outNormal p.outReverse⟩ with hinc
        set u1 := u.setRecord p.record ((u.record p.record).flagged { imbalance := true }) with hu1
        have h1 : Offered s (v.addFlags p.record { imbalance := true }) u1 sends := by
          have := h.map (fun x => x.addFlags p.record { imbalance := true }) (fun _ _ _ _ => rfl)
          exact this
        have h2 := h1.raise_alarm hk hv inc rfl
        have hk2 : ∀ g ∈ u1.reportOf inc :: sends, g.kind ≠ .holdState := by
          intro g hg
          rcases List.mem_cons.mp hg with rfl | hg
          · simp [State.reportOf, OutFrame.kind]
          · exact hk g hg
        have hv2 : ((v.addFlags p.record { imbalance := true }).raise inc).serving = true := by
          rw [h2.serving]
          have : u1.serving = true := by rw [← h1.serving]; exact hv
          rw [State.captureAlarm_serving]; exact this
        have hzu : ((u1.captureAlarm inc).slot k) = u.slot k := State.slot_captureAlarm _ _ _
        have h3 := h2.endPassageAt hk2 hv2 k i p (by rw [hzu]; exact hp)
        rw [hzu] at h3
        dsimp only at h3
        set left := if (u.slot k).zone.eraseIdx i = [] then
            (((u1.captureAlarm inc).afterEnd p).setSlot k
              { u.slot k with zone := (u.slot k).zone.eraseIdx i }).evaluateThrow k
          else ((u1.captureAlarm inc).afterEnd p).setSlot k
              { u.slot k with zone := (u.slot k).zone.eraseIdx i } with hleft
        have hn : left.nodeState = u.nodeState := by
          have e : ((u1.captureAlarm inc).afterEnd p).nodeState = u.nodeState := by
            rw [State.nodeState_afterEnd, State.nodeState_captureAlarm]; rfl
          rw [hleft]
          by_cases he : (u.slot k).zone.eraseIdx i = []
          · rw [if_pos he, State.nodeState_evaluateThrow]; exact e
          · rw [if_neg he]; exact e
        have hk3 : ∀ g ∈ (u1.captureAlarm inc).endFrames k p ++ (u1.reportOf inc :: sends),
            g.kind ≠ .holdState := by
          intro g hg
          rcases List.mem_append.mp hg with hg | hg
          · exact State.endFrames_kind _ k p g hg
          · exact hk2 g hg
        have hserving : ∀ x y : State, x.nodeState = y.nodeState → x.serving = y.serving := by
          intro x y e; unfold State.serving; rw [e]
        have hu : u.serving = true := by rw [← h.serving]; exact hv
        have hv3 := h3.serving.trans ((hserving _ _ hn).trans hu)
        obtain ⟨h4, hk4⟩ := h3.checkEnds k (left.slot k).zone.length hk3 hv3
        have hn4 := (State.nodeState_afterEnds k (left.slot k).zone.length left).trans hn
        have hv4 := h4.serving.trans ((hserving _ _ hn4).trans hu)
        obtain ⟨h5, hk5, hn5⟩ := ih h4 hk4 hv4
        have hone : v.reconcileOne k i = ((((v.addFlags p.record { imbalance := true }).raise inc).endPassage
            k i).checkEnd k) := by
          unfold State.reconcileOne
          rw [hpv]
          dsimp only
          rw [hr]; rfl
        have hzl : ((((v.addFlags p.record { imbalance := true }).raise inc).endPassage k i).slot k).zone
            = (left.slot k).zone := by rw [h3.alike]; rfl
        have hcheck : v.reconcileOne k i = State.checkEnds k (left.slot k).zone.length
            (((v.addFlags p.record { imbalance := true }).raise inc).endPassage k i) := by
          rw [hone]; unfold State.checkEnd; rw [hzl]
        rw [hcheck]
        rw [State.afterReconcile_of_partOut k n u i p hi hp]
        have hperm : (((u1.captureAlarm inc).endFrames k p ++ u1.reportOf inc :: sends
              ++ (State.afterEnds k (left.slot k).zone.length left).2)
              ++ (State.afterReconcile k n (State.afterEnds k (left.slot k).zone.length left).1).2).Perm
            (sends ++ (u.reportOf inc :: (u1.captureAlarm inc).endFrames k p
              ++ (State.afterEnds k (left.slot k).zone.length left).2
              ++ (State.afterReconcile k n (State.afterEnds k (left.slot k).zone.length left).1).2)) := by
          have e : u1.reportOf inc = u.reportOf inc := rfl
          rw [e]
          simp only [List.append_assoc, List.cons_append]
          refine List.Perm.trans ?_ List.perm_middle.symm
          refine List.Perm.trans List.perm_middle ?_
          refine List.Perm.cons _ ?_
          rw [← List.append_assoc, ← List.append_assoc sends]
          exact List.Perm.append_right _ List.perm_append_comm
        exact ⟨h5.perm hperm, fun g hg => hk5 g (hperm.mem_iff.mpr hg), hn5.trans hn4⟩

/-- How a claim is shown of a command whose body ends with the check of the passages' ends. -/
theorem LeavesThenEnds.of_offered {c : Instr} {s v u : State} {k : SlotIx} {sends : List OutFrame}
    (hc : exec c s = finish s (v.checkEnd k)) (h : Offered s v u sends)
    (hk : ∀ g ∈ sends, g.kind ≠ .holdState) (hv : v.serving = true) : LeavesThenEnds c s u k sends := by
  have hz : (v.slot k).zone = (u.slot k).zone := by rw [h.alike]; rfl
  obtain ⟨h1, h2⟩ := h.checkEnds k (u.slot k).zone.length hk hv
  refine Leaves.of_reported (v := v.checkEnd k) hc ?_ h2
  unfold State.checkEnd
  rw [hz]
  exact h1.reported

/-- Where no passage ends, the claim is that of `Leaves`. -/
theorem LeavesThenEnds.of_noneEnds {c : Instr} {s u : State} {k : SlotIx} {sends : List OutFrame}
    (h : noneEnds (u.slot k).zone) : LeavesThenEnds c s u k sends ↔ Leaves c s u sends := by
  unfold LeavesThenEnds
  rw [State.afterEnds_of_noneEnds k _ u h, List.append_nil]

end Sys2Proof.Machine
end

