-- ==== Sys2Proof/Laws/Pool.lean ====
section
/-! SUPPORT. What the operations on records and slots do to the places of the records: a record that is
allocated or freed, a slot that is written, and an insertion into a queue. -/

namespace Sys2Proof.Machine

/-! ### The pool -/

theorem State.allocate_eq_some_iff {s t : State} {i : RecIx} :
    s.allocate = some (i, t) ↔ ∃ rest, s.free = i :: rest ∧ t = { s with free := rest } := by
  unfold State.allocate
  split
  · rename_i h; simp [h]
  · rename_i j rest h
    simp only [Option.some.injEq, Prod.mk.injEq, h, List.cons.injEq]
    constructor
    · rintro ⟨rfl, rfl⟩; exact ⟨rest, ⟨rfl, rfl⟩, rfl⟩
    · rintro ⟨r, ⟨rfl, rfl⟩, rfl⟩; exact ⟨rfl, rfl⟩

theorem State.allocate_eq_none_iff {s : State} : s.allocate = none ↔ s.free = [] := by
  unfold State.allocate
  split <;> simp_all

/-- The record allocated leaves the places. -/
theorem State.places_allocate {s t : State} {i : RecIx} (h : s.allocate = some (i, t)) :
    s.places = i :: t.places := by
  obtain ⟨rest, hf, rfl⟩ := State.allocate_eq_some_iff.mp h
  simp [State.places, hf]

@[simp] theorem State.places_setRecord (s : State) (i : RecIx) (r : Record) :
    (s.setRecord i r).places = s.places := rfl

@[simp] theorem State.places_addFlags (s : State) (i : RecIx) (f : Flags) :
    (s.addFlags i f).places = s.places := rfl

/-- A freed record joins the places. -/
theorem State.places_freeRecord (s : State) (i : RecIx) : (s.freeRecord i).places.Perm (i :: s.places) := by
  show ((s.free ++ [i]) ++ s.cutList ++ _ ++ _).Perm (i :: (s.free ++ s.cutList ++ _ ++ _))
  simp only [List.append_assoc, List.singleton_append]
  exact List.perm_middle

/-- Freed records join the places. -/
theorem State.places_freeRecords (is : List RecIx) (s : State) :
    (s.freeRecords is).places.Perm (is ++ s.places) := by
  induction is generalizing s with
  | nil => exact List.Perm.refl _
  | cons i is ih =>
    refine (ih (s.freeRecord i)).trans ?_
    refine (List.Perm.append_left is (s.places_freeRecord i)).trans ?_
    exact List.perm_middle

/-! ### The lists of a slot -/

/-- The records of one slot: its approach queue and its passages. -/
def Slot.records (x : Slot) : List RecIx := x.queue ++ x.zone.map Passage.record

theorem flatMap_set_perm {α β : Type} (f : α → List β) (x : α) :
    ∀ (l : List α) (n : Nat) (h : n < l.length),
      (f l[n] ++ (l.set n x).flatMap f).Perm (f x ++ l.flatMap f)
  | [], _, h => absurd h (by simp)
  | a :: l, 0, _ => by
    simp only [List.getElem_cons_zero, List.set_cons_zero, List.flatMap_cons, ← List.append_assoc]
    exact List.Perm.append_right _ List.perm_append_comm
  | a :: l, n + 1, h => by
    have ih := flatMap_set_perm f x l n (by simpa using h)
    simp only [List.getElem_cons_succ, List.set_cons_succ, List.flatMap_cons]
    refine (List.Perm.trans ?_ (List.Perm.append_left (f a) ih)).trans ?_ <;>
      · simp only [← List.append_assoc]
        exact List.Perm.append_right _ List.perm_append_comm

/-- A slot that is written gives its records up and takes those of the new one. -/
theorem State.places_setSlot (s : State) (k : SlotIx) (x : Slot) :
    ((s.slot k).records ++ (s.setSlot k x).places).Perm (x.records ++ s.places) := by
  have h := flatMap_set_perm Slot.records x s.slots.toList k.val (by simp)
  have hk : s.slots.toList[k.val]'(by simp) = s.slot k := by simp [State.slot]
  rw [hk] at h
  have hs : (s.setSlot k x).slots.toList = s.slots.toList.set k.val x := Vector.toList_set (h := k.isLt)
  show ((s.slot k).records ++ (s.free ++ s.cutList ++ ((s.setSlot k x).slots.toList.flatMap Slot.records)
      ++ s.waitList.map WaitEntry.record)).Perm
    (x.records ++ (s.free ++ s.cutList ++ (s.slots.toList.flatMap Slot.records)
      ++ s.waitList.map WaitEntry.record))
  rw [hs]
  have swap (a b c d : List RecIx) : (a ++ (b ++ c ++ d)).Perm (b ++ (a ++ c) ++ d) := by
    simp only [← List.append_assoc]
    exact List.Perm.append_right _ (List.Perm.append_right _ List.perm_append_comm)
  refine (swap _ _ _ _).trans (List.Perm.trans ?_ (swap _ _ _ _).symm)
  exact List.Perm.append_right _ (List.Perm.append_left _ h)

/-- A slot written with the same records leaves the places as they are. -/
theorem State.places_setSlot_of_records (s : State) (k : SlotIx) (x : Slot)
    (h : x.records = (s.slot k).records) : (s.setSlot k x).places.Perm s.places := by
  have h1 := s.places_setSlot k x
  rw [h] at h1
  exact (List.perm_append_left_iff _).mp h1

theorem insertByDistance_perm (d : RecIx → Nat) (r : RecIx) (l : List RecIx) :
    (insertByDistance d r l).Perm (r :: l) := by
  induction l with
  | nil => exact List.Perm.refl _
  | cons a l ih =>
    unfold insertByDistance
    split
    · exact List.Perm.refl _
    · exact (ih.cons a).trans (List.Perm.swap r a l)

theorem length_insertByDistance (d : RecIx → Nat) (r : RecIx) (l : List RecIx) :
    (insertByDistance d r l).length = l.length + 1 := by
  simpa using (insertByDistance_perm d r l).length_eq

/-- An insertion at a distance that no queued record has keeps the queue in ascending distance. -/
theorem insertByDistance_pairwise (d : RecIx → Nat) (r : RecIx) (l : List RecIx)
    (hl : l.Pairwise (fun i j => d i < d j)) (hr : ∀ i ∈ l, d i ≠ d r) :
    (insertByDistance d r l).Pairwise (fun i j => d i < d j) := by
  induction l with
  | nil => simp [insertByDistance]
  | cons a l ih =>
    unfold insertByDistance
    rw [List.pairwise_cons] at hl
    split
    · rename_i h
      refine List.pairwise_cons.mpr ⟨?_, List.pairwise_cons.mpr hl⟩
      intro j hj
      rcases List.mem_cons.mp hj with rfl | hj
      · exact h
      · exact h.trans (hl.1 j hj)
    · rename_i h
      refine List.pairwise_cons.mpr ⟨?_, ih hl.2 (fun i hi => hr i (List.mem_cons_of_mem a hi))⟩
      intro j hj
      rcases List.mem_cons.mp ((insertByDistance_perm d r l).mem_iff.mp hj) with rfl | hj
      · exact lt_of_le_of_ne (Nat.le_of_not_lt h) (hr a List.mem_cons_self)
      · exact hl.1 j hj

/-! ### The recent list -/

theorem length_pushRecent_le (e : RecentEntry) (l : List RecentEntry) (h : l.length ≤ Config.recentCapacity) :
    (pushRecent e l).length ≤ Config.recentCapacity := by
  unfold pushRecent
  have hc : 1 ≤ Config.recentCapacity := by decide
  split <;> simp <;> omega

end Sys2Proof.Machine
end

