-- ==== Sys2Proof/WellFormed.lean ====
section
/-! DEFINITION. Which commands can be sent: a header's origin is a station number (R144: "Station
numbers are 1 to 62"), a place is a place of the list it names, and bits heard begin with the start
bit (R142). Values inside a payload are not checked here: a frame may carry any byte, and the rules
say what the node does with it (R169). -/

namespace Sys2Proof

/-- R144: station numbers are 1 to 62. -/
def Station.wf (s : Station) : Bool := decide (1 ≤ s.toNat) && decide (s.toNat ≤ 62)

/-- R61, R95: a place that the zone list or the wait list can have. -/
def ContextPlace.wf : ContextPlace → Bool
  | .zone _ i => decide (i < Config.zoneCapacity)
  | .wait i => decide (i < Config.waitCapacity)

/-- The check on a command's operands. -/
def Instr.wf : Instr → Bool
  | .reset => true
  | .resetRelease => true
  | .imageRead _ => true
  | .censusAxle _ _ _ => true
  | .censusEnd => true
  | .commitAxleForward _ => true
  | .commitAxleBackward _ => true
  | .exitAxleForward _ _ => true
  | .exitAxleBackward _ _ => true
  | .detectionChange _ _ _ => true
  | .foulingOccupied _ => true
  | .foulingClear _ => true
  | .crestAxle => true
  | .gapExpiry _ i => decide (i < Config.zoneCapacity)
  | .stallExpiry _ i => decide (i < Config.zoneCapacity)
  | .ghostExpiry _ => true
  | .overdueExpiry _ _ => true
  | .throwDeadline _ => true
  | .pauseEnd _ => true
  | .replyTimeout p => p.wf
  | .releaseIntervalEnd => true
  | .periodTimerExpiry => true
  | .silenceDeadline n => decide (1 ≤ n) && decide (n ≤ 62)
  | .muteRetryExpiry => true
  | .transmitAttempt => true
  | .arbitrationLost => true
  | .transmitError => true
  | .frameSent => true
  | .frameDiscarded bits => bits.head? == some false
  | .frameNotTaken o => Station.wf o
  | .start o _ _ _ => Station.wf o
  | .holdState o _ _ => Station.wf o
  | .handoff o _ => Station.wf o
  | .handoffReply o _ => Station.wf o
  | .cutEntry o _ => Station.wf o
  | .entryWithdraw o _ _ => Station.wf o
  | .listClear o _ => Station.wf o
  | .releaseOne o _ _ => Station.wf o
  | .trackClose o _ _ _ => Station.wf o
  | .trackOpen o _ _ => Station.wf o
  | .restartAck o _ _ => Station.wf o
  | .slotBlock o _ _ => Station.wf o
  | .slotFree o _ _ => Station.wf o
  | .slotFlush o _ _ => Station.wf o
  | .incidentClear o _ => Station.wf o
  | .watchSet o _ _ => Station.wf o
  | .watchClear o _ _ => Station.wf o
  | .statusQuery o _ => Station.wf o
  | .busIdle => true

end Sys2Proof
end

