-- ==== Sys2Proof/Tests/Slice0.lean ====
section
/-! SUPPORT. The model's own tests: ill-formed commands, the image and the check sequence worked in the
spec, and, for each statement with hypotheses, concrete states and operands that meet them, clause by
clause, with the conclusion checked there. -/

namespace Sys2Proof.Tests

open Sys2Proof Sys2Proof.Machine

set_option Elab.async false

/-! ### Helpers -/

/-- `Leaves`, checked on concrete states. -/
def leaves (c : Instr) (s u : State) (sends : List OutFrame) : Bool :=
  match exec c s with
  | .next t =>
    decide (t.apartFromReports = u.apartFromReports)
      && decide (s.port.queue.length + (sends.length + 1) ≤ 16)
      && decide (t.apartFromFrames = u.apartFromFrames)
      && sends.all (fun f => decide (f ∈ t.port.queue.map TxEntry.frame))
      && s.port.queue.all (fun e => e.isHoldState || decide (e ∈ t.port.queue))
      && t.port.queue.all (fun e =>
        decide (e ∈ s.port.queue) || decide (e.frame ∈ sends) || e.isHoldState)
  | .fault _ => false
  | .refused _ => false

/-- `LeavesThenEnds`, checked on concrete states; `ends` passages end. -/
def leavesThenEnds (c : Instr) (s u : State) (k : SlotIx) (sends : List OutFrame) (ends : Nat) : Bool :=
  let v := State.afterEnds k (u.slot k).zone.length u
  leaves c s v.1 (sends ++ v.2) && (v.1.slot k).zone.length + ends == (u.slot k).zone.length

/-- A check on the state that a command leaves. -/
def after (c : Instr) (s : State) (f : State → Bool) : Bool :=
  match exec c s with
  | .next t => f t
  | .fault _ => false
  | .refused _ => false

/-- A slot record whose normal leg feeds a slot of another node and whose reverse leg feeds slot 1. -/
def upperSlot : SlotConfig where
  reachFirst := 1
  split := 11
  reachLast := 20
  strayLeg := .normal
  feedNode := 1
  feedSlot := 0
  feedLeg := .normal
  normalEnd := .slot 6 0
  reverseEnd := .slot 5 1
  throwLimit := 1000
  retries := 1
  gapTime := 500
  stallTime := 5000
  overdueTime := 20000
  pressureThreshold := 4

/-- A slot record whose legs end at tracks. -/
def lowerSlot : SlotConfig :=
  { upperSlot with
    reachFirst := 11
    split := 16
    feedNode := 5
    feedLeg := .reverse
    normalEnd := .track 11
    reverseEnd := .track 16 }

/-- A tree node. -/
def treeConfig : NodeConfig where
  node := 5
  role := .tree
  slotCount := 2
  yardStation := 60
  bitRate := .kbit125
  handoffTimeout := 50
  holdOnIncident := false
  crest := none
  slots := [upperSlot, lowerSlot]
  imageSum := 0x1234

/-- A crest node whose slot 0 the crest feeds. -/
def crestConfig : NodeConfig where
  node := 1
  role := .crest
  slotCount := 1
  yardStation := 60
  bitRate := .kbit125
  handoffTimeout := 50
  holdOnIncident := false
  crest := some ⟨20, [5], [20, 20, 30, 40, 20, 25, 30, 40, 30, 30, 35, 45, 40, 40, 45, 50]⟩
  slots := [{ upperSlot with feedNode := 0, normalEnd := .slot 5 0, reverseEnd := .track 20 }]
  imageSum := 0x4321

/-- A slot in use, proved normal. -/
def normalSlot : Slot :=
  { Slot.afterReset with service := .inUse, point := .provedNormal, provedNormal := true }

/-- A node in service with a configuration. -/
def serving (c : NodeConfig) : State :=
  { (({ State.reset with nodeState := .inService, config := some c, time := 1000 }).setSlot 0
      normalSlot) with port := { Port.afterReset with seenIdle := true } }

/-- The tree node in service. -/
def tree : State := (serving treeConfig).setSlot 1 normalSlot

/-- The crest node in service. -/
def crest : State := { serving crestConfig with roster := [⟨5, .present, some 900, {}, false⟩] }

/-- A record of the pool written and taken from the free list. -/
def taken (s : State) (r : Record) : RecIx × State :=
  match s.free with
  | [] => (0, s)
  | i :: rest => (i, { s with free := rest }.setRecord i r)

/-- One more record at the tail of an approach queue, the slot SYNCED at `e`. -/
def queued (s : State) (k : SlotIx) (e : Seq) (r : Record) : State :=
  let x := taken s r
  x.2.setSlot k { x.2.slot k with expected := some e, queue := (x.2.slot k).queue ++ [x.1] }

/-- One more passage at the tail of a zone list. -/
def zoned (s : State) (k : SlotIx) (r : Record) (p : Passage) : State :=
  let x := taken s r
  x.2.setSlot k { x.2.slot k with zone := (x.2.slot k).zone ++ [{ p with record := x.1 }] }

/-- One more record at the tail of the cut list. -/
def listed (s : State) (r : Record) : State :=
  let x := taken s r
  { x.2 with cutList := x.2.cutList ++ [x.1] }

/-- A record. -/
def cut (tag : Tag) (destination axles : Nat) : Record :=
  { Record.blank with tag := tag, destination := destination, expectedAxles := axles }

/-- Slot 0 of a state with other contents. -/
def slot0 (s : State) (f : Slot → Slot) : State := s.setSlot 0 (f (s.slot 0))

/-- A queued record. -/
def cutAt (seq : Seq) (r : Record) : Record :=
  { r with feedSeq := some seq, timing := some ⟨900, 20900, false⟩ }

/-- A passage with these axles in, out on the normal leg and phase, whose timers run. -/
def passing (axlesIn out : Nat) (phase : Phase) : Passage where
  record := 0
  consumed := some 6
  intended := some .normal
  taken := if out = 0 then none else some .normal
  axlesIn := axlesIn
  outNormal := out
  outReverse := 0
  countdown := none
  excess := 0
  phase := phase
  lastCommit := 900
  gapRunning := true
  stallTimer := some 5900
  stalled := false
  rollbackNoted := false
  handoff := .none

/-! ### Ill-formed commands -/

/-- A HANDOFF from slot 0's feed. -/
def offered : HandoffPayload where
  target := 5
  targetSlot := 0
  sourceSlot := 0
  sourceLeg := .normal
  seq := 7
  tag := 77
  destination := 4
  originalDestination := 0
  expectedAxles := 6
  cutClass := 1
  flags := 0
  companionTag := 0
  companionDestination := 0

/-- A CUT_ENTRY to the crest node. -/
def entry : CutEntryPayload := ⟨1, 77, 4, 6, 1, 0⟩

/-- R144: an origin of 0 or 63 is no station, in every row that carries one. -/
theorem test_wf_refuses_origin_0_and_63 : ∀ o ∈ [(0 : Station), 63],
    Instr.wf (.frameNotTaken o) = false ∧ Instr.wf (.start o 0 1 0) = false
    ∧ Instr.wf (.holdState o 0 3) = false ∧ Instr.wf (.handoff o offered) = false
    ∧ Instr.wf (.handoffReply o ⟨5, 0, 0, 0, 0⟩) = false ∧ Instr.wf (.cutEntry o entry) = false
    ∧ Instr.wf (.entryWithdraw o 1 7) = false ∧ Instr.wf (.listClear o 1) = false
    ∧ Instr.wf (.releaseOne o 1 7) = false ∧ Instr.wf (.trackClose o 1 4 5) = false
    ∧ Instr.wf (.trackOpen o 1 4) = false ∧ Instr.wf (.restartAck o 1 5) = false
    ∧ Instr.wf (.slotBlock o 5 0) = false ∧ Instr.wf (.slotFree o 5 0) = false
    ∧ Instr.wf (.slotFlush o 5 0) = false ∧ Instr.wf (.incidentClear o 5) = false
    ∧ Instr.wf (.watchSet o 5 7) = false ∧ Instr.wf (.watchClear o 5 7) = false
    ∧ Instr.wf (.statusQuery o 5) = false := by decide

/-- R61, R95: no place beyond the zone list or the wait list. -/
theorem test_wf_refuses_places : Instr.wf (.gapExpiry 0 2) = false ∧ Instr.wf (.stallExpiry 0 2) = false
    ∧ Instr.wf (.replyTimeout (.zone 0 2)) = false ∧ Instr.wf (.replyTimeout (.wait 8)) = false := by decide

/-- R144: no roster entry stands for 0 or 63; R142: bits heard begin with a start bit. -/
theorem test_wf_refuses_others : Instr.wf (.silenceDeadline 0) = false ∧ Instr.wf (.silenceDeadline 63) = false
    ∧ Instr.wf (.frameDiscarded []) = false ∧ Instr.wf (.frameDiscarded [true]) = false := by decide

/-- The same checks take the values at their boundaries. -/
theorem test_wf_takes : Instr.wf (.listClear 1 1) = true ∧ Instr.wf (.listClear 62 1) = true
    ∧ Instr.wf (.gapExpiry 3 1) = true ∧ Instr.wf (.replyTimeout (.wait 7)) = true
    ∧ Instr.wf (.silenceDeadline 62) = true ∧ Instr.wf (.frameDiscarded [false]) = true := by decide

/-! ### Values the spec works -/

/-- The parameters of R170 (0x1021, initial value all ones, no inversion) give 0x29B1 over the bytes of
"123456789". -/
theorem test_check_sequence :
    checkSequence (payloadBits [0x31, 0x32, 0x33, 0x34, 0x35, 0x36, 0x37, 0x38, 0x39]) = 0x29B1 := by
  decide +kernel

/-- A tree image of 30 bytes. -/
def treeImage : List Byte :=
  [0x6E, 0x91, 30, 1, 5, 0, 1, 60, 2, 5, 0] ++ [1, 11, 20, 0, 1, 0, 0, 0, 5, 0, 16, 20, 1, 50, 5, 20, 4]
    ++ [0x02, 0x01]

/-- The crest image of section 12.5: one slot and a roster of one, 49 bytes. -/
def crestImage : List Byte :=
  [0x6E, 0x91, 49, 1, 1, 1, 1, 60, 2, 5, 0] ++ [20, 1, 5]
    ++ [20, 20, 30, 40, 20, 25, 30, 40, 30, 30, 35, 45, 40, 40, 45, 50]
    ++ [1, 11, 20, 0, 0, 0, 0, 5, 0, 0, 20, 20, 1, 50, 5, 20, 4] ++ [0x04, 0x4A]

/-- Section 12.5: the images pass, and the slot record of the crest image lies at offset 30. -/
theorem test_images_pass :
    treeImage.length = 30 ∧ crestImage.length = 49 ∧ crestImage.getD 30 0 = 1
    ∧ (readImage treeImage).map (fun c => (c.node, c.slots)) = some (5, [{ upperSlot with
        normalEnd := .track 5, reverseEnd := .track 16 }])
    ∧ readImage crestImage = some { crestConfig with imageSum := 0x044A } := by decide +kernel

/-- R164: a wrong sum fails the image, and R163: so does a memory that does not answer. -/
theorem test_images_fail : readImage (treeImage.set 29 0) = none ∧ readImage [] = none := by decide +kernel

/-! ### The block and node control -/

theorem test_StepTakesTheFrontCommand :
    ({ tree with pending := [.busIdle, .crestAxle] } : State).pending = .busIdle :: [.crestAxle]
    ∧ step { tree with pending := [.busIdle, .crestAxle] } = exec .busIdle { tree with pending := [.crestAxle] }
    ∧ tree.pending = [] ∧ step tree = .next { tree with time := 1001 } := ⟨rfl, rfl, rfl, rfl⟩

/-- The node state changes of R162, one by one. -/
theorem test_NodeStateChangesOnlyAsListed :
    after .reset tree (fun t => decide (t.nodeState = .reset)) = true
    ∧ after .resetRelease { State.reset with nodeState := .reset } (fun t => decide (t.nodeState = .loading)) = true
    ∧ after (.imageRead treeImage) State.reset (fun t => decide (t.nodeState = .census)) = true
    ∧ after (.imageRead []) State.reset (fun t => decide (t.nodeState = .configFault)) = true
    ∧ after .censusEnd { State.reset with nodeState := .census, config := some treeConfig, censusStart := some 3 }
        (fun t => decide (t.nodeState = .inService)) = true := by decide +kernel

theorem test_ResetLeavesEveryBlockAtItsResetValue :
    ({ State.reset with nodeState := .reset } : State).nodeState = .reset
    ∧ leaves .resetRelease { State.reset with nodeState := .reset, time := 9 } State.reset [] = true
    ∧ tree.nodeState ≠ .reset ∧ leaves .resetRelease tree tree [] = true := by decide +kernel

theorem test_ImageReadDecides :
    tree.nodeState ≠ .loading ∧ leaves (.imageRead treeImage) tree tree [] = true
    ∧ State.reset.nodeState = .loading ∧ (readImage crestImage).isSome = true ∧ readImage [] = none
    ∧ after (.imageRead crestImage) State.reset (fun t =>
        decide (t.roster = [⟨5, .unheard, none, {}, false⟩] ∧ t.censusStart = some 0)) = true
    ∧ leaves (.imageRead []) State.reset { State.reset with nodeState := .configFault } [] = true
    ∧ after (.imageRead []) State.reset (fun t => t.faultLine && decide (t.signal = .stop)) = true := by
  decide +kernel

/-- The checks of one slot record, decided. -/
@[reducible] def slotRecordDecision (b : Nat → Nat) (o : Nat) (p : Prop) [Decidable p] :
    Decidable (SlotRecordHolds b o p) := by
  unfold SlotRecordHolds LegEndHolds; infer_instance

/-- Both images meet every check. -/
theorem test_PassedImagesMeetEveryCheck_converse :
    ImageHolds (memoryByte treeImage) ∧ ImageHolds (memoryByte crestImage) := by
  have one (b : Nat → Nat) (o : Nat) (p : Prop) [Decidable p]
      (h : @decide _ (slotRecordDecision b o p) = true) : SlotRecordHolds b o p :=
    @of_decide_eq_true _ (slotRecordDecision b o p) h
  unfold ImageHolds ImageFrameHolds NodeRecordHolds CrestRecordHolds
  refine ⟨⟨by decide +kernel, by decide +kernel, by decide +kernel, fun k h => ?_⟩,
    ⟨by decide +kernel, by decide +kernel, by decide +kernel, fun k h => ?_⟩⟩
  · have k0 : k = 0 := Nat.lt_one_iff.mp h
    subst k0; exact one _ _ _ (by decide +kernel)
  · have k0 : k = 0 := Nat.lt_one_iff.mp h
    subst k0; exact one _ _ _ (by decide +kernel)

theorem test_PassedImagesMeetEveryCheck : ∃ c, readImage crestImage = some c :=
  ⟨{ crestConfig with imageSum := 0x044A }, by decide +kernel⟩

/-- Section 12.5: the leg ends, from bytes 7 to 10 of the slot record at offset 11, a slot and a track. -/
theorem test_PassedImagesMeetEveryCheck_leg_ends :
    let image := ((treeImage.set 18 6).set 19 3).set 29 0x05
    [18, 19, 20, 21].map (memoryByte image) = [6, 3, 0, 16]
    ∧ (readImage image).map (fun c => c.slots.map (fun x => (x.normalEnd, x.reverseEnd)))
        = some [(.slot 6 3, .track 16)] := by decide +kernel

/-- The tree node in its census. -/
def census : State :=
  { State.reset with nodeState := .census, config := some treeConfig, censusStart := some 3, time := 50 }

theorem test_CensusAxlesGoToTheCaptureAlone :
    census.nodeState = .census ∧ (1 : SlotIx).val < census.cfg.slotCount
    ∧ after (.censusAxle 1 .commit .forward) census (fun t => decide (t.port.queue = [] ∧ t.apartFromFrames
        = (census.captureAlarm ⟨.axleImbalance, some 1, 0, 0, .strayAxle .commit .forward⟩).apartFromFrames))
        = true
    ∧ ¬((2 : SlotIx).val < census.cfg.slotCount)
    ∧ leaves (.censusAxle 2 .commit .forward) census census [] = true
    ∧ leaves (.censusAxle 0 .commit .forward) tree tree [] = true := by decide +kernel

/-- R59: an OFF slot in service, and LOADING. -/
theorem test_CensusAxlesGoToTheCaptureAlone_out_of_service :
    (tree.slot 2).service = .off ∧ State.reset.nodeState = .loading
    ∧ leaves (.commitAxleForward 2) tree tree [] = true ∧ leaves (.commitAxleBackward 2) tree tree [] = true
    ∧ leaves (.exitAxleForward 2 .reverse) tree tree [] = true
    ∧ leaves (.exitAxleBackward 2 .normal) tree tree [] = true
    ∧ leaves (.commitAxleForward 0) State.reset State.reset [] = true
    ∧ leaves (.exitAxleBackward 0 .normal) State.reset State.reset [] = true := by decide +kernel

/-- The tree node at the end of a census in which an axle was seen, with slot 0 occupied. -/
def censusOver : State :=
  ({ census with capture := some ⟨⟨.axleImbalance, some 1, 0, 0, .strayAxle .commit .forward⟩, 60⟩ }).setSlot 0
    { Slot.afterReset with foulingOccupied := true, provedNormal := true }

theorem test_CensusEndEntersService :
    tree.nodeState ≠ .census ∧ leaves .censusEnd tree tree [] = true
    ∧ censusOver.nodeState = .census ∧ censusOver.censusStart = some 3 ∧ censusOver.port.queue = []
    ∧ censusOver.cutList = [] ∧ (∀ k, (censusOver.slot k).service = .off)
    ∧ (0 : SlotIx).val < censusOver.cfg.slotCount ∧ (censusOver.slot 0).foulingOccupied = true
    ∧ (censusOver.slot 0).zone = []
    ∧ after .censusEnd censusOver (fun t =>
        decide ((t.slot 0).service = .settling ∧ (t.slot 0).point = .provedNormal
          ∧ (t.slot 0).ghostTimer = some 2503 ∧ (t.slot 1).service = .inUse ∧ (t.slot 2).service = .off
          ∧ t.time = 2003 ∧ t.holdMask = { settling := true }
          ∧ t.port.queue.map TxEntry.frame = [.start .tree 2 0x1234, .holdState { settling := true } .inService,
              .incident ⟨.axleImbalance, some 1, 0, 0, .strayAxle .commit .forward⟩ true])) = true := by
  decide +kernel

/-! ### Passages -/

/-- A head at distance 0, out of reach, of one axle, at the last sequence before the count begins again. -/
def straying : State := queued tree 0 255 (cutAt 255 (cut 77 30 1))

/-- A head at distance 0 that wants the other leg than the point lies in, under an occupied circuit. -/
def diverting : State :=
  let s := queued tree 0 7 (cutAt 7 (cut 77 15 4))
  s.setSlot 0 { s.slot 0 with foulingOccupied := true }

theorem test_CommitAxleBeginsAnAnnouncedPassage :
    (straying.slotServing 0 = true ∧ (straying.slot 0).beginsPassage ∧ (straying.slot 0).expected = some 255
      ∧ (straying.slot 0).queue = [0] ∧ distance 255 (straying.queuedSeq 0) = 0 ∧ PoolLaw straying
      ∧ straying.hasRoom 3 ∧ straying.strays 0 (straying.record 0) = true)
    ∧ after (.commitAxleForward 0) straying (fun t =>
        decide ((t.slot 0).expected = some 0 ∧ (t.slot 0).queue = []
          ∧ (t.slot 0).recent = [⟨255, .announced, 77⟩]
          ∧ (t.slot 0).zone = [{ passing 1 0 .trailing with
              consumed := some 255, countdown := some 0, lastCommit := 1000, stallTimer := some 6000 }]
          ∧ t.record 0 = { cut 77 30 1 with feedSeq := some 255, flags := { stray := true } }
          ∧ OutFrame.incident ⟨.stray, some 0, 77, 0, .destination 30⟩ false ∈ t.port.queue.map TxEntry.frame))
        = true
    ∧ (diverting.slotServing 0 = true ∧ (diverting.slot 0).beginsPassage ∧ (diverting.slot 0).expected = some 7
      ∧ (diverting.slot 0).queue = [0] ∧ distance 7 (diverting.queuedSeq 0) = 0 ∧ PoolLaw diverting
      ∧ diverting.hasRoom 3 ∧ (diverting.slot 0).intendedLeg = some .normal
      ∧ (diverting.slotCfg 0).wantedLeg 15 = .reverse)
    ∧ after (.commitAxleForward 0) diverting (fun t =>
        decide ((t.record 0).flags = { diverted := true } ∧ (t.record 0).timing = none
          ∧ OutFrame.incident ⟨.catchUpDivert, some 0, 77, 0, .intended .normal⟩ false
              ∈ t.port.queue.map TxEntry.frame)) = true := by
  unfold Slot.beginsPassage PoolLaw State.hasRoom
  refine ⟨⟨by decide +kernel, Or.inl (by decide +kernel), by decide +kernel⟩, by decide +kernel,
    ⟨by decide +kernel, Or.inl (by decide +kernel), by decide +kernel⟩, by decide +kernel⟩

/-- A SYNCED slot whose head stands ahead, behind a passage whose window has closed. -/
def following : State :=
  zoned (queued tree 0 6 (cutAt 7 (cut 77 15 4))) 0 (cut 66 4 2) { passing 2 0 .committed with gapRunning := false }

theorem test_CommitAxleBeginsAnAnonymousPassage :
    (following.slotServing 0 = true ∧ (following.slot 0).beginsPassage ∧ following.free.head? = some 2
      ∧ following.record 2 = Record.blank ∧ (following.slot 0).expected = some 6
      ∧ (following.slot 0).queue = [0] ∧ distance 6 (following.queuedSeq 0) ≠ 0 ∧ PoolLaw following
      ∧ following.capture = none ∧ following.hasRoom 3)
    ∧ after (.commitAxleForward 0) following (fun t =>
        decide ((t.slot 0).expected = some 7 ∧ (t.slot 0).queue = [0] ∧ (t.slot 0).zone.length = 2
          ∧ (t.slot 0).recent = [⟨6, .anonymous, 0⟩] ∧ (t.record 2).tag = 0
          ∧ OutFrame.incident ⟨.unannouncedCut, some 0, 0, 77, .unannounced (some 6)⟩ true
              ∈ t.port.queue.map TxEntry.frame)) = true
    ∧ (tree.slotServing 0 = true ∧ (tree.slot 0).beginsPassage ∧ tree.free.head? = some 0
      ∧ tree.record 0 = Record.blank ∧ (tree.slot 0).expected = none ∧ PoolLaw tree)
    ∧ after (.commitAxleForward 0) tree (fun t =>
        decide ((t.slot 0).expected = none ∧ (t.slot 0).recent = []
          ∧ (t.slot 0).zone.map Passage.consumed = [none])) = true := by
  unfold Slot.beginsPassage PoolLaw State.hasRoom
  refine ⟨⟨by decide +kernel, Or.inr ⟨_, rfl, rfl, rfl⟩, by decide +kernel⟩, by decide +kernel,
    ⟨by decide +kernel, Or.inl (by decide +kernel), by decide +kernel⟩, by decide +kernel⟩

/-- A passage in slot 1 of the tree node, whose legs end at tracks. -/
def inZone (r : Record) (p : Passage) : State := zoned tree 1 r p

/-- Slot 1 is in service there, and its zone list holds that passage alone. -/
theorem inZone_zone (r : Record) (p : Passage) : (inZone r p).slotServing 1 = true
    ∧ ((inZone r p).slot 1).zone = [{ p with record := 0 }] ∧ (inZone r p).record 0 = r :=
  ⟨rfl, rfl, rfl⟩

/-- The same with the passage's timers restarted by a commit axle now. -/
def nowCommitted (p : Passage) : Passage := { p with lastCommit := 1000, stallTimer := some 6000 }

/-- The stray axle's alarm at slot 1. -/
def strayAlarm (x : Sensor) (d : Direction) : Incident := ⟨.axleImbalance, some 1, 0, 0, .strayAxle x d⟩

/-- A full zone list in slot 1. -/
def full (r : Record) (p : Passage) : State := zoned (inZone (cut 8 11 4) (passing 4 1 .committed)) 1 r p

theorem test_CommitAxleIsCountedIn :
    (tree.slotServing 1 = true ∧ (254 : Nat) < 255)
    ∧ leaves (.commitAxleForward 1) (inZone (cut 9 11 4) (passing 254 0 .trailing))
        (inZone (cut 9 11 4) { nowCommitted (passing 255 0 .trailing) with excess := 1 }) [] = true
    ∧ leaves (.commitAxleForward 1) (inZone (cut 9 11 0) (passing 254 0 .committing))
        (inZone (cut 9 11 0) (nowCommitted (passing 255 0 .committing))) [] = true
    ∧ leaves (.commitAxleForward 1) (inZone (cut 9 11 4) { passing 3 0 .committing with countdown := some 1 })
        (inZone (cut 9 11 4) { nowCommitted (passing 4 0 .trailing) with countdown := some 0 }) [] = true
    ∧ leaves (.commitAxleForward 1) (inZone (cut 9 11 4) { passing 2 0 .committing with countdown := some 2 })
        (inZone (cut 9 11 4) { nowCommitted (passing 3 0 .committing) with countdown := some 1 }) [] = true
    ∧ leaves (.commitAxleForward 1) (inZone (cut 9 11 4) (passing 254 0 .committed))
        (inZone { cut 9 11 4 with flags := { long := true } }
          { nowCommitted (passing 255 0 .committed) with excess := 1 }) [] = true
    ∧ ((full (cut 9 11 4) { passing 4 0 .committed with gapRunning := false }).slot 1).zone.length = 2
    ∧ leaves (.commitAxleForward 1) (full (cut 9 11 4) { passing 4 0 .committed with gapRunning := false })
        ((full { cut 9 11 4 with flags := { long := true } }
          { nowCommitted (passing 5 0 .committed) with excess := 1 }).captureAlarm
            ⟨.zoneOverrun, some 1, 9, 0, .zoneOverrun 5⟩)
        [.incident ⟨.zoneOverrun, some 1, 9, 0, .zoneOverrun 5⟩ true] = true
    ∧ leaves (.commitAxleForward 1) (inZone (cut 9 11 4) (passing 255 0 .trailing))
      ((inZone (cut 9 11 4) (passing 255 0 .trailing)).captureAlarm (strayAlarm .commit .forward))
      [.incident (strayAlarm .commit .forward) true] = true
    ∧ leaves (.commitAxleForward 1) (inZone (cut 9 11 4) (passing 255 0 .committed))
      ((inZone (cut 9 11 4) (passing 255 0 .committed)).captureAlarm (strayAlarm .commit .forward))
      [.incident (strayAlarm .commit .forward) true] = true := by decide +kernel

theorem test_BackwardCommitAxleReopensThePassage :
    (inZone (cut 9 11 4) (passing 4 3 .committed)).slotServing 1 = true
    ∧ (passing 4 3 .committed).out < (passing 4 3 .committed).axlesIn
    ∧ leaves (.commitAxleBackward 1) (inZone (cut 9 11 4) (passing 4 3 .committed))
        (inZone { cut 9 11 4 with flags := { rollback := true } } { nowCommitted (passing 3 3 .committing) with
          countdown := some 1, rollbackNoted := true })
        [.incident ⟨.rollback, some 1, 9, 0, .sensor .commit⟩ false] = true
    ∧ leaves (.commitAxleBackward 1)
        (inZone (cut 9 11 4) { passing 5 0 .trailing with excess := 1, rollbackNoted := true })
        (inZone { cut 9 11 4 with flags := { rollback := true } } { nowCommitted (passing 4 0 .trailing) with
          countdown := some 0, rollbackNoted := true }) [] = true
    ∧ leaves (.commitAxleBackward 1) (inZone (cut 0 0 0) (passing 1 0 .committing))
        (inZone { cut 0 0 0 with flags := { rollback := true } } { nowCommitted (passing 0 0 .committing) with
          rollbackNoted := true })
        [.incident ⟨.rollback, some 1, 0, 0, .sensor .commit⟩ false] = true := by decide +kernel

/-- The stall timer restarted by an axle now. -/
def nowPassed (p : Passage) : Passage := { p with stallTimer := some 6000 }

/-- Slot 1 made FAILED. -/
def failedSlot (s : State) : State := s.setSlot 1 { s.slot 1 with service := .failed }

/-- The alarm of the split route below. -/
def split : Incident := ⟨.splitRoute, some 1, 9, 0, .splitRoute .normal .reverse⟩

/-- The alarm of the leg mismatch below. -/
def mismatch : Incident := ⟨.legMismatch, some 1, 9, 0, .legMismatch .reverse .provedNormal⟩

theorem test_ForwardExitAxleIsCountedOut :
    ((inZone (cut 9 11 4) (passing 4 1 .committing)).slot 1).zone.findIdx? Passage.isOpen = some 0
    ∧ leaves (.exitAxleForward 1 .normal) (inZone (cut 9 11 4) (passing 4 1 .committing))
        (inZone (cut 9 11 4) (nowPassed (passing 4 2 .committing))) [] = true
    ∧ leaves (.exitAxleForward 1 .reverse) (inZone (cut 9 11 4) (passing 4 1 .committing))
        ((failedSlot (inZone (cut 9 11 4) { nowPassed (passing 4 1 .committing) with outReverse := 1 })).captureAlarm
          split) [.incident split true] = true
    ∧ leaves (.exitAxleForward 1 .normal) (inZone (cut 9 11 4) (passing 4 0 .committing))
        (inZone (cut 9 11 4) (nowPassed (passing 4 1 .committing))) [] = true
    ∧ leaves (.exitAxleForward 1 .reverse) (inZone (cut 9 11 4) (passing 4 0 .committing))
        ((failedSlot (inZone (cut 9 11 4)
          { nowPassed (passing 4 0 .committing) with outReverse := 1, taken := some .reverse })).captureAlarm
            mismatch) [.incident mismatch true] = true := by
  decide +kernel

/-- A passage of one axle ends at its first exit axle, and the one behind it, whose axles were all out, with it. -/
theorem test_ForwardExitAxleIsCountedOut_at_an_end :
    leavesThenEnds (.exitAxleForward 1 .normal) (inZone (cut 9 11 1) (passing 1 0 .committed))
      (inZone (cut 9 11 1) (nowPassed (passing 1 1 .committed))) 1 [] 1 = true
    ∧ leavesThenEnds (.exitAxleForward 1 .normal)
      (zoned (inZone (cut 9 11 1) (passing 1 0 .committed)) 1 (cut 8 16 2) (passing 2 2 .committed))
      (zoned (inZone (cut 9 11 1) (nowPassed (passing 1 1 .committed))) 1 (cut 8 16 2) (passing 2 2 .committed))
      1 [] 2 = true := by decide +kernel

/-- A passage in slot 0 of the tree node with the point proved in a leg. -/
def above (point : PointState) (r : Record) (p : Passage) : State :=
  let s := zoned tree 0 r p
  s.setSlot 0 { s.slot 0 with point := point }

/-- Slot 0 is in service there, and its zone list holds that passage alone. -/
theorem above_zone (point : PointState) (r : Record) (p : Passage) :
    (above point r p).slotServing 0 = true
    ∧ ((above point r p).slot 0).zone = [{ p with record := 0 }] ∧ (above point r p).record 0 = r :=
  ⟨rfl, rfl, rfl⟩

/-- The frame of the first handoff below. -/
def firstHandoff : HandoffFrame :=
  { targetStation := 6, targetSlot := 0, sourceSlot := 0, sourceLeg := .normal, seq := 0
    contents := (cut 9 4 250).contents 250 }

/-- A passage of slot 0 before its first exit axle. -/
def leaving : State := above .provedNormal (cut 9 4 250) (passing 4 0 .committing)

/-- The same passage after that axle, its feed counter not yet advanced. -/
def hasLeft : State :=
  above .provedNormal (cut 9 4 250) { nowPassed (passing 4 1 .committing) with handoff := .sent 0 }

theorem test_FirstExitAxleSendsTheHandoff :
    (leaving.slotServing 0 = true ∧ (leaving.slot 0).zone.findIdx? Passage.isOpen = some 0
      ∧ (leaving.slotCfg 0).legEnd .normal = .slot 6 0 ∧ 6 ≠ leaving.cfg.node
      ∧ (leaving.slot 0).point ≠ provedIn (otherLeg .normal)
      ∧ noneEnds [{ nowPassed (passing 4 1 .committing) with taken := some .normal }] ∧ PoolLaw leaving)
    ∧ leaves (.exitAxleForward 0 .normal) leaving
        { hasLeft.setSlot 0 { hasLeft.slot 0 with feedNormal := 1 } with
          handoffs := [⟨0, firstHandoff, .pending .first none⟩], nextHandoff := 1 } [.handoff firstHandoff]
        = true := by
  unfold noneEnds PoolLaw; decide +kernel

/-- The leg mismatch of slot 0 below. -/
def mismatchAbove : Incident := ⟨.legMismatch, some 0, 9, 0, .legMismatch .normal .provedReverse⟩

/-- The handoff begins at a leg mismatch all the same; and a passage of one axle waits for its reply elsewhere. -/
theorem test_FirstExitAxleSendsTheHandoff_at_a_mismatch_and_at_an_end :
    leaves (.exitAxleForward 0 .normal) (above .provedReverse (cut 9 4 250) (passing 4 0 .committing))
      { ((slot0 (above .provedReverse (cut 9 4 250)
          { nowPassed (passing 4 1 .committing) with handoff := .sent 0 }) (fun x => { x with
            service := .failed, feedNormal := 1 })).captureAlarm mismatchAbove) with
        handoffs := [⟨0, firstHandoff, .pending .first none⟩], nextHandoff := 1 }
      [.incident mismatchAbove true, .handoff firstHandoff] = true
    ∧ PoolLaw (above .provedNormal (cut 9 4 1) (passing 1 0 .committed))
    ∧ after (.exitAxleForward 0 .normal) (above .provedNormal (cut 9 4 1) (passing 1 0 .committed)) (fun t =>
        decide ((t.slot 0).zone = [] ∧ t.waitList = [⟨0, 0⟩] ∧ (t.slot 0).feedNormal = 1
          ∧ t.handoffs.map Handoff.number = [0] ∧ OutFrame.handoff { firstHandoff with
            contents := (cut 9 4 1).contents 1 } ∈ t.port.queue.map TxEntry.frame)) = true := by
  unfold PoolLaw; decide +kernel

/-- A passage in slot 0 toward slot 1, slot 1 with a service state and a feed node. -/
def toSlot1 (service : ServiceState) : State :=
  let s := above .provedReverse (cut 9 12 4) { passing 4 0 .committing with intended := some .reverse }
  s.setSlot 1 { s.slot 1 with service := service }

theorem test_FirstExitAxleMakesTheLocalHandoff :
    ((toSlot1 .off).slotServing 0 = true ∧ ((toSlot1 .off).slotCfg 0).legEnd .reverse = .slot 5 1
      ∧ (toSlot1 .off).cfg.node = 5 ∧ ((toSlot1 .off).slot 1).service = .off
      ∧ ((toSlot1 .off).slot 0).point ≠ provedIn (otherLeg .reverse))
    ∧ after (.exitAxleForward 0 .reverse) (toSlot1 .off) (fun t =>
        t.faultLatch && decide ((t.slot 0).feedReverse = 1
          ∧ (t.slot 0).zone.map Passage.handoff = [.local .refusedUnknownFeed])) = true
    ∧ ((1 : SlotIx) ≠ 0 ∧ ((toSlot1 .inUse).slotCfg 1).feedNode = 5 ∧ ((toSlot1 .inUse).slotCfg 1).feedSlot = 0
      ∧ ((toSlot1 .inUse).slotCfg 1).feedLeg = .reverse ∧ ((toSlot1 .inUse).slot 1).service = .inUse
      ∧ ((toSlot1 .inUse).slot 1).expected = none ∧ ((toSlot1 .inUse).slot 1).queue = []
      ∧ (toSlot1 .inUse).free.head? = some 1)
    ∧ after (.exitAxleForward 0 .reverse) (toSlot1 .inUse) (fun t =>
        decide ((t.slot 1).expected = some 0 ∧ (t.slot 1).queue = [1] ∧ (t.record 1).tag = 9
          ∧ (t.record 1).expectedAxles = 4 ∧ (t.slot 0).zone.map Passage.handoff = [.local .taken]
          ∧ t.port.queue = [])) = true := by decide +kernel

/-- Slot 1 SYNCED at `e`, with records queued at these sequences behind the passage toward it. -/
def synced (e : Seq) (seqs : List Seq) : State :=
  seqs.foldl (fun s q => queued s 1 e (cutAt q (cut 7 12 2)))
    ((toSlot1 .inUse).setSlot 1 { (toSlot1 .inUse).slot 1 with expected := some e })

/-- Slot 1 SYNCED past sequence 0, with a recent entry and an anonymous passage that consumed it. -/
def syncedPast (x : RecentEntry) (p : Passage) : State :=
  let s := zoned (synced 1 []) 1 (cut 0 0 0) { p with consumed := some 0 }
  s.setSlot 1 { s.slot 1 with recent := [x] }

/-- The axle makes the local handoff with this result, and these frames are offered. -/
def gave (s : State) (result : HandoffResult) (sends : List OutFrame) (f : State → Bool) : Bool :=
  after (.exitAxleForward 0 .reverse) s (fun t => decide ((t.slot 0).zone.map Passage.handoff = [.local result])
    && decide ((t.port.queue.filter (fun e => !e.isHoldState)).map TxEntry.frame = sends) && f t)

/-- The alarms of the local handoffs below. -/
def refusedHere (result : HandoffResult) : OutFrame :=
  .incident ⟨.handoffRefused, some 0, 9, 0, .handoffRefused result 5 1 0⟩ true
def lateHere (adopted : Bool) : OutFrame := .incident ⟨.lateHandoff, some 1, 9, 0, .lateHandoff adopted 0 5⟩ true

/-- Distance 0 to 127: in front, between two, twice, and at a full queue; and a SETTLING slot. -/
theorem test_FirstExitAxleMakesTheLocalHandoff_ahead :
    (((synced 0 []).slot 1).expected = some 0 ∧ distance 0 0 < 128 ∧ distance 129 0 = 127)
    ∧ gave (synced 0 [1]) .taken [] (fun t => decide ((t.slot 1).queue = [2, 1] ∧ (t.record 2).tag = 9
        ∧ (t.record 2).feedSeq = some 0)) = true
    ∧ gave (synced 129 [255, 0]) .taken [] (fun t => decide ((t.slot 1).queue = [1, 2] ∧ (t.record 2).tag = 7)) = true
    ∧ gave (synced 129 [255, 1]) .taken [] (fun t => decide ((t.slot 1).queue = [1, 3, 2])) = true
    ∧ gave (synced 0 [1, 2, 3, 4, 5, 6]) .refusedFull [refusedHere .refusedFull] (fun t =>
        t.faultLatch && decide ((t.slot 1).queue = [1, 2, 3, 4, 5, 6])) = true
    ∧ gave (toSlot1 .settling) .refusedNotReady [refusedHere .refusedNotReady] (fun t =>
        t.faultLatch && decide ((t.slot 1).expected = none)) = true := by decide +kernel

/-- Distance 128 and more: a resend, the kinds of LATE, and an adoption. The point proved in the other leg fails
the slot, and the handoff is made all the same; and a passage of one axle ends with its local handoff. -/
theorem test_FirstExitAxleMakesTheLocalHandoff_behind :
    distance 1 0 = 255 ∧ distance 128 0 = 128
    ∧ gave (syncedPast ⟨0, .announced, 9⟩ (passing 2 0 .committing)) .taken [] (fun _ => true) = true
    ∧ gave (syncedPast ⟨0, .announced, 8⟩ (passing 2 0 .committing)) .late [lateHere false] (fun _ => true) = true
    ∧ gave (syncedPast ⟨255, .announced, 9⟩ (passing 2 0 .committing)) .late [lateHere false] (fun _ => true) = true
    ∧ gave (syncedPast ⟨0, .anonymous, 0⟩ (passing 2 1 .committing)) .late [lateHere false] (fun _ => true) = true
    ∧ gave (syncedPast ⟨0, .anonymous, 0⟩ (passing 5 0 .committing)) .lateAdopted [lateHere true] (fun t =>
        decide ((t.slot 1).zone.map Passage.excess = [1] ∧ (t.slot 1).zone.map Passage.phase = [.trailing]
          ∧ (t.record 1).tag = 9 ∧ (t.record 1).flags = { adopted := true }
          ∧ (t.slot 1).recent = [⟨0, .announced, 9⟩])) = true
    ∧ gave (slot0 (synced 0 []) (fun x => { x with point := .provedNormal })) .taken
        [.incident ⟨.legMismatch, some 0, 9, 0, .legMismatch .reverse .provedNormal⟩ true] (fun t =>
          decide ((t.slot 0).service = .failed ∧ (t.slot 1).queue = [1])) = true
    ∧ after (.exitAxleForward 0 .reverse)
        (slot0 (synced 0 []) (fun x => { x with zone := [passing 1 0 .committed] })) (fun t =>
          decide ((t.slot 0).zone = [] ∧ (t.slot 1).queue = [1] ∧ 0 ∈ t.free)) = true := by decide +kernel

/-- A passage one axle short of its balance, in slot 1. -/
def balancing (r : Record) : State := inZone r (passing 4 3 .committed)

/-- The same state when the passage has ended. -/
def ended (r : Record) : State := (taken tree r).2.freeRecord (taken tree r).1

/-- A passage in slot 0 one axle short of its balance, its handoff sent. -/
def waiting (status : HandoffStatus) (entries : List WaitEntry) : State :=
  { above .provedNormal (cut 9 4 4) { passing 4 3 .committed with handoff := .sent 3 } with
    handoffs := [⟨3, firstHandoff, status⟩], nextHandoff := 9, waitList := entries }

theorem test_BalancedPassageEnds :
    ((balancing (cut 9 11 4)).slotServing 1 = true ∧ ((balancing (cut 9 11 4)).slotCfg 1).legEnd .normal = .track 11
      ∧ (passing 4 3 .committed).out + 1 = (passing 4 3 .committed).axlesIn)
    ∧ leaves (.exitAxleForward 1 .normal) (balancing (cut 9 11 4)) (ended (cut 9 11 4))
        [.arrival 1 .normal 11 9 11 none {} false none] = true
    ∧ leaves (.exitAxleForward 1 .normal) (balancing (cut 9 16 4)) (ended (cut 9 16 4))
        [.arrival 1 .normal 11 9 16 none {} true none] = true
    ∧ leaves (.exitAxleForward 1 .normal) { balancing (cut 9 11 4) with watches := [8, 9] }
        { ended (cut 9 11 4) with watches := [8] }
        [.arrival 1 .normal 11 9 11 none {} false none, .watchHit 9 1 .normal] = true
    ∧ ((waiting (.resolved .lost) []).slotServing 0 = true
      ∧ (waiting (.resolved .lost) []).isPending 3 = false
      ∧ ((waiting (.resolved .lost) []).slotCfg 0).legEnd .normal = .slot 6 0)
    ∧ leaves (.exitAxleForward 0 .normal) (waiting (.resolved .lost) [])
        { ended (cut 9 4 4) with nextHandoff := 9 } [] = true
    ∧ ((waiting (.pending .first none) []).isPending 3 = true
      ∧ (List.replicate 7 (⟨9, 8⟩ : WaitEntry)).length < 8)
    ∧ leaves (.exitAxleForward 0 .normal) (waiting (.pending .first none) (List.replicate 7 ⟨9, 8⟩))
        { (taken tree (cut 9 4 4)).2 with
          handoffs := [⟨3, firstHandoff, .pending .first none⟩], nextHandoff := 9
          waitList := List.replicate 7 ⟨9, 8⟩ ++ [⟨0, 3⟩] } [] = true := by decide +kernel

/-- A full wait list, its entries with PENDING handoffs, behind the passage of `waiting`. -/
def waitListFull : State :=
  { waiting (.pending .first none) ((List.range 8).map (fun i => ⟨Fin.ofNat 64 (10 + i), 10 + i⟩)) with
    handoffs := ⟨3, firstHandoff, .pending .first none⟩
      :: (List.range 8).map (fun i => ⟨10 + i, { firstHandoff with seq := BitVec.ofNat 8 i }, .pending .second none⟩)
    nextHandoff := 20 }

/-- The alarm of the oldest entry there. -/
def displacedAlarm : Incident := ⟨.handoffLost, some 0, 0, 0, .handoffLost 6 0 0⟩

/-- R96: the oldest of eight entries is lost, its record freed, and the passage's record joins. -/
theorem test_BalancedPassageEnds_at_a_full_wait_list :
    waitListFull.waitList.length = 8 ∧ waitListFull.waitList.head? = some ⟨10, 10⟩
    ∧ waitListFull.isPending 3 = true ∧ waitListFull.isPending 10 = true
    ∧ leaves (.exitAxleForward 0 .normal) waitListFull
        (({ (slot0 waitListFull (fun x => { x with zone := [] })).captureAlarm displacedAlarm with
          faultLatch := true
          waitList := waitListFull.waitList.drop 1 ++ [(⟨0, 3⟩ : WaitEntry)]
          handoffs := waitListFull.handoffs.eraseIdx 1 } : State).freeRecord 10) [.incident displacedAlarm true] = true := by
  decide +kernel

/-- A resolved local handoff; a watched companion; and the passage behind, which ends as well. -/
theorem test_BalancedPassageEnds_in_its_other_cases :
    leaves (.exitAxleForward 0 .reverse)
      (above .provedReverse { cut 9 12 4 with companion := some ⟨8, 4⟩ } { passing 4 0 .committed with
        outReverse := 3, taken := some .reverse, handoff := .local .late })
      (slot0 (ended { cut 9 12 4 with companion := some ⟨8, 4⟩ }) (fun x => { x with point := .provedReverse })) []
      = true
    ∧ leaves (.exitAxleForward 1 .normal)
      { balancing { cut 9 11 4 with companion := some ⟨8, 4⟩ } with watches := [8, 9] } (ended (cut 9 11 4))
      [.arrival 1 .normal 11 9 11 none {} false (some ⟨8, 4⟩), .watchHit 9 1 .normal, .watchHit 8 1 .normal] = true
    ∧ leavesThenEnds (.exitAxleForward 1 .normal) (zoned (balancing (cut 9 11 4)) 1 (cut 8 16 2) (passing 2 2 .committed))
      (((zoned (balancing (cut 9 11 4)) 1 (cut 8 16 2) (passing 2 2 .committed)).setSlot 1 { tree.slot 1 with
        zone := [{ passing 2 2 .committed with record := 1 }] }).freeRecord 0) 1
      [.arrival 1 .normal 11 9 11 none {} false none] 1 = true := by decide +kernel

theorem test_BackwardExitAxleIsCountedBack :
    ((inZone (cut 9 11 4) (passing 4 1 .committed)).slot 1).zone.findIdx?
        (fun p => decide (0 < p.outOn .normal)) = some 0
    ∧ leaves (.exitAxleBackward 1 .normal) (inZone (cut 9 11 4) (passing 4 1 .committed))
        (inZone { cut 9 11 4 with flags := { rollback := true } }
          { nowPassed (passing 4 0 .committed) with taken := some .normal, rollbackNoted := true })
        [.incident ⟨.rollback, some 1, 9, 0, .sensor .exitNormal⟩ false] = true
    ∧ leaves (.exitAxleBackward 1 .normal)
        (inZone (cut 9 11 4) { passing 4 2 .committed with rollbackNoted := true })
        (inZone { cut 9 11 4 with flags := { rollback := true } }
          { nowPassed (passing 4 1 .committed) with rollbackNoted := true }) [] = true
    ∧ leavesThenEnds (.exitAxleBackward 1 .normal)
        (zoned (inZone (cut 9 11 4) (passing 2 2 .committed)) 1 (cut 8 16 2) { passing 2 1 .committed with record := 1 })
        (zoned (inZone { cut 9 11 4 with flags := { rollback := true } }
          { nowPassed (passing 2 1 .committed) with rollbackNoted := true }) 1 (cut 8 16 2) (passing 2 1 .committed))
        1 [.incident ⟨.rollback, some 1, 9, 0, .sensor .exitNormal⟩ false] 0 = true := by decide +kernel

theorem test_StrayAxlesRaiseTheirAlarm :
    leaves (.exitAxleForward 1 .normal) (inZone (cut 9 11 4) (passing 4 4 .committing))
      ((inZone (cut 9 11 4) (passing 4 4 .committing)).captureAlarm (strayAlarm .exitNormal .forward))
      [.incident (strayAlarm .exitNormal .forward) true] = true
    ∧ leaves (.exitAxleBackward 1 .reverse) (inZone (cut 9 11 4) (passing 4 4 .committing))
      ((inZone (cut 9 11 4) (passing 4 4 .committing)).captureAlarm (strayAlarm .exitReverse .backward))
      [.incident (strayAlarm .exitReverse .backward) true] = true
    ∧ leaves (.commitAxleBackward 1) tree (tree.captureAlarm (strayAlarm .commit .backward))
      [.incident (strayAlarm .commit .backward) true] = true := by decide +kernel

/-! ### Point control -/

/-- A throw of slot 0 toward reverse. -/
def throwing (left deadline : Nat) (phase : ThrowPhase) : Throw := ⟨.reverse, left, deadline, phase⟩

/-- The tree node with a head in slot 0 that wants the reverse leg. -/
def headed : State := queued tree 0 7 (cutAt 7 (cut 77 11 4))

/-- The tree node with slot 0 moving. -/
def moving (left : Nat) (phase : ThrowPhase) : State :=
  slot0 tree (fun x => { x with
    point := .moving (throwing left 1900 phase), provedNormal := false
    driveReverse := decide (phase = .driving) })

theorem test_ThrowEvaluationFollowsItsRule :
    (tree.slot 0).queue = [] ∧ tree.evaluateThrow 0 = tree ∧ (headed.slot 0).queue = [0]
    ∧ headed.evaluateThrow 0 = slot0 headed (fun x => x.thrownToward .reverse 1 2000)
    ∧ (slot0 headed (fun x => { x with foulingOccupied := true })).evaluateThrow 0
      = slot0 headed (fun x => { x with foulingOccupied := true }) := by decide +kernel

/-- The alarm of the detection that is lost below. -/
def lost : Incident := ⟨.detectionLost, some 0, 0, 0, .detectionLost .provedNormal false false⟩

theorem test_DetectionChangeMovesThePointState :
    (census.slotServing 0 = false
      ∧ leaves (.detectionChange 0 .normal true) census
          (slot0 census (fun x => { x with provedNormal := true })) [] = true)
    ∧ ((tree.slot 0).setInput .normal true = tree.slot 0
      ∧ leaves (.detectionChange 0 .normal true) tree tree [] = true)
    ∧ (tree.slotServing 0 = true ∧ (tree.slot 0).setInput .normal false ≠ tree.slot 0
      ∧ (tree.slot 0).isMoving = false ∧ (tree.slot 0).point = .provedNormal ∧ (tree.slot 0).service = .inUse
      ∧ pointShownBy false false = .unproved
      ∧ leaves (.detectionChange 0 .normal false) tree
          ((slot0 tree (fun x => { x with
            provedNormal := false, point := .unproved, service := .failed })).captureAlarm lost)
          [.incident lost true] = true)
    ∧ leaves (.detectionChange 0 .normal false) (slot0 tree (fun x => { x with service := .blocked }))
        (slot0 tree (fun x => { x with service := .blocked, provedNormal := false, point := .unproved })) [] = true
    ∧ ((moving 1 .driving).slotServing 0 = true
      ∧ ((moving 1 .driving).slot 0).setInput .reverse true ≠ (moving 1 .driving).slot 0
      ∧ pointShownBy false true = provedIn (throwing 1 1900 .driving).target
      ∧ leaves (.detectionChange 0 .reverse true) (moving 1 .driving)
          (slot0 tree (fun x => { x with
            provedNormal := false, provedReverse := true, point := .provedReverse })) [] = true)
    ∧ (pointShownBy true false ≠ provedIn (throwing 1 1900 .pausing).target
      ∧ leaves (.detectionChange 0 .normal true) (moving 1 .pausing)
          (slot0 (moving 1 .pausing) (fun x => { x with provedNormal := true })) [] = true) := by decide +kernel

/-- The alarm of a throw stopped by the fouling circuit. -/
def underCut : Incident := ⟨.unprovedUnderCut, some 0, 0, 0, .underCut .reverse .driving⟩

theorem test_FoulingOccupiedStopsAThrow :
    ((moving 1 .driving).slotServing 0 = true ∧ ((moving 1 .driving).slot 0).foulingOccupied = false
      ∧ ((moving 1 .driving).slot 0).point = .moving (throwing 1 1900 .driving)
      ∧ leaves (.foulingOccupied 0) (moving 1 .driving)
          ((slot0 tree (fun x => { x with
            foulingOccupied := true, provedNormal := false, point := .unproved, service := .failed })).captureAlarm
              underCut) [.incident underCut true] = true)
    ∧ (tree.slotServing 0 = true ∧ (tree.slot 0).foulingOccupied = false ∧ (tree.slot 0).isMoving = false
      ∧ leaves (.foulingOccupied 0) tree (slot0 tree (fun x => { x with foulingOccupied := true })) [] = true)
    ∧ (census.slotServing 0 = false
      ∧ leaves (.foulingOccupied 0) census (slot0 census (fun x => { x with foulingOccupied := true })) []
        = true) := by decide +kernel

/-- Slot 1 occupied. -/
def occupied (s : State) : State := s.setSlot 1 { s.slot 1 with foulingOccupied := true }

/-- Slot 1 SETTLING. -/
def settling : State := (occupied tree).setSlot 1 { (occupied tree).slot 1 with service := .settling }

/-- The alarm of the reconciliation below. -/
def unbalanced : Incident := ⟨.axleImbalance, some 1, 9, 0, .reconciled 4 3 0⟩

theorem test_FoulingClearReconciles :
    (settling.slotServing 1 = true ∧ (settling.slot 1).foulingOccupied = true ∧ (settling.slot 1).zone = []
      ∧ leaves (.foulingClear 1) settling tree [] = true)
    ∧ ((occupied (balancing (cut 9 11 4))).slotServing 1 = true ∧ 0 < (passing 4 3 .committed).out
      ∧ (passing 4 3 .committed).out < (passing 4 3 .committed).axlesIn
      ∧ leaves (.foulingClear 1) (occupied (balancing (cut 9 11 4))) ((ended (cut 9 11 4)).captureAlarm unbalanced)
          [.incident unbalanced true, .arrival 1 .normal 11 9 11 none { imbalance := true } false none] = true)
    ∧ ((tree.slot 1).foulingOccupied = false ∧ leaves (.foulingClear 1) tree tree [] = true) := by
  decide +kernel

/-- Slot 0 clears over a passage three of four axles out toward node 6, its handoff PENDING and its tag watched. -/
def clearing : State :=
  let s := waiting (.pending .first none) []
  { slot0 s (fun x => { x with foulingOccupied := true }) with watches := [8, 9] }

/-- Slot 1 clears over two passages, both part out. -/
def clearingTwo : State :=
  occupied (zoned (balancing (cut 9 11 4)) 1 (cut 10 11 3) (passing 3 1 .trailing))

/-- R79, R80: on a leg that feeds a slot the record joins the wait list, and the watch is hit; of two passages the
oldest ends first, both with IMBALANCE; a passage that stands behind with no axle out stays. -/
theorem test_FoulingClearReconciles_every_passage :
    clearing.slotServing 0 = true ∧ (clearing.slot 0).foulingOccupied = true ∧ clearing.isPending 3 = true
    ∧ leaves (.foulingClear 0) clearing
        (({ (slot0 clearing (fun x => { x with foulingOccupied := false, zone := [] })).setRecord 0
            { cut 9 4 4 with flags := { imbalance := true } } with
          watches := [8], waitList := [⟨0, 3⟩] } : State).captureAlarm
            ⟨.axleImbalance, some 0, 9, 0, .reconciled 4 3 0⟩)
        [.incident ⟨.axleImbalance, some 0, 9, 0, .reconciled 4 3 0⟩ true, .watchHit 9 0 .normal] = true
    ∧ after (.foulingClear 1) clearingTwo (fun t =>
        decide ((t.slot 1).zone = [] ∧ t.free.drop 62 = [0, 1] ∧ t.furtherAlarms = 1
          ∧ t.port.queue.map TxEntry.frame = [.incident unbalanced true,
              .arrival 1 .normal 11 9 11 none { imbalance := true } false none,
              .incident ⟨.axleImbalance, some 1, 10, 0, .reconciled 3 1 0⟩ false,
              .arrival 1 .normal 11 10 11 none { imbalance := true } false none])) = true
    ∧ (let w := State.afterReconcile 1 2 (clearingTwo.setSlot 1
          { clearingTwo.slot 1 with foulingOccupied := false })
       leaves (.foulingClear 1) clearingTwo (w.1.evaluateThrow 1) w.2) = true
    ∧ after (.foulingClear 1) (occupied (zoned (balancing (cut 9 11 4)) 1 (cut 10 11 3) (passing 3 0 .committing)))
        (fun t => decide ((t.slot 1).zone.map Passage.record = [1])) = true := by decide +kernel

/-- The alarm of the throw that fails below. -/
def gaveUp : Incident := ⟨.pointFailed, some 0, 0, 0, .pointFailed .reverse 2⟩

theorem test_ThrowDeadlinesRetryOrFail :
    (((moving 1 .driving).slot 0).service ≠ .off
      ∧ ((moving 1 .driving).slot 0).point = .moving ⟨.reverse, 0 + 1, 1900, .driving⟩
      ∧ leaves (.throwDeadline 0) (moving 1 .driving)
          { slot0 (moving 0 .pausing) (fun x => { x with point := .moving ⟨.reverse, 0, 2150, .pausing⟩ }) with
            time := 1900 } [] = true)
    ∧ (((moving 0 .driving).slot 0).point = .moving ⟨.reverse, 0, 1900, .driving⟩
      ∧ (moving 0 .driving).serving = true
      ∧ leaves (.throwDeadline 0) (moving 0 .driving)
          (({ slot0 (moving 0 .pausing) (fun x => { x with point := .unproved, service := .failed }) with
            time := 1900 } : State).captureAlarm gaveUp) [.incident gaveUp true] = true)
    ∧ (((moving 0 .pausing).slot 0).point = .moving ⟨.reverse, 0, 1900, .pausing⟩
      ∧ leaves (.pauseEnd 0) (moving 0 .pausing)
          { slot0 (moving 0 .driving) (fun x => { x with point := .moving ⟨.reverse, 0, 2900, .driving⟩ }) with
            time := 1900 } [] = true) := by decide +kernel

/-! ### Timers -/

/-- Slot 1's gap timer expires: the time it comes to, and the passage that is left. -/
def gapGone (r : Record) (p : Passage) : State :=
  { inZone r { p with gapRunning := false } with time := 1400 }

/-- A head at distance 0 behind a passage of slot 1, and a passage with as many axles in excess. -/
def merging : State :=
  zoned (queued tree 1 7 (cutAt 7 (cut 77 15 2))) 1 (cut 66 12 4) { passing 6 0 .trailing with excess := 2 }

/-- The state after the merge. -/
def merged : State :=
  let s := { (zoned (taken tree (cutAt 7 (cut 77 15 2))).2 1
    { cut 66 12 4 with companion := some ⟨77, 15⟩, flags := { merged := true } }
    { passing 6 0 .committed with gapRunning := false }).freeRecord 0 with time := 1400 }
  s.setSlot 1 { s.slot 1 with expected := some 8, recent := [⟨7, .announced, 77⟩] }

theorem test_GapExpiryCommitsOrMerges :
    ((inZone (cut 9 11 4) (passing 4 0 .committed)).serving = true
      ∧ leaves (.gapExpiry 1 0) (inZone (cut 9 11 4) (passing 4 0 .committed))
          (gapGone (cut 9 11 4) (passing 4 0 .committed)) [] = true)
    ∧ leaves (.gapExpiry 1 0) (inZone (cut 9 11 4) (passing 0 0 .committing))
        (gapGone (cut 9 11 4) (passing 0 0 .committing)) [] = true
    ∧ leavesThenEnds (.gapExpiry 1 0) (inZone (cut 9 11 4) (passing 4 4 .trailing))
        (gapGone (cut 9 11 4) (passing 4 4 .committed)) 1 [] 1 = true
    ∧ leavesThenEnds (.gapExpiry 1 0) (inZone (cut 9 11 4) (passing 3 3 .committing))
        (gapGone { cut 9 11 4 with flags := { short := true } } (passing 3 3 .committed)) 1
        [.incident ⟨.shortCut, some 1, 9, 0, .shortCut 3 4⟩ false] 1 = true
    ∧ leaves (.gapExpiry 1 0) (inZone (cut 9 11 0) (passing 1 0 .committing))
        (gapGone (cut 9 11 0) (passing 1 0 .committed)) [] = true
    ∧ leaves (.gapExpiry 1 0) (inZone (cut 9 11 4) (passing 4 0 .trailing))
        (gapGone (cut 9 11 4) (passing 4 0 .committed)) [] = true
    ∧ leaves (.gapExpiry 1 0) (inZone (cut 9 11 4) (passing 1 0 .committing))
        (gapGone { cut 9 11 4 with flags := { short := true } } (passing 1 0 .committed))
        [.incident ⟨.shortCut, some 1, 9, 0, .shortCut 1 4⟩ false] = true
    ∧ ((inZone (cut 9 11 4) { passing 5 0 .trailing with excess := 1 }).slot 1).queue = []
    ∧ leaves (.gapExpiry 1 0) (inZone (cut 9 11 4) { passing 5 0 .trailing with excess := 1 })
        (gapGone { cut 9 11 4 with flags := { long := true } } { passing 5 0 .committed with excess := 1 })
        [.incident ⟨.longCut, some 1, 9, 0, .excess 1⟩ false] = true
    ∧ ((merging.slot 1).expected = some 7 ∧ (merging.slot 1).queue = [0]
      ∧ distance 7 (merging.queuedSeq 0) = 0 ∧ (merging.record 0).expectedAxles = 2
      ∧ (merging.record 1).companion = none ∧ (merging.record 0).tag ≠ 0)
    ∧ leaves (.gapExpiry 1 0) merging merged
        [.incident ⟨.catchUpMerge, some 1, 66, 77, .excess 2⟩ false] = true := by
  decide +kernel

/-- A head that carries MERGED is absorbed like any other (log 30). -/
theorem test_GapExpiryCommitsOrMerges_at_a_merged_head :
    leaves (.gapExpiry 1 0)
      (merging.setRecord 0 { merging.record 0 with flags := { merged := true }, companion := some ⟨78, 12⟩ }) merged
      [.incident ⟨.catchUpMerge, some 1, 66, 77, .excess 2⟩ false] = true := by decide +kernel

/-- A ghost timer that runs in slot 1. -/
def haunted (raised : Bool) : State :=
  (occupied tree).setSlot 1 { (occupied tree).slot 1 with ghostTimer := some 1200, ghostRaised := raised }

theorem test_StallGhostAndOverdueTimersDoTheirWork :
    ((inZone (cut 9 11 4) (passing 3 1 .committing)).slotServing 1 = true
      ∧ leaves (.stallExpiry 1 0) (inZone (cut 9 11 4) (passing 3 1 .committing))
          { inZone (cut 9 11 4) { passing 3 1 .committing with stallTimer := none, stalled := true } with
            time := 5900 } [.incident ⟨.stall, some 1, 9, 0, .stall .committing 3 1⟩ false] = true)
    ∧ (((haunted false).slot 1).ghostTimer = some 1200
      ∧ leaves (.ghostExpiry 1) (haunted false) { haunted true with time := 1200 }
          [.incident ⟨.ghostOccupancy, some 1, 0, 0, .empty⟩ false] = true
      ∧ leaves (.ghostExpiry 1) (haunted true) { haunted true with time := 1200 } [] = true
      ∧ after (.ghostExpiry 1) (haunted true) (fun t => decide ((t.slot 1).ghostTimer = none)) = true
      ∧ (tree.slot 1).ghost = false
      ∧ after (.foulingOccupied 1) tree (fun t =>
          (t.slot 1).ghost && decide ((t.slot 1).ghostTimer = some 1500)) = true
      ∧ after (.foulingClear 1) (haunted true) (fun t =>
          decide ((t.slot 1).ghost = false ∧ (t.slot 1).ghostTimer = none)) = true)
    ∧ ((headed.slot 0).queue.find? (fun i => headed.queuedSeq i == 7) = some 0
      ∧ (headed.record 0).timing = some ⟨900, 20900, false⟩
      ∧ leaves (.overdueExpiry 0 7) headed
          { headed.setRecord 0 { headed.record 0 with timing := some ⟨900, 20900, true⟩ } with time := 20900 }
          [.incident ⟨.overdue, some 0, 77, 0, .overdue (some 7)⟩ false] = true)
    ∧ leaves (.overdueExpiry 0 7)
        (headed.setRecord 0 { headed.record 0 with timing := some ⟨900, 20900, true⟩ })
        (headed.setRecord 0 { headed.record 0 with timing := some ⟨900, 20900, true⟩ }) [] = true := by
  decide +kernel

/-- A handoff that waits for its reply, its passage in slot 0. -/
def unanswered (a : Attempt) : State := waiting (.pending a (some 1050)) []

/-- The same with its passage ended and its record in the wait list. -/
def listedWait (a : Attempt) : State :=
  { (taken tree (cut 9 4 4)).2 with
    handoffs := [⟨3, firstHandoff, .pending a (some 1050)⟩], nextHandoff := 9, waitList := [⟨0, 3⟩] }

/-- The alarm of the handoff lost. -/
def lostHandoff : Incident := ⟨.handoffLost, some 0, 9, 0, .handoffLost 6 0 0⟩

theorem test_ReplyTimeoutsTryAgainOrLose :
    ((unanswered .first).serving = true ∧ (unanswered .first).handoffAt (.zone 0 0) = some 3
      ∧ (unanswered .first).handoff? 3 = some ⟨3, firstHandoff, .pending .first (some 1050)⟩
      ∧ leaves (.replyTimeout (.zone 0 0)) (unanswered .first)
          { waiting (.pending .second none) [] with time := 1050 } [.handoff firstHandoff] = true)
    ∧ ((unanswered .second).handoffAt (.zone 0 0) = some 3
      ∧ leaves (.replyTimeout (.zone 0 0)) (unanswered .second)
          (({ waiting (.resolved .lost) [] with time := 1050, faultLatch := true } : State).captureAlarm lostHandoff)
          [.incident lostHandoff true] = true)
    ∧ ((listedWait .second).handoffAt (.wait 0) = some 3
      ∧ leaves (.replyTimeout (.wait 0)) (listedWait .second)
          (({ ended (cut 9 4 4) with time := 1050, faultLatch := true, nextHandoff := 9 } : State).captureAlarm
            lostHandoff) [.incident lostHandoff true] = true) := by decide +kernel

/-- The tree node with timers of its port and hold unit that run. -/
def timed : State :=
  { tree with
    releaseInterval := some 1500
    periodTimer := some 1600
    port := { tree.port with mode := .mute, failures := 16, retry := .running 1700 } }

theorem test_NodeTimersDoTheirWork :
    leaves .releaseIntervalEnd timed { timed with time := 1500, releaseInterval := none } [] = true
    ∧ (crest.rosterEntry? 5 = some ⟨5, .present, some 900, {}, false⟩
      ∧ leaves (.silenceDeadline 5) crest
          { crest with time := 3900, roster := [⟨5, .silent, some 900, {}, false⟩] } [] = true
      ∧ after (.silenceDeadline 5) crest (fun t => decide (t.signal = .stop)) = true)
    ∧ leaves .muteRetryExpiry timed
        { timed with time := 1700, port := { timed.port with retry := .attemptPending } } [] = true
    ∧ (timed.serving = true ∧ timed.periodTimer = some 1600 ∧ timed.port.queue = []
      ∧ after .periodTimerExpiry timed (fun t =>
          decide (t.time = 1600 ∧ t.periodTimer = some 2600
            ∧ t.port.queue.map TxEntry.frame = [.holdState {} .inService])) = true) := by decide +kernel

theorem test_StoppedTimersDoNotExpire :
    ((tree.slot 1).zone = [] ∧ leaves (.gapExpiry 1 0) tree tree [] = true
      ∧ leaves (.stallExpiry 1 1) tree tree [] = true)
    ∧ ((tree.slot 0).ghostTimer = none ∧ leaves (.ghostExpiry 0) tree tree [] = true)
    ∧ ((tree.slot 0).queue = [] ∧ leaves (.overdueExpiry 0 7) tree tree [] = true)
    ∧ ((tree.slot 0).isMoving = false ∧ leaves (.throwDeadline 0) tree tree [] = true
      ∧ leaves (.pauseEnd 0) tree tree [] = true)
    ∧ leaves (.pauseEnd 0) (moving 1 .driving) (moving 1 .driving) [] = true
    ∧ leaves (.throwDeadline 0) (moving 1 .pausing) (moving 1 .pausing) [] = true
    ∧ (tree.handoffAt (.wait 0) = none ∧ leaves (.replyTimeout (.wait 0)) tree tree [] = true)
    ∧ leaves (.replyTimeout (.zone 0 0)) (waiting (.pending .first none) [])
        (waiting (.pending .first none) []) [] = true
    ∧ (tree.releaseInterval = none ∧ leaves .releaseIntervalEnd tree tree [] = true)
    ∧ (tree.periodTimer = none ∧ leaves .periodTimerExpiry tree tree [] = true)
    ∧ (tree.rosterEntry? 5 = none ∧ leaves (.silenceDeadline 5) tree tree [] = true)
    ∧ (tree.port.retry = .stopped ∧ leaves .muteRetryExpiry tree tree [] = true)
    ∧ (tree.port.sending = none ∧ leaves .frameSent tree tree [] = true) := by decide +kernel

/-! ### The bus port -/

/-- The tree node with a transmit queue, a frame on the bus or not, a mode and a retry timer. -/
def sending (q : List TxEntry) (f : Option OutFrame) (failures : Nat) (mode : PortMode) (retry : RetryTimer) : State :=
  { tree with port := ⟨q, f, failures, mode, retry, true⟩ }

/-- A frame of the lowest urgency, waiting and on the bus. -/
def hit : TxEntry := .offered (.watchHit 9 0 .normal) none

/-- The state a command leaves has this port, and the rest is as it was. -/
def gives (c : Instr) (s : State) (p : Port) : Bool :=
  after c s (fun t => decide (t.port = p ∧ t.apartFromFrames = { s with port := p }.apartFromFrames))

theorem test_AttemptsBeginAndFailAsTheRulesSay :
    tree.formMask = tree.holdMask ∧ tree.serving = true
    ∧ gives .transmitAttempt (sending [hit, hit] none 3 .active .stopped)
        ⟨[{ hit with onBus := true }, hit], some hit.frame, 3, .active, .stopped, true⟩ = true
    ∧ gives .transmitAttempt (sending [hit] none 16 .mute .attemptPending)
        ⟨[{ hit with onBus := true }], some hit.frame, 16, .mute, .stopped, true⟩ = true
    ∧ gives .transmitAttempt (sending [] none 0 .active .stopped) ⟨[], none, 0, .active, .stopped, true⟩ = true
    ∧ gives .transmitAttempt (sending [hit] none 16 .mute (.running 9))
        ⟨[hit], none, 16, .mute, .running 9, true⟩ = true
    ∧ census.serving = false ∧ gives .transmitAttempt census census.port = true
    ∧ gives .arbitrationLost (sending [{ hit with onBus := true }] (some hit.frame) 3 .active .stopped)
        ⟨[hit], none, 3, .active, .stopped, true⟩ = true
    ∧ gives .transmitError (sending [{ hit with onBus := true }] (some hit.frame) 14 .active .stopped)
        ⟨[hit], none, 15, .active, .stopped, true⟩ = true
    ∧ gives .transmitError (sending [{ hit with onBus := true }] (some hit.frame) 15 .active .stopped)
        ⟨[hit], none, 16, .mute, .running 3000, true⟩ = true
    ∧ gives .arbitrationLost (sending [{ hit with onBus := true }] (some hit.frame) 16 .mute .stopped)
        ⟨[hit], none, 16, .mute, .running 3000, true⟩ = true
    ∧ gives .transmitError (sending [{ hit with onBus := true }] (some hit.frame) 16 .mute .stopped)
        ⟨[hit], none, 16, .mute, .running 3000, true⟩ = true
    ∧ gives .arbitrationLost tree tree.port = true ∧ gives .transmitError tree tree.port = true := by
  decide +kernel

/-- A HANDOFF and a HOLD_STATE of the transmit queue. -/
def handoffEntry : TxEntry := .offered (.handoff firstHandoff) (some 3)
def holdEntry : TxEntry := .offered (.holdState {} .inService) none
def replyEntry : TxEntry := .offered (.handoffReply 6 0 0 9 .taken) none

/-- The tree node sending the head of a queue. -/
def busy (e : TxEntry) : State := sending [{ e with onBus := true }, hit] (some e.frame) 16 .mute .stopped

/-- What FRAME_SENT leaves of the port. -/
def sentPort (q : List TxEntry) : Port := ⟨q, none, 0, .active, .stopped, true⟩

theorem test_FrameSentTellsTheOwner :
    (busy hit).formMask = (busy hit).holdMask ∧ (busy hit).port.sending = some hit.frame
    ∧ (busy hit).port.queue = [] ++ { hit with onBus := true } :: [hit] ∧ hit.onBus = false ∧ hit.replaced = false
    ∧ gives .frameSent (busy hit) (sentPort [hit]) = true
    ∧ gives .frameSent (busy { holdEntry with replaced := true }) (sentPort [holdEntry, hit]) = true
    ∧ after .frameSent (busy (.offered (.start .tree 2 5) none))
        (fun t => t.startSent && decide (t.port = sentPort [hit])) = true
    ∧ (waiting (.pending .first none) []).handoff? 3 = some ⟨3, firstHandoff, .pending .first none⟩
    ∧ after .frameSent { waiting (.pending .first none) [] with port := (busy handoffEntry).port }
        (fun t => decide (t.port = sentPort [hit]
          ∧ t.handoffs = [⟨3, firstHandoff, .pending .first (some 1050)⟩])) = true
    ∧ after .frameSent { waiting (.resolved .lost) [] with port := (busy handoffEntry).port }
        (fun t => decide (t.port = sentPort [hit] ∧ t.handoffs = [⟨3, firstHandoff, .resolved .lost⟩])) = true := by
  decide +kernel

/-- The bits of an INCIDENT_CLEAR from the yard computer to the tree node, and the same with one payload
bit changed. -/
def clearBits : List Bool := frameBits ⟨60, .incidentClear, [5]⟩
def brokenBits : List Bool := frameBits ⟨60, .incidentClear, [5]⟩ |>.set 20 true

/-- The bits of a frame of an unknown kind, and of one with a wrong length, each with its check sequence. -/
def strangeBits (fields : List Bool) : List Bool :=
  false :: (fields ++ numberBits 16 (checkSequence fields).toNat ++ List.replicate 7 true)

theorem test_discards : judge clearBits = .valid ⟨60, .incidentClear, [5]⟩
    ∧ judge brokenBits = .discarded .checkSequence
    ∧ judge (clearBits.set (clearBits.length - 1) false) = .discarded .endField
    ∧ judge (strangeBits (numberBits 2 2 ++ numberBits 6 60 ++ numberBits 5 3 ++ numberBits 4 0))
        = .discarded .unknownKind
    ∧ judge (strangeBits (numberBits 2 2 ++ numberBits 6 60 ++ numberBits 5 0x13 ++ numberBits 4 0))
        = .discarded .lengthOfKind
    ∧ judge (strangeBits (numberBits 2 1 ++ numberBits 6 60 ++ numberBits 5 0x13 ++ numberBits 4 1
        ++ numberBits 8 5)) = .discarded .urgencyOfKind
    ∧ judge (strangeBits (numberBits 2 2 ++ numberBits 6 60 ++ numberBits 5 0x13 ++ numberBits 4 15))
        = .discarded .lengthInvalid := by decide +kernel

/-- Without a footing on the bus. -/
def footless (s : State) : State := { s with port := { s.port with seenIdle := false } }

theorem test_FramesNotTakenLeaveNoTrace :
    leaves .busIdle (footless tree) tree [] = true ∧ State.reset.nodeState = .loading
    ∧ leaves .busIdle State.reset State.reset [] = true
    ∧ judge brokenBits = .discarded .checkSequence ∧ DiscardReason.unreadable .checkSequence = true
    ∧ leaves (.frameDiscarded brokenBits) tree (footless tree) [] = true
    ∧ judge [true] = .discarded .noStart ∧ leaves (.frameDiscarded [true]) tree tree [] = true
    ∧ leaves (.frameDiscarded brokenBits) State.reset State.reset [] = true
    ∧ crest.nodeState = .inService ∧ crest.port.seenIdle = true ∧ crest.cfg.role = .crest
    ∧ leaves (.frameNotTaken 5) { crest with roster := [⟨5, .unheard, none, {}, false⟩] }
        { crest with roster := [⟨5, .present, some 1000, {}, false⟩] } [] = true
    ∧ tree.cfg.role ≠ .crest ∧ leaves (.frameNotTaken 5) tree tree [] = true := by decide +kernel

theorem test_FrameBitsAreReadBackAndNoOthersAreValid :
    [(5 : Byte)].length = kindLength .incidentClear ∧ judge clearBits = .valid ⟨60, .incidentClear, [5]⟩
    ∧ judge (frameBits ⟨1, .handoff, List.replicate 14 0xFF⟩) = .valid ⟨1, .handoff, List.replicate 14 0xFF⟩ := by
  decide +kernel

/-- A handoff with every part at a boundary of its range. -/
def extreme : HandoffFrame where
  targetStation := 62
  targetSlot := 3
  sourceSlot := 3
  sourceLeg := .reverse
  seq := 255
  contents :=
    { tag := 0xFFFF
      destination := 63
      originalDestination := some 63
      expectedAxles := 250
      cutClass := 3
      flags := { translated := true, merged := true, adopted := true }
      companion := some ⟨1, 63⟩ }

theorem test_FramesCarryTheirFieldsInTheirPlaces :
    extreme.targetStation ≤ 62 ∧ extreme.targetSlot ≤ 3 ∧ extreme.contents.destination ≤ 63
    ∧ extreme.contents.expectedAxles ≤ 250 ∧ extreme.contents.cutClass ≤ 3
    ∧ extreme.contents.originalDestination = some 63 ∧ extreme.contents.companion = some ⟨1, 63⟩
    ∧ extreme.contents.flags.translated = extreme.contents.originalDestination.isSome
    ∧ extreme.contents.flags.merged = extreme.contents.companion.isSome
    ∧ judge (sentBits treeConfig (.handoff extreme))
      = .valid ⟨5, .handoff, [62, 0x37, 255, 0xFF, 0xFF, 63, 63, 250, 3, 0x02, 0x0C, 0, 1, 63]⟩
    ∧ payloadContents (handoffOfBytes 62 0x37 255 0xFF 0xFF 63 63 250 3 0x02 0x0C 0 1 63)
      = extreme.contents := by decide +kernel

/-- Payloads written out by section 12.2, and the details of their incidents by section 12.3. -/
theorem test_payloads_stand_in_their_places :
    OutFrame.reads 60 (.start .crest 4 0x1234) [1, 4, 0x12, 0x34]
    ∧ OutFrame.reads 60 (.holdState { settling := true, incidentFrozen := true } .inService) [0x81, 3]
    ∧ OutFrame.reads 60 (.commandReply .statusQuery 0x0102 .refusedRole) [60, 0x16, 1, 2, 5]
    ∧ OutFrame.reads 60 (.released 0x0102 20 (some 4) 3 { stray := true, adopted := true } 255 .refusedUnknownFeed)
        [60, 1, 2, 20, 4, 3, 2, 1, 255, 6]
    ∧ OutFrame.reads 60 (.arrival 3 .reverse 16 0x0102 11 none { rollback := true } true (some ⟨7, 63⟩))
        [60, 0x31, 16, 1, 2, 11, 0, 4, 0x40, 0, 7, 63]
    ∧ Detail.reads (.reconciled 4 3 0) [1, 4, 3, 0]
    ∧ OutFrame.reads 60 (.incident ⟨.axleImbalance, some 2, 9, 8, .reconciled 4 3 0⟩ true)
        [60, 10, 0x82, 0, 9, 0, 8, 1, 4, 3, 0, 0, 0]
    ∧ OutFrame.reads 60 (.incident ⟨.outqOverflow, none, 0, 0, .overflow .released⟩ false)
        [60, 22, 15, 0, 0, 0, 0, 0x18, 3, 0, 0, 0, 0]
    ∧ OutFrame.reads 60 (.status { stall := true } .inService (some .stall) 255 0x0102
        [⟨.inUse, .provedReverse, 6, 2⟩, ⟨.off, .unproved, 0, 0⟩, ⟨.off, .unproved, 0, 0⟩, ⟨.blocked, .provedNormal, 0, 0⟩])
        [60, 4, 0xCC, 255, 1, 2, 2, 0x72, 0, 0xC0, 0, 0xC0, 4, 0] := by
  unfold OutFrame.reads Detail.reads; decide +kernel

theorem test_FullQueueDiscardsTheYoungestLeastUrgent :
    (List.replicate 15 hit ++ [hit]).length = 16
    ∧ (List.replicate 15 hit ++ [hit]).Pairwise (fun a b => a.urgency ≤ b.urgency) ∧ hit.onBus = false
    ∧ handoffEntry.isHoldState = false ∧ handoffEntry.urgency < hit.urgency
    ∧ enqueue handoffEntry (List.replicate 15 hit ++ [hit]) = (handoffEntry :: List.replicate 15 hit, some hit)
    ∧ enqueue hit (List.replicate 15 hit ++ [hit]) = (List.replicate 15 hit ++ [hit], some hit)
    ∧ enqueue handoffEntry (List.replicate 15 hit ++ [{ hit with onBus := true }])
      = (handoffEntry :: (List.replicate 14 hit ++ [{ hit with onBus := true }]), some hit)
    ∧ enqueue handoffEntry (List.replicate 15 replyEntry ++ [{ hit with onBus := true }])
      = (List.replicate 15 replyEntry ++ [{ hit with onBus := true }], some handoffEntry) := by
  decide +kernel

/-- R147, R148: a frame between two, and a HOLD_STATE in the place of the one being sent. -/
theorem test_FullQueueDiscardsTheYoungestLeastUrgent_with_room :
    [handoffEntry, hit].Pairwise (fun a b => a.urgency ≤ b.urgency) ∧ replyEntry.isHoldState = false
    ∧ enqueue replyEntry [handoffEntry, hit] = ([handoffEntry] ++ replyEntry :: [hit], none)
    ∧ replyEntry.urgency ≤ handoffEntry.urgency ∧ replyEntry.urgency < hit.urgency
    ∧ enqueue replyEntry [] = ([] ++ replyEntry :: [], none)
    ∧ holdEntry.isHoldState = true
    ∧ enqueue (.offered (.holdState { stall := true } .inService) none)
        (List.replicate 8 handoffEntry ++ { holdEntry with onBus := true } :: List.replicate 7 hit)
      = (List.replicate 8 handoffEntry ++ ⟨.holdState { stall := true } .inService, none, true, true⟩
          :: List.replicate 7 hit, none) := by decide +kernel

/-- The handoff of `waiting`, or of the wait list, with its frame the youngest of sixteen, and the period timer
running. -/
def crammed (s : State) (v : TxEntry) : State :=
  { s with periodTimer := some 1500, port := { s.port with queue := List.replicate 15 replyEntry ++ [v] } }

/-- What the period timer's HOLD_STATE leaves there, in the words of the statement. -/
def sheds (s : State) (v : TxEntry) (f : State → Bool) : Bool :=
  after .periodTimerExpiry (crammed s v) (fun t =>
    decide (t.apartFromFrames = ({ crammed s v with time := 1500 }.afterDiscard v).apartFromFrames)
    && decide (t.port.queue.map TxEntry.frame
        = .holdState t.holdMask .inService :: List.replicate 15 replyEntry.frame)
    && decide (t.capture = some ⟨overflowOf v.frame.kind, 1500⟩) && f t)

/-- R92, R149: a report discarded; a first and a second attempt discarded, and one of the wait list; and a frame
whose context is RESOLVED. -/
theorem test_FullQueueDiscardsTheYoungestLeastUrgent_and_the_node_is_told :
    (crammed tree hit).serving = true ∧ 0 < handoffEntry.urgency ∧ handoffEntry.owner = some 3
    ∧ (crammed tree hit).port.queue.Pairwise (fun a b => a.urgency ≤ b.urgency)
    ∧ sheds tree hit (fun t => decide (t.furtherAlarms = 0 ∧ t.faultLatch = false)) = true
    ∧ sheds (waiting (.pending .first none) []) handoffEntry (fun t => t.faultLatch
        && decide (t.furtherAlarms = 3 ∧ t.handoffs = [⟨3, firstHandoff, .resolved .lost⟩]
          ∧ t.holdMask = { handoffFault := true })) = true
    ∧ sheds (waiting (.pending .second none) []) handoffEntry (fun t => t.faultLatch
        && decide (t.furtherAlarms = 2 ∧ t.handoffs = [⟨3, firstHandoff, .resolved .lost⟩])) = true
    ∧ sheds (waiting (.pending .second none) [⟨9, 3⟩]) handoffEntry (fun t => t.faultLatch
        && decide (t.waitList = [] ∧ t.handoffs = [] ∧ t.free.getLast? = some 9)) = true
    ∧ sheds (waiting (.resolved .lost) []) handoffEntry (fun t => decide (t.furtherAlarms = 0 ∧ t.faultLatch = false))
      = true
    ∧ (enqueue (.offered (.handoff firstHandoff) (some 3)) (List.replicate 16 replyEntry)).2 = some handoffEntry := by
  decide +kernel

/-! ### Frames between nodes -/

theorem test_FramesToOthersAreNotTaken :
    frameOrigin (.incidentClear 60 5) = some 60
    ∧ census.nodeState ≠ .inService ∧ leaves (.incidentClear 60 5) census census [] = true
    ∧ (footless tree).port.seenIdle = false
    ∧ leaves (.incidentClear 60 5) (footless tree) (footless tree) [] = true
    ∧ tree.nodeState = .inService ∧ tree.port.seenIdle = true ∧ (5 : Station).toNat = tree.cfg.node
    ∧ leaves (.holdState 5 1 3) tree (tree.refreshed 5) [] = true
    ∧ frameTarget (.incidentClear 60 6) = some 6 ∧ (6 : Byte).toNat ≠ tree.cfg.node
    ∧ leaves (.incidentClear 60 6) tree (tree.refreshed 60) [] = true
    ∧ isYardCommand (.incidentClear 59 5) = true ∧ (59 : Station).toNat ≠ tree.cfg.yardStation
    ∧ leaves (.incidentClear 59 5) tree (tree.refreshed 59) [] = true := by decide +kernel

/-- The tree node with a queue that node 1 feeds. -/
def fed : State := queued headed 0 7 (cutAt 9 (cut 78 12 4))

theorem test_StartAndHoldStateActOnQueuesAndRoster :
    tree.hears 1 ∧ PoolLaw fed ∧ (fed.slot 0).service ≠ .off ∧ (fed.slotCfg 0).feedNode = 1
    ∧ (fed.slotCfg 1).feedNode ≠ 1
    ∧ after (.start 1 1 1 0x4321) fed (fun t =>
        decide ((t.slot 0).queue = [] ∧ (t.slot 0).expected = none ∧ t.record 0 = Record.blank
          ∧ t.free.drop 62 = [0, 1] ∧ t.slot 1 = fed.slot 1)) = true
    ∧ crest.hears 5
    ∧ after (.start 5 0 2 0x1234) { crest with roster := [⟨5, .unheard, none, {}, false⟩] }
        (fun t => decide (t.roster = [⟨5, .present, some 1000, {}, false⟩])) = true
    ∧ after (.start 5 0 2 0x1234) { crest with roster := [⟨5, .silent, some 1, { stall := true }, false⟩] }
        (fun t => decide (t.roster = [⟨5, .present, some 1000, {}, true⟩])) = true
    ∧ leaves (.holdState 5 0x81 3) crest
        { crest with
          roster := [⟨5, .present, some 1000, { settling := true, incidentFrozen := true }, false⟩] } [] = true
    ∧ leaves (.holdState 1 0x81 3) tree tree [] = true := by
  unfold State.hears PoolLaw; decide +kernel

/-- R33: a START whose header carries origin 0, no station's number, leaves the queue that the crest feeds. -/
theorem test_StartAndHoldStateActOnQueuesAndRoster_at_the_crest_feed :
    crest.hears 0 ∧ (crest.slot 0).service ≠ .off ∧ (crest.slotCfg 0).feedNode = (0 : Station).toNat
    ∧ leaves (.start 0 0 1 0x4321) (queued crest 0 7 (cutAt 7 (cut 77 11 4)))
        (queued crest 0 7 (cutAt 7 (cut 77 11 4))) [] = true
    ∧ leaves (.frameDiscarded (frameBits ⟨0, .start, [0, 1, 0x43, 0x21]⟩)) (queued crest 0 7 (cutAt 7 (cut 77 11 4)))
        (queued crest 0 7 (cutAt 7 (cut 77 11 4))) [] = true := by
  unfold State.hears; decide +kernel

theorem test_StartReturnsHandoffsToTheFirstAttempt :
    (unanswered .second).hears 6 ∧ ((unanswered .second).handoffs.map Handoff.number).Nodup
    ∧ (unanswered .second).hasRoom ((unanswered .second).handoffs.length + 1)
    ∧ firstHandoff.targetStation = (6 : Station).toNat
    ∧ after (.start 6 0 1 0) (unanswered .second) (fun t =>
        decide (t.handoffs = [⟨3, firstHandoff, .pending .first none⟩] ∧ t.port.queue = [handoffEntry])) = true
    ∧ firstHandoff.targetStation ≠ (7 : Station).toNat
    ∧ after (.start 7 0 1 0) (unanswered .second) (fun t =>
        decide (t.handoffs = (unanswered .second).handoffs)) = true := by
  unfold State.hears State.hasRoom; decide +kernel

/-- The reply of the tree node to `offered` from node 1. -/
def reply (p : HandoffPayload) (r : HandoffResult) : OutFrame :=
  .handoffReply 1 p.targetSlot.toNat p.seq p.tag r

/-- Slot 0 with six records, SYNCED at 0. -/
def crowded : State :=
  queued (queued (queued (queued (queued (queued tree 0 0 (cutAt 0 (cut 1 4 2))) 0 0 (cutAt 1 (cut 2 4 2)))
    0 0 (cutAt 2 (cut 3 4 2))) 0 0 (cutAt 3 (cut 4 4 2))) 0 0 (cutAt 4 (cut 5 4 2))) 0 0 (cutAt 5 (cut 6 4 2))

theorem test_HandoffsAreRefused :
    tree.hears 1 ∧ offered.target.toNat = tree.cfg.node ∧ HandoffInRange offered ∧ tree.fedBy 0 1 offered
    ∧ 3 < ({ offered with targetSlot := 4 } : HandoffPayload).targetSlot.toNat
    ∧ leaves (.handoff 1 { offered with targetSlot := 4 }) tree tree
        [reply { offered with targetSlot := 4 } .refusedUnknownFeed] = true
    ∧ ¬HandoffInRange { offered with destination := 64 }
    ∧ leaves (.handoff 1 { offered with destination := 64 }) tree tree
        [reply offered .refusedUnknownFeed] = true
    ∧ (tree.slot 2).service = .off
    ∧ leaves (.handoff 1 { offered with targetSlot := 2 }) tree tree
        [reply { offered with targetSlot := 2 } .refusedUnknownFeed] = true
    ∧ ¬tree.fedBy 0 1 { offered with sourceSlot := 1 }
    ∧ leaves (.handoff 1 { offered with sourceSlot := 1 }) tree tree [reply offered .refusedUnknownFeed] = true
    ∧ leaves (.handoff 1 offered) (slot0 tree (fun x => { x with service := .settling }))
        (slot0 tree (fun x => { x with service := .settling })) [reply offered .refusedNotReady] = true
    ∧ (crowded.slot 0).expected = some 0 ∧ distance 0 offered.seq < 128
    ∧ (∀ i ∈ (crowded.slot 0).queue, crowded.queuedSeq i ≠ offered.seq) ∧ 6 ≤ (crowded.slot 0).queue.length
    ∧ leaves (.handoff 1 offered) crowded crowded [reply offered .refusedFull] = true := by
  unfold State.hears HandoffInRange State.fedBy; decide +kernel

/-- The record that `offered` becomes in slot 0 of the tree node. -/
def arrived : Record := { cut 77 4 6 with
  cutClass := 1, feedSeq := some 7, timing := some ⟨1000, 21000, false⟩ }

/-- Slot 0 with a head behind which `offered` goes, at the largest distance that is ahead. -/
def ahead : State := queued tree 0 136 (cutAt 137 (cut 1 4 2))

/-- Slot 0 with a record that `offered` goes before. -/
def behind : State := queued tree 0 6 (cutAt 9 (cut 1 4 2))

/-- The state once `offered` stands in slot 0's queue, at its place. -/
def placed (s : State) (queue : List RecIx) : State :=
  slot0 (taken s arrived).2 (fun x => { x with queue := queue })

theorem test_HandoffsAreTakenIntoTheQueue :
    tree.hears 1 ∧ HandoffInRange offered ∧ tree.fedBy 0 1 offered
    ∧ (tree.slot 0).service ≠ .off ∧ (tree.slot 0).service ≠ .settling
    ∧ tree.free.head? = some 0 ∧ (tree.slot 0).expected = none ∧ (tree.slot 0).queue = []
    ∧ leaves (.handoff 1 offered) tree (queued tree 0 7 arrived) [reply offered .taken] = true
    ∧ (ahead.slot 0).expected = some 136 ∧ distance 136 offered.seq = 127 ∧ (ahead.slot 0).queue = [0] ++ []
    ∧ ahead.free.head? = some 1 ∧ (1 : RecIx) ∉ (ahead.slot 0).queue
    ∧ ahead.queuedSeq 0 ≠ offered.seq ∧ distance 136 (ahead.queuedSeq 0) < distance 136 offered.seq
    ∧ leaves (.handoff 1 offered) ahead (placed ahead [0, 1]) [reply offered .taken] = true
    ∧ (behind.slot 0).queue = [] ++ [0] ∧ distance 6 offered.seq < distance 6 (behind.queuedSeq 0)
    ∧ leaves (.handoff 1 offered) behind (placed behind [1, 0]) [reply offered .taken] = true
    ∧ (∃ i ∈ (headed.slot 0).queue, headed.queuedSeq i = offered.seq)
    ∧ leaves (.handoff 1 offered) headed headed [reply offered .taken] = true := by
  unfold State.hears HandoffInRange State.fedBy; decide +kernel

/-- Slot 0 SYNCED past `offered`, with a recent entry and a passage that consumed that sequence. -/
def passed (entry : RecentEntry) (r : Record) (p : Passage) : State :=
  slot0 (above .provedNormal r { p with consumed := some 7 })
    (fun x => { x with expected := some 135, recent := [entry] })

/-- The LATE_HANDOFF alarm. -/
def late (adopted : Bool) : Incident := ⟨.lateHandoff, some 0, 77, 0, .lateHandoff adopted 7 1⟩

/-- The record of the anonymous passage once `offered` is adopted. -/
def adopted (destination : Nat) (flags : Flags) : Record :=
  { cut 77 destination 6 with cutClass := 1, feedSeq := some 7, flags := flags }

theorem test_BehindHandoffsAreResendsAdoptedOrLate :
    tree.hears 1 ∧ HandoffInRange offered ∧ tree.fedBy 0 1 offered ∧ distance 135 offered.seq = 128
    ∧ leaves (.handoff 1 offered) (passed ⟨7, .announced, 77⟩ (cut 0 0 0) (passing 2 0 .committing))
        (passed ⟨7, .announced, 77⟩ (cut 0 0 0) (passing 2 0 .committing)) [reply offered .taken] = true
    ∧ leaves (.handoff 1 offered) (passed ⟨7, .announced, 76⟩ (cut 0 0 0) (passing 2 0 .committing))
        ((passed ⟨7, .announced, 76⟩ (cut 0 0 0) (passing 2 0 .committing)).captureAlarm (late false))
        [.incident (late false) true, reply offered .late] = true
    ∧ leaves (.handoff 1 offered) (passed ⟨6, .announced, 77⟩ (cut 0 0 0) (passing 2 0 .committing))
        ((passed ⟨6, .announced, 77⟩ (cut 0 0 0) (passing 2 0 .committing)).captureAlarm (late false))
        [.incident (late false) true, reply offered .late] = true
    ∧ leaves (.handoff 1 offered) (passed ⟨7, .anonymous, 0⟩ (cut 0 0 0) (passing 2 1 .committing))
        ((passed ⟨7, .anonymous, 0⟩ (cut 0 0 0) (passing 2 1 .committing)).captureAlarm (late false))
        [.incident (late false) true, reply offered .late] = true
    ∧ leaves (.handoff 1 offered) (passed ⟨7, .anonymous, 0⟩ (cut 0 0 0) (passing 5 0 .committing))
        ((passed ⟨7, .announced, 77⟩ (adopted 4 { adopted := true })
          { passing 5 0 .committing with countdown := some 1 }).captureAlarm (late true))
        [.incident (late true) true, reply offered .lateAdopted] = true
    ∧ leaves (.handoff 1 { offered with destination := 30 })
        (passed ⟨7, .anonymous, 0⟩ (cut 0 0 0) { passing 6 0 .committing with intended := some .reverse })
        ((passed ⟨7, .announced, 77⟩ (adopted 30 { adopted := true, stray := true, diverted := true })
          { passing 6 0 .trailing with intended := some .reverse, countdown := some 0 }).captureAlarm (late true))
        [.incident ⟨.stray, some 0, 77, 0, .destination 30⟩ false, .incident (late true) true,
          reply offered .lateAdopted] = true := by
  unfold State.hears HandoffInRange State.fedBy; decide +kernel

/-- Slot 0 as above, with an announced passage that was begun under the same sequence before the anonymous one. -/
def passedTwice (p : Passage) : State :=
  let s := zoned (slot0 tree (fun x => { x with expected := some 135, recent := [⟨7, .anonymous, 0⟩] })) 0
    { cut 9 4 2 with feedSeq := some 7 } { passing 2 0 .committed with consumed := some 7 }
  zoned s 0 (cut 0 0 0) { p with consumed := some 7 }

/-- R10, R85: the anonymous passage is meant, wherever it stands; alone, the announced one adopts nothing. -/
theorem test_BehindHandoffsAreResendsAdoptedOrLate_of_an_announced_passage :
    (passedTwice (passing 5 0 .committing)).adopter ((passedTwice (passing 5 0 .committing)).slot 0).zone 7 = some 1
    ∧ after (.handoff 1 offered) (passedTwice (passing 5 0 .committing)) (fun t =>
        decide (t.record 0 = { cut 9 4 2 with feedSeq := some 7 } ∧ (t.record 1).tag = 77
          ∧ (t.record 1).flags = { adopted := true })) = true
    ∧ leaves (.handoff 1 offered) (passed ⟨7, .anonymous, 0⟩ { cut 9 4 2 with feedSeq := some 7 }
          (passing 2 0 .committing))
        ((passed ⟨7, .anonymous, 0⟩ { cut 9 4 2 with feedSeq := some 7 }
          (passing 2 0 .committing)).captureAlarm (late false))
        [.incident (late false) true, reply offered .late] = true := by decide +kernel

/-- A reply from node 6 to the handoff of `waiting`. -/
def answering (result : Byte) : ReplyPayload := ⟨5, 0, 0, 9, result⟩

/-- The alarm of a refused handoff. -/
def refused : Incident := ⟨.handoffRefused, some 0, 9, 0, .handoffRefused .refusedFull 6 0 0⟩

theorem test_HandoffRepliesResolveTheirContext :
    tree.hears 6 ∧ (answering 0).target.toNat = tree.cfg.node ∧ 5 < (answering 6).result.toNat
    ∧ leaves (.handoffReply 6 (answering 6)) (unanswered .first) (unanswered .first) [] = true
    ∧ leaves (.handoffReply 6 { answering 0 with tag := 8 }) (unanswered .first) (unanswered .first) [] = true
    ∧ (⟨3, firstHandoff, .pending .first (some 1050)⟩ : Handoff).answeredBy 6 (answering 0)
    ∧ handoffResultCode .taken = (answering 0).result.toNat
    ∧ leaves (.handoffReply 6 (answering 0)) (unanswered .first)
        (waiting (.resolved (.answered .taken)) []) [] = true
    ∧ handoffResultCode .refusedFull = (answering 3).result.toNat
    ∧ leaves (.handoffReply 6 (answering 3)) (unanswered .first)
        (({ waiting (.resolved (.answered .refusedFull)) [] with faultLatch := true } : State).captureAlarm refused)
        [.incident refused true] = true
    ∧ (listedWait .first).waitList = [] ++ ⟨0, 3⟩ :: []
    ∧ leaves (.handoffReply 6 (answering 0)) (listedWait .first)
        { ended (cut 9 4 4) with nextHandoff := 9 } [] = true
    ∧ leaves (.handoffReply 6 (answering 3)) (listedWait .first)
        (({ ended (cut 9 4 4) with nextHandoff := 9, faultLatch := true } : State).captureAlarm refused)
        [.incident refused true] = true := by
  unfold State.hears
  refine ⟨by decide +kernel, by decide, by decide, by decide +kernel, by decide +kernel,
    ⟨⟨_, _, rfl⟩, by decide⟩, by decide +kernel⟩

/-! ### Commands of the yard computer -/

/-- The COMMAND_REPLY frame. -/
def answered (kind : FrameKind) (argument : BitVec 16) (r : CommandResult) : List OutFrame :=
  [.commandReply kind argument r]

/-- The record `entry` becomes. -/
def enteredCut : Record := { cut 77 4 6 with cutClass := 1 }

/-- A cut list of `n` records of different tags. -/
def cutsListed : Nat → State
  | 0 => crest
  | n + 1 => listed (cutsListed n) (cut (BitVec.ofNat 16 (n + 1)) 4 6)

theorem test_CutEntryIsCheckedAndAppended :
    crest.takesCommand 60 entry.target ∧ crest.cfg.role = .crest ∧ crest.free.head? = some 0
    ∧ leaves (.cutEntry 60 entry) crest (listed crest enteredCut) (answered .cutEntry 77 .done) = true
    ∧ leaves (.cutEntry 60 { entry with inspect := 1, destination := 20, expectedAxles := 250, cutClass := 3 })
        (cutsListed 1) (listed (cutsListed 1) { cut 77 20 250 with cutClass := 3, inspect := true })
        (answered .cutEntry 77 .done) = true
    ∧ leaves (.cutEntry 60 { entry with tag := 0 }) crest crest (answered .cutEntry 0 .refusedValue) = true
    ∧ leaves (.cutEntry 60 { entry with destination := 21 }) crest crest (answered .cutEntry 77 .refusedValue) = true
    ∧ leaves (.cutEntry 60 { entry with expectedAxles := 1 }) crest crest (answered .cutEntry 77 .refusedValue) = true
    ∧ leaves (.cutEntry 60 { entry with inspect := 2 }) crest crest (answered .cutEntry 77 .refusedValue) = true
    ∧ leaves (.cutEntry 60 entry) (listed crest enteredCut) (listed crest enteredCut)
        (answered .cutEntry 77 .refusedDuplicate) = true
    ∧ (cutsListed 24).cutList.length = 24
    ∧ leaves (.cutEntry 60 entry) (cutsListed 24) (cutsListed 24) (answered .cutEntry 77 .refusedFull) = true := by
  unfold State.takesCommand State.hears; decide +kernel

/-- The crest node with tag 1 withdrawn from two, and with both cleared. -/
def withdrawn : State := { cutsListed 2 with cutList := [1] }.freeRecord 0
def cleared : State := ({ cutsListed 2 with cutList := [] }.freeRecord 0).freeRecord 1

/-- A head that is held for inspection. -/
def inspected : State := listed crest { enteredCut with inspect := true }

theorem test_CutListCommandsDoWhatTheirRulesSay :
    crest.takesCommand 60 1 ∧ crest.cfg.role = .crest
    ∧ (cutsListed 2).cutList = [] ++ 0 :: [1] ∧ ((cutsListed 2).record 0).tag = 1
    ∧ leaves (.entryWithdraw 60 1 1) (cutsListed 2) withdrawn (answered .entryWithdraw 1 .done) = true
    ∧ leaves (.entryWithdraw 60 1 9) (cutsListed 2) (cutsListed 2) (answered .entryWithdraw 9 .refusedState) = true
    ∧ (cutsListed 2).hasRoom 2
    ∧ leaves (.listClear 60 1) (cutsListed 2) cleared (answered .listClear 0 .done) = true
    ∧ after (.listClear 60 1) ((cutsListed 2).setQueue (List.replicate 16 hit)) (fun t =>
        (((cutsListed 2).free ++ [0, 1]).isPrefixOf t.free) && decide (t.cutList = [] ∧ t.record 0 = Record.blank)) = true
    ∧ inspected.cutList = 0 :: [] ∧ (inspected.record 0).tag = 77
    ∧ leaves (.releaseOne 60 1 77) inspected (listed crest enteredCut) (answered .releaseOne 77 .done) = true
    ∧ leaves (.releaseOne 60 1 2) (cutsListed 2) (cutsListed 2) (answered .releaseOne 2 .refusedState) = true
    ∧ leaves (.releaseOne 60 1 2) crest crest (answered .releaseOne 2 .refusedState) = true := by
  unfold State.takesCommand State.hears State.hasRoom; decide +kernel

/-- The crest node with closures. -/
def closing (l : List Closure) : State := { crest with closures := l }

/-- A full closure table. -/
def eight : List Closure := [⟨1, 19⟩, ⟨2, 19⟩, ⟨3, 19⟩, ⟨4, 19⟩, ⟨5, 19⟩, ⟨6, 19⟩, ⟨7, 19⟩, ⟨8, 19⟩]

theorem test_ClosureAndRestartCommandsChangeTheirTables :
    crest.takesCommand 60 1 ∧ crest.cfg.role = .crest
    ∧ leaves (.trackClose 60 1 21 4) crest crest (answered .trackClose 21 .refusedValue) = true
    ∧ leaves (.trackClose 60 1 4 0) crest crest (answered .trackClose 4 .refusedValue) = true
    ∧ leaves (.trackClose 60 1 20 4) crest crest (answered .trackClose 20 .refusedValue) = true
    ∧ leaves (.trackClose 60 1 4 4) crest crest (answered .trackClose 4 .refusedValue) = true
    ∧ leaves (.trackClose 60 1 4 1) (closing eight) (closing eight) (answered .trackClose 4 .refusedValue) = true
    ∧ leaves (.trackClose 60 1 4 20) (closing [⟨4, 9⟩]) (closing [⟨4, 20⟩]) (answered .trackClose 4 .done) = true
    ∧ leaves (.trackClose 60 1 8 19) (closing (eight.take 7)) (closing eight) (answered .trackClose 8 .done) = true
    ∧ leaves (.trackClose 60 1 9 19) (closing eight) (closing eight) (answered .trackClose 9 .refusedFull) = true
    ∧ leaves (.trackOpen 60 1 8) (closing eight) (closing (eight.take 7)) (answered .trackOpen 8 .done) = true
    ∧ leaves (.trackOpen 60 1 63) crest crest (answered .trackOpen 63 .refusedState) = true
    ∧ leaves (.restartAck 60 1 6) crest crest (answered .restartAck 6 .refusedValue) = true
    ∧ crest.rosterEntry? 5 = some ⟨5, .present, some 900, {}, false⟩
    ∧ leaves (.restartAck 60 1 5) crest crest (answered .restartAck 5 .refusedState) = true
    ∧ leaves (.restartAck 60 1 5) { crest with roster := [⟨5, .present, some 900, {}, true⟩] } crest
        (answered .restartAck 5 .done) = true := by
  unfold State.takesCommand State.hears; decide +kernel

/-- The tree node with slot 0 in a service state. -/
def inService (x : ServiceState) : State := slot0 tree (fun y => { y with service := x })

/-- The tree node with slot 0 blocked and unproved. -/
def unproved (s : State) : State :=
  slot0 s (fun x => { x with service := .blocked, point := .unproved, provedNormal := false })

theorem test_SlotCommandsBlockAndFree :
    tree.takesCommand 60 5 ∧ (0 : SlotIx).val = (0 : Byte).toNat ∧ (tree.slot 0).service ≠ .off
    ∧ leaves (.slotBlock 60 5 0) tree (inService .blocked) (answered .slotBlock 0 .done) = true
    ∧ leaves (.slotBlock 60 5 0) (moving 1 .driving) (unproved tree) (answered .slotBlock 0 .done) = true
    ∧ leaves (.slotBlock 60 5 0) (inService .settling) (inService .settling)
        (answered .slotBlock 0 .refusedState) = true
    ∧ leaves (.slotFree 60 5 0) (inService .failed) tree (answered .slotFree 0 .done) = true
    ∧ leaves (.slotFree 60 5 0) (unproved tree)
        (slot0 tree (fun x => { x with provedNormal := false }.thrownToward .normal 1 2000))
        (answered .slotFree 0 .done) = true
    ∧ (headed.slot 0).queue.head? = some 0 ∧ (headed.slotCfg 0).wantedLeg (headed.record 0).destination = .reverse
    ∧ leaves (.slotFree 60 5 0) (unproved headed)
        (slot0 headed (fun x => { x with provedNormal := false }.thrownToward .reverse 1 2000))
        (answered .slotFree 0 .done) = true
    ∧ leaves (.slotFree 60 5 0) tree tree (answered .slotFree 0 .refusedState) = true := by
  unfold State.takesCommand State.hears; decide +kernel

/-- Slot 0 with a queued record, a passage with its handoff sent, and its circuit as given. -/
def flushing (fouled : Bool) : State :=
  let s := zoned (queued tree 0 7 (cutAt 8 (cut 77 4 6))) 0 (cut 9 4 4)
    { passing 4 3 .committed with handoff := .sent 3 }
  { slot0 s (fun x => { x with foulingOccupied := fouled }) with
    handoffs := [⟨3, firstHandoff, .pending .first none⟩], nextHandoff := 9 }

theorem test_SlotFlushEmptiesTheSlot :
    tree.takesCommand 60 5 ∧ ((flushing false).slot 0).service ≠ .off ∧ (flushing false).hasRoom 2
    ∧ after (.slotFlush 60 5 0) (flushing false) (fun t =>
        decide ((t.slot 0).queue = [] ∧ (t.slot 0).expected = none ∧ (t.slot 0).zone = []
          ∧ t.free.drop 62 = [0, 1] ∧ t.record 0 = Record.blank ∧ t.record 1 = Record.blank ∧ t.handoffs = []
          ∧ t.port.queue.map TxEntry.frame = answered .slotFlush 0 .done)) = true
    ∧ after (.slotFlush 60 5 0) (flushing true) (fun t =>
        decide ((t.slot 0).queue = [] ∧ (t.slot 0).zone = ((flushing true).slot 0).zone
          ∧ t.free.drop 62 = [0] ∧ t.handoffs.length = 1)) = true := by
  unfold State.takesCommand State.hears State.hasRoom; decide +kernel

/-- A frozen capture. -/
def frozen : State :=
  { tree with capture := some ⟨lost, 65536000⟩, furtherAlarms := 255, faultLatch := true, holdMask := { handoffFault := true } }

theorem test_IncidentUnitCommandsDoWhatTheirRulesSay :
    tree.takesCommand 60 5
    ∧ leaves (.statusQuery 60 5) frozen frozen
        [.status { handoffFault := true } .inService (some .detectionLost) 255 65535
          [⟨.inUse, .provedNormal, 0, 0⟩, ⟨.inUse, .provedNormal, 0, 0⟩, ⟨.off, .unproved, 0, 0⟩,
            ⟨.off, .unproved, 0, 0⟩]] = true
    ∧ leaves (.incidentClear 60 5) frozen tree (answered .incidentClear 0 .done) = true
    ∧ frozen.port.queue = [] ∧ after (.incidentClear 60 5) frozen (fun t =>
        decide (t.holdMask = {} ∧ t.faultLine = false)) = true
    ∧ leaves (.watchSet 60 5 0) tree tree (answered .watchSet 0 .refusedValue) = true
    ∧ leaves (.watchSet 60 5 9) { tree with watches := [9] } { tree with watches := [9] }
        (answered .watchSet 9 .done) = true
    ∧ leaves (.watchSet 60 5 9) { tree with watches := [1, 2, 3, 4] } { tree with watches := [1, 2, 3, 4] }
        (answered .watchSet 9 .refusedFull) = true
    ∧ leaves (.watchSet 60 5 9) { tree with watches := [1, 2, 3] } { tree with watches := [1, 2, 3, 9] }
        (answered .watchSet 9 .done) = true
    ∧ leaves (.watchClear 60 5 2) { tree with watches := [1, 2, 3] } { tree with watches := [1, 3] }
        (answered .watchClear 2 .done) = true
    ∧ leaves (.watchClear 60 5 0) tree tree (answered .watchClear 0 .refusedState) = true := by
  unfold State.takesCommand State.hears; decide +kernel

theorem test_RoleAndSlotArgumentsAreChecked :
    tree.takesCommand 60 5 ∧ tree.cfg.role = .tree
    ∧ leaves (.cutEntry 60 { entry with target := 5 }) tree tree (answered .cutEntry 77 .refusedRole) = true
    ∧ leaves (.entryWithdraw 60 5 7) tree tree (answered .entryWithdraw 7 .refusedRole) = true
    ∧ leaves (.listClear 60 5) tree tree (answered .listClear 0 .refusedRole) = true
    ∧ leaves (.releaseOne 60 5 7) tree tree (answered .releaseOne 7 .refusedRole) = true
    ∧ leaves (.trackClose 60 5 4 6) tree tree (answered .trackClose 4 .refusedRole) = true
    ∧ leaves (.trackOpen 60 5 4) tree tree (answered .trackOpen 4 .refusedRole) = true
    ∧ leaves (.restartAck 60 5 4) tree tree (answered .restartAck 4 .refusedRole) = true
    ∧ (∀ k : SlotIx, k.val = (4 : Byte).toNat → (tree.slot k).service = .off)
    ∧ (∀ k : SlotIx, k.val = (2 : Byte).toNat → (tree.slot k).service = .off)
    ∧ leaves (.slotBlock 60 5 4) tree tree (answered .slotBlock 4 .refusedValue) = true
    ∧ leaves (.slotFree 60 5 2) tree tree (answered .slotFree 2 .refusedValue) = true
    ∧ leaves (.slotFlush 60 5 4) tree tree (answered .slotFlush 4 .refusedValue) = true
    ∧ crest.takesCommand 60 1 ∧ crest.cfg.role = .crest
    ∧ leaves (.trackOpen 60 1 0) crest crest (answered .trackOpen 0 .refusedValue) = true
    ∧ leaves (.trackOpen 60 1 64) crest crest (answered .trackOpen 64 .refusedValue) = true := by
  unfold State.takesCommand State.hears; decide +kernel

/-! ### The crest sensor, and what follows every command -/

/-- The crest node with a release under way. -/
def releasing (countdown : Nat) : State := { crest with crestPassage := ⟨.releasing, countdown, 1⟩ }

theorem test_CrestAxlesCountTheReleaseDown :
    tree.cfg.role = .tree ∧ leaves .crestAxle tree tree [] = true
    ∧ crest.nodeState = .inService ∧ crest.cfg.crest.isSome = true
    ∧ leaves .crestAxle (releasing 2) (releasing 1) [] = true
    ∧ leaves .crestAxle (releasing 1)
        { crest with crestPassage := ⟨.idle, 0, 1⟩, releaseInterval := some 3500 } [] = true
    ∧ leaves .crestAxle { cutsListed 1 with crestPassage := ⟨.releasing, 0, 3⟩ }
        { cutsListed 1 with crestPassage := ⟨.idle, 0, 3⟩, releaseInterval := some 5000 } [] = true := by
  decide +kernel

/-- The cut of section 6.6: entered for a track that is closed. -/
def humping : State := { listed crest { cut 4101 12 8 with cutClass := 1 } with
  closures := [⟨12, 14⟩], releaseCounter := 17, signal := .push }

/-- The same under STOP, slot 0 fed from another node. -/
def misfed : State :=
  { humping with signal := .stop, config := some { crestConfig with slots := [upperSlot] } }

theorem test_CrestAxleReleasesTheHead :
    humping.crestPassage.phase = .idle ∧ humping.cutList = 0 :: [] ∧ PoolLaw humping ∧ humping.hasRoom 4
    ∧ (humping.slotCfg 0).feedNode = 0 ∧ (humping.slot 0).service = .inUse ∧ (humping.slot 0).expected = none
    ∧ (humping.slot 0).queue = []
    ∧ after .crestAxle humping (fun t =>
        decide ((t.slot 0).queue = [0] ∧ (t.slot 0).expected = some 17 ∧ t.releaseCounter = 18
          ∧ t.crestPassage = ⟨.releasing, 7, 1⟩
          ∧ t.record 0 = { cut 4101 14 8 with
              cutClass := 1, originalDestination := some 12, flags := { translated := true }
              feedSeq := some 17, timing := some ⟨1000, 21000, false⟩ }
          ∧ OutFrame.released 4101 14 (some 12) 1 { translated := true } 17 .queued
              ∈ t.port.queue.map TxEntry.frame)) = true
    ∧ misfed.signal = .stop ∧ misfed.capture = none ∧ (misfed.slotCfg 0).feedNode ≠ 0
    ∧ after .crestAxle misfed (fun t =>
        t.faultLatch && decide (t.record 0 = Record.blank ∧ t.free.drop 63 = [0]
          ∧ t.capture = some ⟨⟨.crestOverrun, none, 4101, 0, .crestOverrun false 17⟩, 1000⟩
          ∧ OutFrame.released 4101 14 (some 12) 1 { translated := true, overrun := true } 17 .refusedUnknownFeed
              ∈ t.port.queue.map TxEntry.frame)) = true := by
  unfold PoolLaw State.hasRoom; decide +kernel

theorem test_CrestAxleReleasesAnAnonymousRecord :
    crest.crestPassage.phase = .idle ∧ crest.cutList = [] ∧ crest.signal = .stop ∧ crest.free.head? = some 0
    ∧ crest.record 0 = Record.blank ∧ (crest.slotCfg 0).feedNode = 0 ∧ (crest.slot 0).service = .inUse
    ∧ (crest.slot 0).expected = none ∧ (crest.slot 0).queue = [] ∧ PoolLaw crest ∧ crest.hasRoom 3
    ∧ after .crestAxle crest (fun t =>
        decide ((t.slot 0).queue = [0] ∧ (t.slot 0).expected = some 0 ∧ t.releaseCounter = 1
          ∧ t.crestPassage = ⟨.idle, 0, 0⟩ ∧ t.releaseInterval = some 3000
          ∧ OutFrame.released 0 0 none 0 { overrun := true } 0 .queued ∈ t.port.queue.map TxEntry.frame)) = true := by
  unfold PoolLaw State.hasRoom; decide +kernel

/-- The crest axle gives this receipt, and these frames, but for a HOLD_STATE. -/
def releases (s : State) (frames : List OutFrame) (f : State → Bool) : Bool :=
  after .crestAxle s (fun t =>
    decide ((t.port.queue.filter (fun e => !e.isHoldState)).map TxEntry.frame = frames) && f t)

/-- The RELEASED frame of `humping`. -/
def reported (x : Receipt) : OutFrame := .released 4101 14 (some 12) 1 { translated := true } 17 x

/-- Slot 0 SYNCED at `e`, with records queued at these sequences. -/
def humpingAt (e : Seq) (seqs : List Seq) : State :=
  seqs.foldl (fun s q => queued s 0 e (cutAt q (cut 7 12 2))) (slot0 humping (fun x => { x with expected := some e }))

/-- Slot 0 SYNCED past the release, with a recent entry and an anonymous passage that consumed its sequence. -/
def humpingPast (x : RecentEntry) (p : Passage) : State :=
  slot0 (zoned (humpingAt 18 []) 0 (cut 0 0 0) { p with consumed := some 17 }) (fun y => { y with recent := [x] })

/-- The alarms of slot 0's decisions on the release. -/
def releaseRefused (result : HandoffResult) : Incident :=
  ⟨.handoffRefused, some 0, 4101, 0, .handoffRefused result 1 0 17⟩
def releaseLate (adopted : Bool) : Incident := ⟨.lateHandoff, some 0, 4101, 0, .lateHandoff adopted 17 0⟩

/-- R120: a SETTLING and a full slot 0; a duplicate; the head of a queue, for which the point is thrown; a record
between two. -/
theorem test_CrestAxleReleasesTheHead_ahead :
    distance 17 17 < 128
    ∧ releases (slot0 humping (fun x => { x with service := .settling }))
        [.incident (releaseRefused .refusedNotReady) true, reported .refusedNotReady] (fun t =>
          t.faultLatch && decide (t.record 0 = Record.blank ∧ (t.slot 0).expected = none)) = true
    ∧ releases (humpingAt 17 [18, 19, 20, 21, 22, 23])
        [.incident (releaseRefused .refusedFull) true, reported .refusedFull] (fun t =>
          t.faultLatch && decide (t.record 0 = Record.blank ∧ (t.slot 0).queue = [1, 2, 3, 4, 5, 6])) = true
    ∧ releases (humpingAt 17 [17]) [reported .duplicate] (fun t =>
        decide (t.record 0 = Record.blank ∧ (t.slot 0).queue = [1] ∧ t.faultLatch = false)) = true
    ∧ releases (humpingAt 17 [19]) [reported .queued] (fun t =>
        decide ((t.slot 0).queue = [0, 1] ∧ (t.slot 0).isMoving = true ∧ (t.slot 0).driveReverse = true)) = true
    ∧ releases (humpingAt 16 [16, 19]) [reported .queued] (fun t =>
        decide ((t.slot 0).queue = [1, 0, 2] ∧ (t.record 0).feedSeq = some 17)) = true := by decide +kernel

/-- R120: a resend, the kinds of LATE, and an adoption, whose freed record leaves its contents behind. -/
theorem test_CrestAxleReleasesTheHead_behind :
    128 ≤ distance 18 17
    ∧ releases (humpingPast ⟨17, .announced, 4101⟩ (passing 2 0 .committing)) [reported .duplicate]
        (fun t => decide (t.record 0 = Record.blank)) = true
    ∧ releases (humpingPast ⟨17, .announced, 9⟩ (passing 2 0 .committing))
        [.incident (releaseLate false) true, reported .late] (fun t => decide (t.record 0 = Record.blank)) = true
    ∧ releases (humpingPast ⟨16, .announced, 9⟩ (passing 2 0 .committing))
        [.incident (releaseLate false) true, reported .late] (fun _ => true) = true
    ∧ releases (humpingPast ⟨17, .anonymous, 0⟩ (passing 2 1 .committing))
        [.incident (releaseLate false) true, reported .late] (fun _ => true) = true
    ∧ releases (humpingPast ⟨17, .anonymous, 0⟩ (passing 2 0 .committing))
        [.incident (releaseLate true) true, reported .adopted] (fun t =>
          decide (t.record 0 = Record.blank ∧ (t.record 1).tag = 4101 ∧ (t.record 1).originalDestination = some 12
            ∧ (t.slot 0).zone.map Passage.countdown = [some 6]
            ∧ (t.slot 0).recent = [⟨17, .announced, 4101⟩])) = true
    ∧ releases { humpingPast ⟨17, .anonymous, 0⟩ (passing 2 0 .committing) with signal := .stop }
        [.incident ⟨.crestOverrun, none, 4101, 0, .crestOverrun false 17⟩ true, .incident (releaseLate true) false,
          .released 4101 14 (some 12) 1 { translated := true, overrun := true } 17 .adopted]
        (fun t => decide ((t.record 1).flags = { translated := true, overrun := true, adopted := true, diverted := true }
          ∧ t.furtherAlarms = 1)) = true := by decide +kernel

/-- The same results for an anonymous release: refused, a duplicate, LATE. -/
theorem test_CrestAxleReleasesAnAnonymousRecord_in_its_other_cases :
    (let frames (x : Receipt) (alarms : List OutFrame) : List OutFrame :=
      .incident ⟨.crestOverrun, none, 0, 0, .crestOverrun true 0⟩ true :: alarms
        ++ [.released 0 0 none 0 { overrun := true } 0 x]
    releases (slot0 crest (fun x => { x with service := .settling }))
        (frames .refusedNotReady [.incident ⟨.handoffRefused, some 0, 0, 0, .handoffRefused .refusedNotReady 1 0 0⟩ false])
        (fun t => t.faultLatch && decide (t.record 0 = Record.blank ∧ t.crestPassage = ⟨.idle, 0, 0⟩))
    && releases (queued crest 0 0 (cutAt 0 (cut 7 12 2))) (frames .duplicate [])
        (fun t => decide ((t.slot 0).queue = [0] ∧ t.record 1 = Record.blank))
    && releases (slot0 crest (fun x => { x with expected := some 128 }))
        (frames .late [.incident ⟨.lateHandoff, some 0, 0, 0, .lateHandoff false 0 0⟩ false])
        (fun t => decide (t.record 0 = Record.blank ∧ t.releaseInterval = some 3000))) = true := by decide +kernel

theorem test_MaskAndLinesFollowEveryCommand :
    after (.slotBlock 60 5 0) tree (fun t =>
      decide (t.holdMask = { slotBlocked := true } ∧ t.periodTimer = some 2000)) = true
    ∧ after .busIdle (cutsListed 1) (fun t => decide (t.signal = .push ∧ t.signal.lines = (true, true))) = true
    ∧ after .busIdle { cutsListed 1 with releaseInterval := some 1500 } (fun t => decide (t.signal = .slow)) = true
    ∧ after (.foulingOccupied 0) (moving 1 .driving) (fun t =>
        t.faultLine && decide (t.holdMask = { pointFailed := true })) = true := by
  decide +kernel

/-- R131: a change of the mask stands in a HOLD_STATE where the queue was full of less urgent frames. -/
theorem test_MaskAndLinesFollowEveryCommand_at_a_full_queue :
    TransmitLaw (crammed tree hit)
    ∧ after (.slotBlock 60 5 0) (crammed tree hit) (fun t =>
        decide (t.holdMask = { slotBlocked := true }
          ∧ OutFrame.holdState { slotBlocked := true } .inService ∈ t.port.queue.map TxEntry.frame)) = true := by
  constructor
  · unfold TransmitLaw; decide +kernel
  · decide +kernel

/-- R154: an empty and a frozen capture take an alarm; only INCIDENT_CLEAR, also as bits, empties one. -/
theorem test_EveryStepKeepsTheTables_capture :
    tree.captureAlarm displacedAlarm = { tree with capture := some ⟨displacedAlarm, 1000⟩ }
    ∧ (({ tree.captureAlarm displacedAlarm with furtherAlarms := 255 } : State).captureAlarm unbalanced).furtherAlarms
      = 255
    ∧ ((tree.captureAlarm displacedAlarm).captureAlarm unbalanced).capture = some ⟨displacedAlarm, 1000⟩
    ∧ frozen.capture.isSome = true
    ∧ after .crestAxle frozen (fun t => decide (t.capture = frozen.capture)) = true
    ∧ after (.incidentClear 60 5) frozen (fun t => decide (t.capture = none)) = true
    ∧ after (.frameDiscarded clearBits) frozen (fun t => decide (t.capture = none)) = true := by decide +kernel

/-! ### Laws -/

/-- The laws hold in states that are not the state after reset, and a step runs there. -/
theorem test_laws :
    (PoolLaw headed ∧ BlankLaw headed ∧ QueueLaw headed ∧ OrderLaw headed)
    ∧ WaitLaw (listedWait .first) ∧ (ZoneLaw following ∧ QueueLaw following) ∧ DriveLaw (moving 1 .driving)
    ∧ TransmitLaw (busy handoffEntry) ∧ (PoolLaw (cutsListed 24) ∧ CutListLaw (cutsListed 24) ∧ ClosureLaw (closing eight)
      ∧ WatchLaw { tree with watches := [1, 2, 3, 4] } ∧ CaptureLaw frozen ∧ PortLaw (busy hit)) := by
  refine ⟨⟨?_, ?_, ?_, ?_⟩, ?_, ⟨?_, ?_⟩, ?_, ?_, ?_, ?_, ?_, ?_, ?_, ?_⟩
  · unfold PoolLaw; decide +kernel
  · unfold BlankLaw; decide +kernel
  · unfold QueueLaw; decide +kernel
  · have h : ∀ k : SlotIx, ∀ e ∈ (headed.slot k).expected,
        (headed.slot k).queue.Pairwise
          (fun i j => distance e (headed.queuedSeq i) < distance e (headed.queuedSeq j))
        ∧ ∀ i ∈ (headed.slot k).queue, (headed.record i).feedSeq.isSome = true
          ∧ distance e (headed.queuedSeq i) < Config.behindDistance := by decide +kernel
    exact h
  · unfold WaitLaw; decide +kernel
  · unfold ZoneLaw; decide +kernel
  · unfold QueueLaw; decide +kernel
  · unfold DriveLaw Slot.driveLaw; decide +kernel
  · unfold TransmitLaw; decide +kernel
  · unfold PoolLaw; decide +kernel
  · unfold CutListLaw; decide +kernel
  · unfold ClosureLaw; decide +kernel
  · unfold WatchLaw; decide +kernel
  · unfold CaptureLaw; decide +kernel
  · exact rfl

end Sys2Proof.Tests
end

section
/-! SUPPORT. The drive law of every slot (R39, R40), which every step keeps. Point control reads and writes five
fields of a slot; an operation that leaves them keeps the law by `driveLaw_congr` or `DriveLaw.setSlot_alike`, and
one that writes them puts a slot back that has the law of its own (`DriveLaw.setSlot`). -/

namespace Sys2Proof.Machine

/-! ### The fields of point control -/

/-- The fields of a slot on which the drive law rests. -/
def Slot.control (x : Slot) : ServiceState × PointState × Bool × Bool × Bool :=
  (x.service, x.point, x.driveNormal, x.driveReverse, x.foulingOccupied)

/-- The point does not move and both drive outputs are off. -/
def Slot.atRest (x : Slot) : Prop :=
  x.isMoving = false ∧ x.driveNormal = false ∧ x.driveReverse = false

theorem Slot.driveLaw_congr {x y : Slot} (h : x.control = y.control) : x.driveLaw ↔ y.driveLaw := by
  simp only [Slot.control, Prod.mk.injEq] at h
  obtain ⟨hs, hp, hn, hr, hf⟩ := h
  simp only [Slot.driveLaw, Slot.isMoving, hs, hp, hn, hr, hf]

/-- R39: a point that does not move drives neither output. -/
theorem Slot.drives_of_still {x : Slot} (hm : x.isMoving = false) : x.point.drives = (false, false) := by
  unfold Slot.isMoving at hm
  cases hp : x.point with
  | moving t => rw [hp] at hm; exact Bool.noConfusion hm
  | provedNormal => rfl
  | provedReverse => rfl
  | unproved => rfl

theorem Slot.driveLaw_of_atRest {x : Slot} (h : x.atRest) : x.driveLaw := by
  obtain ⟨hm, hn, hr⟩ := h
  refine ⟨?_, fun h => Bool.noConfusion (hm.symm.trans h)⟩
  rw [hn, hr, Slot.drives_of_still hm]

/-- Under the law a point that does not move has its drive off. -/
theorem Slot.driveLaw.atRest {x : Slot} (h : x.driveLaw) (hm : x.isMoving = false) : x.atRest := by
  obtain ⟨hd, -⟩ := h
  rw [Slot.drives_of_still hm] at hd
  exact ⟨hm, congrArg Prod.fst hd, congrArg Prod.snd hd⟩

/-- Under the law a point outside IN_USE does not move. -/
theorem Slot.driveLaw.atRest_of_service {x : Slot} (h : x.driveLaw) (hs : x.service ≠ .inUse) : x.atRest :=
  h.atRest (Bool.eq_false_iff.mpr fun hm => hs (h.2 hm).1)

/-! ### What point control makes of a slot -/

theorem Slot.isMoving_of_point {x : Slot} {t : Throw} (h : x.point = .moving t) : x.isMoving = true := by
  unfold Slot.isMoving; rw [h]

/-- The detection inputs never show a point that moves. -/
theorem Slot.isMoving_detected (x : Slot) : ({ x with point := x.detected } : Slot).isMoving = false := by
  unfold Slot.isMoving Slot.detected pointOfInputs
  cases x.provedNormal <;> cases x.provedReverse <;> rfl

theorem Slot.atRest_rest_detected (x : Slot) : (x.rest x.detected).atRest :=
  ⟨x.isMoving_detected, rfl, rfl⟩

theorem Slot.atRest_rest_unproved (x : Slot) : (x.rest .unproved).atRest := ⟨rfl, rfl, rfl⟩

theorem Slot.atRest_rest_provedIn (x : Slot) (leg : Leg) : (x.rest (provedIn leg)).atRest := by
  cases leg <;> exact ⟨rfl, rfl, rfl⟩

/-- R49: a pause keeps the throw, with the drive off. -/
theorem Slot.driveLaw_rest_pausing {x : Slot} {t : Throw} (hs : x.service = .inUse)
    (hf : x.foulingOccupied = false) (ht : t.phase = .pausing) : (x.rest (.moving t)).driveLaw := by
  obtain ⟨target, left, deadline, phase⟩ := t
  obtain rfl : phase = .pausing := ht
  refine ⟨?_, fun _ => ⟨hs, hf⟩⟩
  cases target <;> rfl

/-- R40: the drive runs toward the target alone. -/
theorem Slot.driveLaw_drive {x : Slot} {t : Throw} (hs : x.service = .inUse)
    (hf : x.foulingOccupied = false) (ht : t.phase = .driving) : (x.drive t).driveLaw := by
  obtain ⟨target, left, deadline, phase⟩ := t
  obtain rfl : phase = .driving := ht
  refine ⟨?_, fun _ => ⟨hs, hf⟩⟩
  cases target <;> rfl

theorem Slot.canThrow_inUse_clear {x : Slot} {target : Leg} (h : x.canThrow target = true) :
    x.service = .inUse ∧ x.foulingOccupied = false := by
  simp only [Slot.canThrow, Bool.and_eq_true, beq_iff_eq, Bool.not_eq_true'] at h
  obtain ⟨⟨⟨hs, hf⟩, -⟩, -⟩ := h
  exact ⟨hs, hf⟩

/-- R53: an abandoned throw leaves no point moving. -/
theorem Slot.isMoving_abandon (x : Slot) : x.abandon.isMoving = false := by
  unfold Slot.abandon; split
  · exact x.isMoving_detected
  · rename_i hm; exact Bool.eq_false_iff.mpr hm

/-- R37, R56: a slot that leaves IN_USE abandons its throw and has its drive off. -/
theorem Slot.atRest_abandoned (x : Slot) (y : ServiceState) :
    ({ x.abandon with service := y, driveNormal := false, driveReverse := false } : Slot).atRest :=
  ⟨x.isMoving_abandon, rfl, rfl⟩

theorem Slot.driveLaw_fail {x : Slot} (h : x.driveLaw) : x.fail.driveLaw := by
  unfold Slot.fail; split
  · exact h
  · exact Slot.driveLaw_of_atRest (x.atRest_abandoned .failed)

theorem Slot.service_fail_of_off {x : Slot} (h : x.service = .off) : x.fail.service = .off := by
  unfold Slot.fail; rw [if_pos h]; exact h

/-- R167: a slot at rest enters service at rest. -/
theorem Slot.atRest_enterService {x : Slot} (h : x.atRest) : x.enterService.atRest :=
  ⟨x.isMoving_detected, h.2⟩

/-! ### The law of a state -/

theorem driveLaw_congr {s t : State} (hn : t.nodeState = s.nodeState)
    (hs : ∀ k, (t.slot k).control = (s.slot k).control) : DriveLaw t ↔ DriveLaw s := by
  refine forall_congr' fun k => and_congr (Slot.driveLaw_congr (hs k)) ?_
  rw [hn, show (t.slot k).service = (s.slot k).service from congrArg Prod.fst (hs k)]

/-- Nothing that a report can touch bears on the law. -/
theorem driveLaw_congr_reports {s t : State} (h : t.apartFromReports = s.apartFromReports) :
    DriveLaw t ↔ DriveLaw s := by
  refine driveLaw_congr (show t.apartFromReports.nodeState = s.apartFromReports.nodeState by rw [h]) fun k => ?_
  have hk : (t.slot k).apartFromTimer = (s.slot k).apartFromTimer := by
    rw [← State.slot_apartFromReports, h, State.slot_apartFromReports]
  show (t.slot k).apartFromTimer.control = (s.slot k).apartFromTimer.control
  rw [hk]

/-- A slot that is written keeps the law if it has the law itself, and is not brought into service. -/
theorem DriveLaw.setSlot {s : State} (h : DriveLaw s) {k : SlotIx} {x : Slot} (hx : x.driveLaw)
    (ho : (s.slot k).service = .off → x.service = .off) : DriveLaw (s.setSlot k x) := by
  intro j
  obtain ⟨hj, hoff⟩ := h j
  rw [State.slot_setSlot_eq_ite, State.nodeState_setSlot]
  split
  · rename_i e; subst e
    exact ⟨hx, fun hn => ho (hoff hn)⟩
  · exact ⟨hj, hoff⟩

/-- A slot that is written alike in the fields of point control keeps the law. -/
theorem DriveLaw.setSlot_alike {s : State} (h : DriveLaw s) {k : SlotIx} {x : Slot}
    (hx : x.control = (s.slot k).control) : DriveLaw (s.setSlot k x) :=
  h.setSlot ((Slot.driveLaw_congr hx).mpr (h k).1)
    ((show x.service = (s.slot k).service from congrArg Prod.fst hx).trans ·)

/-- A node with a slot that is not OFF is in service. -/
theorem DriveLaw.inService_of_service {s : State} (h : DriveLaw s) {k : SlotIx}
    (hs : (s.slot k).service ≠ .off) : s.nodeState = .inService :=
  Decidable.by_contra fun hn => hs ((h k).2 hn)

/-! ### Operations that leave point control as it is -/

@[simp] theorem driveLaw_setRecord (s : State) (i : RecIx) (r : Record) :
    DriveLaw (s.setRecord i r) ↔ DriveLaw s := Iff.rfl

@[simp] theorem driveLaw_addFlags (s : State) (i : RecIx) (f : Flags) :
    DriveLaw (s.addFlags i f) ↔ DriveLaw s := Iff.rfl

@[simp] theorem driveLaw_freeRecord (s : State) (i : RecIx) : DriveLaw (s.freeRecord i) ↔ DriveLaw s := Iff.rfl

@[simp] theorem driveLaw_setPort (s : State) (p : Port) : DriveLaw (s.setPort p) ↔ DriveLaw s := Iff.rfl

@[simp] theorem driveLaw_reach (s : State) (d : Nat) : DriveLaw (s.reach d) ↔ DriveLaw s := Iff.rfl

@[simp] theorem driveLaw_freeRecords (s : State) (is : List RecIx) : DriveLaw (s.freeRecords is) ↔ DriveLaw s :=
  driveLaw_congr_reports (s.freeRecords_apartFromReports is)

@[simp] theorem driveLaw_raise (s : State) (inc : Incident) : DriveLaw (s.raise inc) ↔ DriveLaw s :=
  driveLaw_congr_reports (s.apartFromReports_raise inc)

@[simp] theorem driveLaw_offerReport (s : State) (f : OutFrame) : DriveLaw (s.offerReport f) ↔ DriveLaw s :=
  driveLaw_congr_reports (s.apartFromReports_offerReport f)

@[simp] theorem driveLaw_offer (s : State) (f : OutFrame) (o : Option Nat) : DriveLaw (s.offer f o) ↔ DriveLaw s :=
  driveLaw_congr_reports (s.apartFromReports_offer f o)

@[simp] theorem driveLaw_offerHoldState (s : State) : DriveLaw s.offerHoldState ↔ DriveLaw s :=
  driveLaw_congr_reports s.apartFromReports_offerHoldState

@[simp] theorem driveLaw_resolve (s : State) (n : Nat) (o : HandoffOutcome) : DriveLaw (s.resolve n o) ↔ DriveLaw s :=
  driveLaw_congr_reports (s.apartFromReports_resolve n o)

@[simp] theorem driveLaw_lose (s : State) (n : Nat) : DriveLaw (s.lose n) ↔ DriveLaw s :=
  driveLaw_congr_reports (s.apartFromReports_lose n)

@[simp] theorem driveLaw_secondAttempt (s : State) (n : Nat) : DriveLaw (s.secondAttempt n) ↔ DriveLaw s :=
  driveLaw_congr_reports (s.apartFromReports_secondAttempt n)

@[simp] theorem driveLaw_settle (b s : State) : DriveLaw (b.settle s) ↔ DriveLaw s :=
  driveLaw_congr_reports (b.apartFromReports_settle s)

@[simp] theorem driveLaw_refuseHandoff (s : State) (inc : Incident) : DriveLaw (s.refuseHandoff inc) ↔ DriveLaw s :=
  driveLaw_raise { s with faultLatch := true } inc

theorem DriveLaw.setPassage {s : State} (h : DriveLaw s) (k : SlotIx) (i : Nat) (p : Passage) :
    DriveLaw (s.setPassage k i p) := h.setSlot_alike rfl

theorem DriveLaw.allocate {s t : State} {i : RecIx} (h : DriveLaw s) (ha : s.allocate = some (i, t)) :
    DriveLaw t := by
  obtain ⟨rest, -, rfl⟩ := State.allocate_eq_some_iff.mp ha
  exact h

/-! ### Throws and failures (chapter 3) -/

theorem DriveLaw.startThrow {s : State} (h : DriveLaw s) {k : SlotIx} {target : Leg} (c : SlotConfig) (now : Nat)
    (hc : (s.slot k).canThrow target = true) :
    DriveLaw (s.setSlot k ((s.slot k).startThrow c target now)) := by
  obtain ⟨hs, hf⟩ := Slot.canThrow_inUse_clear hc
  exact h.setSlot (Slot.driveLaw_drive hs hf rfl) id

theorem DriveLaw.evaluateThrow {s : State} (h : DriveLaw s) (k : SlotIx) : DriveLaw (s.evaluateThrow k) := by
  unfold State.evaluateThrow; split
  · exact h
  · split
    · rename_i hc
      exact h.startThrow _ _ (Bool.and_eq_true_iff.mp hc).2
    · exact h

theorem DriveLaw.lateThrow {s : State} (h : DriveLaw s) (k : SlotIx) (r : RecIx) : DriveLaw (s.lateThrow k r) := by
  unfold State.lateThrow; split
  · rename_i hc
    exact h.startThrow _ _ (Bool.and_eq_true_iff.mp hc).2
  · exact h

/-- A slot brought to rest, its service state as it was. -/
theorem DriveLaw.setSlot_atRest {s : State} (h : DriveLaw s) {k : SlotIx} {x : Slot} (hx : x.atRest)
    (hs : x.service = (s.slot k).service) : DriveLaw (s.setSlot k x) :=
  h.setSlot (Slot.driveLaw_of_atRest hx) hs.trans

theorem DriveLaw.failSlot {s : State} (h : DriveLaw s) (k : SlotIx) (inc : Incident) :
    DriveLaw (s.failSlot k inc) :=
  (driveLaw_raise _ inc).mpr (h.setSlot (Slot.driveLaw_fail (h k).1) Slot.service_fail_of_off)

/-- R41: a point at rest that follows its inputs stays at rest. -/
theorem DriveLaw.followDetection {s : State} (h : DriveLaw s) (k : SlotIx) (hm : (s.slot k).isMoving = false) :
    DriveLaw (s.followDetection k) := by
  obtain ⟨-, hoff⟩ := (h k).1.atRest hm
  unfold State.followDetection
  dsimp only
  split
  · exact DriveLaw.failSlot (h.setSlot_atRest (x := { s.slot k with point := .unproved }) ⟨rfl, hoff⟩ rfl) k _
  · exact h.setSlot_atRest ⟨(s.slot k).isMoving_detected, hoff⟩ rfl

theorem DriveLaw.throwDetection {s : State} (h : DriveLaw s) (k : SlotIx) (t : Throw) :
    DriveLaw (s.throwDetection k t) := by
  unfold State.throwDetection; split
  · exact DriveLaw.evaluateThrow (h.setSlot_atRest ((s.slot k).atRest_rest_provedIn t.target) rfl) k
  · exact h

theorem Slot.control_setInput (x : Slot) (input : Leg) (b : Bool) : (x.setInput input b).control = x.control := by
  cases input <;> rfl

theorem DriveLaw.changeDetection {s : State} (h : DriveLaw s) (k : SlotIx) (input : Leg) (b : Bool) :
    DriveLaw (s.changeDetection k input b) := by
  have hpoint : ((s.slot k).setInput input b).point = (s.slot k).point := by cases input <;> rfl
  have hset := h.setSlot_alike (k := k) ((s.slot k).control_setInput input b)
  have hfollow (hm : (s.slot k).isMoving = false) :=
    hset.followDetection k (by simpa only [State.slot_setSlot, Slot.isMoving, hpoint] using hm)
  unfold State.changeDetection
  dsimp only
  split
  · split
    · exact hset.throwDetection k _
    all_goals
      rename_i hp
      exact hfollow (by simp only [Slot.isMoving, hp])
  · exact hset

/-- R51: an occupied report brings a moving point to rest, whatever the slot `x` with the report was. -/
theorem DriveLaw.stopUnderCut {s : State} (h : DriveLaw s) {k : SlotIx} {x : Slot}
    (hs : x.service = (s.slot k).service) (hstill : x.isMoving = false → x.atRest) :
    DriveLaw ((s.setSlot k x).stopUnderCut k) := by
  have hset (hm : x.isMoving = false) : DriveLaw (s.setSlot k x) := h.setSlot_atRest (hstill hm) hs
  unfold State.stopUnderCut
  rw [State.slot_setSlot]
  cases hp : x.point with
  | moving t =>
    dsimp only
    rw [State.setSlot_setSlot]
    exact DriveLaw.failSlot (h.setSlot_atRest x.atRest_rest_unproved hs) k _
  | provedNormal => exact hset (by simp only [Slot.isMoving, hp])
  | provedReverse => exact hset (by simp only [Slot.isMoving, hp])
  | unproved => exact hset (by simp only [Slot.isMoving, hp])

theorem DriveLaw.occupyFouling {s : State} (h : DriveLaw s) (k : SlotIx) : DriveLaw (s.occupyFouling k) := by
  unfold State.occupyFouling
  dsimp only
  split
  · exact h.stopUnderCut rfl fun hm => (h k).1.atRest hm
  · rename_i hc
    have hm : (s.slot k).isMoving = false := Bool.eq_false_iff.mpr fun hm => hc (by
      obtain ⟨hs, hf⟩ := (h k).1.2 hm
      have hn : s.nodeState = .inService := h.inService_of_service (k := k) (by rw [hs]; decide)
      simp [State.slotServing, State.serving, hn, hs, hf])
    exact h.setSlot_atRest ((h k).1.atRest hm) rfl

/-- R49, R50: the deadline of a moving point ends the throw or lets it pause. -/
theorem DriveLaw.throwExpired {s : State} (h : DriveLaw s) {k : SlotIx} (hm : (s.slot k).isMoving = true)
    (t : Throw) : DriveLaw (s.throwExpired k t) := by
  obtain ⟨hs, hf⟩ := (h k).1.2 hm
  unfold State.throwExpired
  split
  · exact DriveLaw.failSlot (h.setSlot_atRest (s.slot k).atRest_rest_unproved rfl) k _
  · exact h.setSlot (Slot.driveLaw_rest_pausing hs hf rfl) id

theorem DriveLaw.resumeThrow {s : State} (h : DriveLaw s) {k : SlotIx} (hm : (s.slot k).isMoving = true)
    (t : Throw) : DriveLaw (s.resumeThrow k t) := by
  obtain ⟨hs, hf⟩ := (h k).1.2 hm
  exact h.setSlot (Slot.driveLaw_drive hs hf rfl) id

theorem DriveLaw.blockSlot {s : State} (h : DriveLaw s) (k : SlotIx) : DriveLaw (s.blockSlot k).2 := by
  unfold State.blockSlot
  dsimp only
  split
  · rename_i hs
    exact h.setSlot (Slot.driveLaw_of_atRest ((s.slot k).atRest_abandoned .blocked))
      fun ho => by simp [ho] at hs
  · exact h

/-- R57: a slot freed with its circuit clear is at rest, or throws anew. -/
theorem DriveLaw.freeSlot {s : State} (h : DriveLaw s) (k : SlotIx) : DriveLaw (s.freeSlot k).2 := by
  unfold State.freeSlot
  dsimp only
  split
  · rename_i hc
    obtain ⟨hs, -, hf⟩ := hc
    have hon : (s.slot k).service ≠ .off := fun ho => by simp [ho] at hs
    split
    · exact h.setSlot (Slot.driveLaw_drive rfl hf rfl) fun ho => absurd ho hon
    · have hrest : ({ (s.slot k).rest (s.slot k).detected with service := .inUse } : Slot).atRest :=
        (s.slot k).atRest_rest_detected
      exact DriveLaw.evaluateThrow (h.setSlot (Slot.driveLaw_of_atRest hrest) fun ho => absurd ho hon) k
  · exact h

/-! ### Queues and the receiver's rules (chapters 2 and 5) -/

theorem DriveLaw.insertRecord {s : State} (h : DriveLaw s) (k : SlotIx) (seq : Seq) (r : RecIx) :
    DriveLaw (s.insertRecord k seq r) := by
  unfold State.insertRecord
  dsimp only
  split
  · exact DriveLaw.evaluateThrow (DriveLaw.setSlot_alike ((driveLaw_setRecord s r _).mpr h) (by rfl)) k
  · exact DriveLaw.setSlot_alike ((driveLaw_setRecord s r _).mpr h) (by rfl)

theorem DriveLaw.consume {s : State} (h : DriveLaw s) {k : SlotIx} {c : Consumed} (hc : s.consume k = some c) :
    DriveLaw c.state := by
  have hanon (e : Seq) (ha : s.consumeAnonymous k e = some c) : DriveLaw c.state := by
    unfold State.consumeAnonymous at ha
    split at ha
    · exact absurd ha (by simp)
    · rename_i r s' hal
      obtain rfl := Option.some.inj ha
      obtain ⟨rest, -, rfl⟩ := State.allocate_eq_some_iff.mp hal
      exact (driveLaw_raise _ _).mpr (DriveLaw.setSlot_alike (s := { s with free := rest }) h rfl)
  unfold State.consume at hc
  split at hc
  · unfold State.consumeUnsynced at hc
    split at hc
    · exact absurd hc (by simp)
    · rename_i hal
      obtain rfl := Option.some.inj hc
      exact (driveLaw_raise _ _).mpr (h.allocate hal)
  · split at hc
    · exact hanon _ hc
    · split at hc
      · obtain rfl := Option.some.inj hc
        exact DriveLaw.setSlot_alike ((driveLaw_setRecord s _ _).mpr h) rfl
      · exact hanon _ hc

theorem DriveLaw.absorbHead {s : State} (h : DriveLaw s) (k : SlotIx) (e : Seq) (r : RecIx) (rest : List RecIx) :
    DriveLaw (s.absorbHead k e r rest) :=
  DriveLaw.evaluateThrow ((driveLaw_freeRecord _ r).mpr (h.setSlot_alike (by rfl))) k

theorem DriveLaw.emptyQueue {s : State} (h : DriveLaw s) (k : SlotIx) : DriveLaw (s.emptyQueue k) := by
  have hfreed : DriveLaw ((s.setSlot k { s.slot k with expected := none, queue := [], recent := [] }).freeRecords
      (s.slot k).queue) := (driveLaw_freeRecords _ _).mpr (h.setSlot_alike rfl)
  unfold State.emptyQueue
  dsimp only
  split
  · exact hfreed
  · exact hfreed.evaluateThrow k

theorem DriveLaw.expireOverdue {s : State} (h : DriveLaw s) (k : SlotIx) (seq : Seq) :
    DriveLaw (s.expireOverdue k seq) := by
  unfold State.expireOverdue
  split
  · split
    · exact h
    · split
      · exact h
      · split
        · exact h
        · simpa [State.markOverdue] using h
  · exact h

theorem DriveLaw.takeAnnounced {s : State} (h : DriveLaw s) (k : SlotIx) (a : Announcement) :
    DriveLaw (s.takeAnnounced k a).1 := by
  unfold State.takeAnnounced
  split
  · exact h.insertRecord k _ _
  · split
    · exact h
    · rename_i hal
      exact DriveLaw.insertRecord ((driveLaw_setRecord _ _ _).mpr (h.allocate hal)) k _ _

theorem DriveLaw.decideStray {s : State} (h : DriveLaw s) (k : SlotIx) (r : RecIx) :
    DriveLaw (s.decideStray k r) := by
  unfold State.decideStray
  split_ifs
  · exact h
  · exact h
  · simpa using h

theorem DriveLaw.adopt {s : State} (h : DriveLaw s) (k : SlotIx) (i : Nat) (p : Passage) (a : Announcement) :
    DriveLaw (s.adopt k i p a) := by
  have hwritten : DriveLaw (s.writeAdoption k i p a) :=
    DriveLaw.setSlot_alike ((driveLaw_setRecord s _ _).mpr h) rfl
  have hstray := hwritten.decideStray k p.record
  unfold State.adopt State.divertAdopted
  rw [driveLaw_raise]
  split
  · exact (driveLaw_addFlags _ _ _).mpr hstray
  · exact hstray

theorem DriveLaw.refuseLate {s : State} (h : DriveLaw s) (k : SlotIx) (a : Announcement) :
    DriveLaw (s.refuseLate k a).1 := (driveLaw_raise s _).mpr h

theorem DriveLaw.receiveAnonymous {s : State} (h : DriveLaw s) (k : SlotIx) (a : Announcement) :
    DriveLaw (s.receiveAnonymous k a).1 := by
  unfold State.receiveAnonymous
  split
  · exact h.refuseLate k a
  · split
    · exact h.refuseLate k a
    · split
      · exact h.refuseLate k a
      · exact h.adopt k _ _ a

theorem DriveLaw.receiveBehind {s : State} (h : DriveLaw s) (k : SlotIx) (a : Announcement) :
    DriveLaw (s.receiveBehind k a).1 := by
  unfold State.receiveBehind
  split
  · exact h.refuseLate k a
  · split
    · split
      · exact h
      · exact h.refuseLate k a
    · exact h.receiveAnonymous k a

theorem DriveLaw.receiveAhead {s : State} (h : DriveLaw s) (k : SlotIx) (a : Announcement) :
    DriveLaw (s.receiveAhead k a).1 := by
  unfold State.receiveAhead
  split_ifs
  · exact h
  · exact h
  · exact h.takeAnnounced k a

theorem DriveLaw.receive {s : State} (h : DriveLaw s) (k : SlotIx) (a : Announcement) :
    DriveLaw (s.receive k a).1 := by
  unfold State.receive
  split
  · exact h
  · split
    · exact h
    · split
      · exact h.takeAnnounced k a
      · split
        · exact h.receiveAhead k a
        · exact h.receiveBehind k a

/-! ### Sending and the wait list (chapter 5) -/

theorem DriveLaw.setHandoff {s : State} (h : DriveLaw s) (k : SlotIx) (i : Nat) (x : PassageHandoff) :
    DriveLaw (s.setHandoff k i x) := by
  unfold State.setHandoff
  split
  · exact h
  · exact h.setPassage k i _

theorem DriveLaw.sendHandoff {s : State} (h : DriveLaw s) (k : SlotIx) (i : Nat) (f : HandoffFrame) :
    DriveLaw (s.sendHandoff k i f) :=
  (driveLaw_offer _ _ _).mpr (h.setHandoff k i (.sent s.nextHandoff))

theorem DriveLaw.localOutcome {s : State} (h : DriveLaw s) (k : SlotIx) (r : RecIx) (target : Nat) (seq : Seq)
    (result : HandoffResult) : DriveLaw (s.localOutcome k r target seq result) := by
  unfold State.localOutcome
  split
  · exact (driveLaw_refuseHandoff s _).mpr h
  · exact h

theorem DriveLaw.receiveLocal {s : State} (h : DriveLaw s) (target : Nat) (a : Announcement) :
    DriveLaw (s.receiveLocal target a).1 := by
  unfold State.receiveLocal
  split
  · exact h
  · exact h.receive _ a

theorem DriveLaw.handOffLocally {s : State} (h : DriveLaw s) (k : SlotIx) (i : Nat) (r : RecIx) (target : Nat)
    (a : Announcement) : DriveLaw (s.handOffLocally k i r target a) :=
  DriveLaw.localOutcome ((h.receiveLocal target a).setHandoff k i _) k r target a.seq _

theorem Slot.control_advanceFeed (x : Slot) (leg : Leg) : (x.advanceFeed leg).control = x.control := by
  cases leg <;> rfl

theorem DriveLaw.beginHandoff {s : State} (h : DriveLaw s) (k : SlotIx) (i : Nat) (p : Passage) (leg : Leg) :
    DriveLaw (s.beginHandoff k i p leg) := by
  have hfeed := h.setSlot_alike ((s.slot k).control_advanceFeed leg)
  unfold State.beginHandoff
  dsimp only
  split
  · exact h
  · split
    · exact hfeed.handOffLocally k i _ _ _
    · exact hfeed.sendHandoff k i _

theorem DriveLaw.joinWaitList {s : State} (h : DriveLaw s) (r : RecIx) (n : Nat) : DriveLaw (s.joinWaitList r n) := by
  have hroom : DriveLaw s.makeRoom := by
    unfold State.makeRoom
    split
    · exact h
    · split
      · exact h
      · exact (driveLaw_lose s _).mpr h
  exact hroom

theorem DriveLaw.expireReply {s : State} (h : DriveLaw s) (n : Nat) : DriveLaw (s.expireReply n) := by
  unfold State.expireReply
  split
  · exact h
  · split
    · simpa using h
    · simpa using h
    · exact h
    · exact h

/-! ### The crest unit (chapter 6) -/

theorem DriveLaw.noteOverrun {s : State} (h : DriveLaw s) (r : RecIx) (listEmpty : Bool) :
    DriveLaw (s.noteOverrun r listEmpty) := by
  unfold State.noteOverrun
  split
  · simpa using h
  · exact h

theorem DriveLaw.offerRelease {s : State} (h : DriveLaw s) (r : RecIx) (seq : Seq) :
    DriveLaw (s.offerRelease r seq).1 := by
  have hreceived := h.receive 0 (crestAnnouncement r seq (s.record r))
  unfold State.offerRelease
  dsimp only
  split
  · exact (driveLaw_refuseHandoff _ _).mpr hreceived
  · exact hreceived

theorem DriveLaw.endRelease {s : State} (h : DriveLaw s) (r : RecIx) (x : Receipt) : DriveLaw (s.endRelease r x) := by
  cases x <;> exact h

theorem DriveLaw.sendRelease {s : State} (h : DriveLaw s) (r : RecIx) : DriveLaw (s.sendRelease r) :=
  DriveLaw.endRelease
    ((driveLaw_offer _ _ _).mpr (DriveLaw.offerRelease (s := s.numberRelease r) h r s.releaseCounter)) r _

theorem DriveLaw.releaseCut {s : State} (h : DriveLaw s) (r : RecIx) (rest : List RecIx) :
    DriveLaw (s.releaseCut r rest) := by
  have htranslated : DriveLaw ({ s with cutList := rest }.setRecord r (s.translate (s.record r))) := h
  exact DriveLaw.sendRelease ((driveLaw_setRecord _ _ _).mpr (htranslated.noteOverrun r false)) r

theorem DriveLaw.crestAxle {s : State} (h : DriveLaw s) : DriveLaw s.crestAxle := by
  unfold State.crestAxle
  split
  · unfold State.countCrestAxle
    split <;> exact h
  · split
    · unfold State.releaseAnonymous
      split
      · exact h
      · rename_i hal
        exact DriveLaw.sendRelease ((h.allocate hal).noteOverrun _ true) _
    · exact h.releaseCut _ _

/-! ### Passages (chapter 4) -/

theorem DriveLaw.strayAxle {s : State} (h : DriveLaw s) (k : SlotIx) (x : Sensor) (d : Direction) :
    DriveLaw (s.strayAxle k x d) := (driveLaw_raise s _).mpr h

theorem DriveLaw.censusAxle {s : State} (h : DriveLaw s) (k : SlotIx) (x : Sensor) (d : Direction) :
    DriveLaw (s.censusAxle k x d) := by
  unfold State.censusAxle
  split
  · exact (driveLaw_raise s _).mpr h
  · exact h

theorem DriveLaw.decideDivert {s : State} (h : DriveLaw s) (k : SlotIx) (intended : Option Leg) (r : RecIx) :
    DriveLaw (s.decideDivert k intended r) := by
  unfold State.decideDivert
  split
  · exact h
  · split_ifs
    · exact h
    · simpa using h
    · simpa using h

theorem DriveLaw.openPassage {s : State} (h : DriveLaw s) (k : SlotIx) (r : RecIx) (consumed : Option Seq) :
    DriveLaw (s.openPassage k r consumed) :=
  DriveLaw.evaluateThrow ((((h.lateThrow k r).decideStray k r).decideDivert k _ r).setSlot_alike (by rfl)) k

theorem DriveLaw.beginPassage {s : State} (h : DriveLaw s) (k : SlotIx) : DriveLaw (s.beginPassage k) := by
  unfold State.beginPassage
  split
  · exact h
  · rename_i hc
    exact (h.consume hc).openPassage k _ _

theorem DriveLaw.countCommitAxle {s : State} (h : DriveLaw s) (k : SlotIx) (i : Nat) (p : Passage) :
    DriveLaw (s.countCommitAxle k i p) := by
  unfold State.countCommitAxle
  split
  · exact h.strayAxle k _ _
  · exact h.setPassage k i _

theorem DriveLaw.countExcessAxle {s : State} (h : DriveLaw s) (k : SlotIx) (i : Nat) (p : Passage) :
    DriveLaw (s.countExcessAxle k i p) := by
  unfold State.countExcessAxle
  dsimp only
  split_ifs
  · exact h.strayAxle k _ _
  · exact (driveLaw_addFlags _ _ _).mpr (h.setPassage k i _)
  · exact (driveLaw_raise _ _).mpr (h.setPassage k i _)

theorem DriveLaw.commitForward {s : State} (h : DriveLaw s) (k : SlotIx) : DriveLaw (s.commitForward k) := by
  unfold State.commitForward
  split
  · exact h.beginPassage k
  · split_ifs
    · exact h.countExcessAxle k _ _
    · exact h.beginPassage k
    · exact h.countCommitAxle k _ _

theorem DriveLaw.noteRollback {s : State} (h : DriveLaw s) (k : SlotIx) (p : Passage) (x : Sensor) :
    DriveLaw (s.noteRollback k p x) := by
  unfold State.noteRollback
  dsimp only
  split
  · exact h
  · simpa using h

theorem DriveLaw.commitBackward {s : State} (h : DriveLaw s) (k : SlotIx) : DriveLaw (s.commitBackward k) := by
  unfold State.commitBackward
  split
  · exact h.strayAxle k _ _
  · split
    · exact (h.setPassage k _ _).noteRollback k _ _
    · exact h.strayAxle k _ _

theorem DriveLaw.checkWatch {s : State} (h : DriveLaw s) (k : SlotIx) (leg : Leg) (tag : Tag) :
    DriveLaw (s.checkWatch k leg tag) := by
  unfold State.checkWatch
  split
  · exact (driveLaw_offer _ _ _).mpr h
  · exact h

theorem DriveLaw.reportEnd {s : State} (h : DriveLaw s) (k : SlotIx) (p : Passage) :
    DriveLaw (s.reportEnd k p) := by
  unfold State.reportEnd
  split
  · exact h
  · rename_i leg _
    have harrived : DriveLaw (s.reportArrival k leg (s.record p.record)) := by
      unfold State.reportArrival
      split
      · exact (driveLaw_offer _ _ _).mpr h
      · exact h
    unfold State.checkWatches
    split
    · exact harrived.checkWatch k leg _
    · exact (harrived.checkWatch k leg _).checkWatch k leg _

theorem DriveLaw.placeRecord {s : State} (h : DriveLaw s) (r : RecIx) (x : PassageHandoff) :
    DriveLaw (s.placeRecord r x) := by
  unfold State.placeRecord
  split
  · exact h
  · exact h
  · split
    · exact h.joinWaitList r _
    · exact h

theorem DriveLaw.endPassage {s : State} (h : DriveLaw s) (k : SlotIx) (i : Nat) : DriveLaw (s.endPassage k i) := by
  unfold State.endPassage
  split
  · exact h
  · rename_i p _
    have hplaced := (h.reportEnd k p).placeRecord p.record p.handoff
    dsimp only
    split
    · exact DriveLaw.evaluateThrow (hplaced.setSlot_alike (by rfl)) k
    · exact hplaced.setSlot_alike (by rfl)

theorem DriveLaw.checkEnds (k : SlotIx) (n : Nat) {s : State} (h : DriveLaw s) :
    DriveLaw (State.checkEnds k n s) := by
  induction n generalizing s with
  | zero => exact h
  | succ n ih =>
    unfold State.checkEnds
    split
    · exact h
    · split
      · exact ih (h.endPassage k 0)
      · exact h

theorem DriveLaw.checkEnd {s : State} (h : DriveLaw s) (k : SlotIx) : DriveLaw (s.checkEnd k) :=
  DriveLaw.checkEnds k _ h

theorem DriveLaw.exitEffects {s : State} (h : DriveLaw s) (k : SlotIx) (i : Nat) (p : Passage) (leg : Leg) :
    DriveLaw (s.exitEffects k i p leg) := by
  unfold State.exitEffects
  split
  · unfold State.checkLeg
    split
    · exact (h.failSlot k _).beginHandoff k i p leg
    · exact h.beginHandoff k i p leg
  · unfold State.checkSplit
    split
    · exact h.failSlot k _
    · exact h

theorem DriveLaw.exitForward {s : State} (h : DriveLaw s) (k : SlotIx) (leg : Leg) :
    DriveLaw (s.exitForward k leg) := by
  unfold State.exitForward
  split
  · exact h.strayAxle k _ _
  · split
    · exact h
    · exact DriveLaw.checkEnd ((h.setPassage k _ _).exitEffects k _ _ leg) k

theorem DriveLaw.exitBackward {s : State} (h : DriveLaw s) (k : SlotIx) (leg : Leg) :
    DriveLaw (s.exitBackward k leg) := by
  unfold State.exitBackward
  split
  · exact h.strayAxle k _ _
  · split
    · exact h
    · exact DriveLaw.checkEnd ((h.setPassage k _ _).noteRollback k _ _) k

theorem DriveLaw.judgeShort {s : State} (h : DriveLaw s) (k : SlotIx) (p : Passage) :
    DriveLaw (s.judgeShort k p) := by
  unfold State.judgeShort
  split
  · exact h
  · simpa using h

theorem DriveLaw.merge {s : State} (h : DriveLaw s) (k : SlotIx) (i : Nat) (p : Passage) (e : Seq) (r : RecIx)
    (rest : List RecIx) : DriveLaw (s.merge k i p e r rest) :=
  (driveLaw_raise _ _).mpr
    (DriveLaw.setPassage ((driveLaw_setRecord _ _ _).mpr (h.absorbHead k e r rest)) k i _)

theorem DriveLaw.recogniseMerge {s : State} (h : DriveLaw s) (k : SlotIx) (i : Nat) (p : Passage) :
    DriveLaw (s.recogniseMerge k i p) := by
  have hlong (inc : Incident) : DriveLaw ((s.addFlags p.record { long := true }).raise inc) := by simpa using h
  unfold State.recogniseMerge
  split
  · split
    · exact h.merge k i p _ _ _
    · exact hlong _
  · exact hlong _
  · exact hlong _

theorem DriveLaw.gapExpired {s : State} (h : DriveLaw s) (k : SlotIx) (i : Nat) (p : Passage) :
    DriveLaw (s.gapExpired k i p) := by
  unfold State.gapExpired
  split
  · exact h.setPassage k i _
  · split
    · exact h.setPassage k i _
    · exact DriveLaw.checkEnd ((h.setPassage k i _).judgeShort k _) k
  · split
    · exact DriveLaw.checkEnd (h.setPassage k i _) k
    · exact DriveLaw.checkEnd ((h.setPassage k i _).recogniseMerge k i _) k

theorem DriveLaw.expireGap {s : State} (h : DriveLaw s) (k : SlotIx) (i : Nat) : DriveLaw (s.expireGap k i) := by
  unfold State.expireGap
  split
  · exact h
  · split
    · exact DriveLaw.gapExpired ((driveLaw_reach s _).mpr h) k i _
    · exact h

theorem DriveLaw.expireStall {s : State} (h : DriveLaw s) (k : SlotIx) (i : Nat) :
    DriveLaw (s.expireStall k i) := by
  unfold State.expireStall
  split
  · exact h
  · split
    · exact h
    · exact (driveLaw_raise _ _).mpr (DriveLaw.setPassage ((driveLaw_reach s _).mpr h) k i _)

theorem DriveLaw.expireGhost {s : State} (h : DriveLaw s) (k : SlotIx) : DriveLaw (s.expireGhost k) := by
  unfold State.expireGhost
  dsimp only
  split
  · exact h
  · rename_i d _
    have hset : DriveLaw ((s.reach d).setSlot k { s.slot k with ghostTimer := none, ghostRaised := true }) :=
      DriveLaw.setSlot_alike ((driveLaw_reach s d).mpr h) rfl
    split
    · exact hset
    · exact (driveLaw_raise _ _).mpr hset

theorem DriveLaw.reconcileOne {s : State} (h : DriveLaw s) (k : SlotIx) (i : Nat) :
    DriveLaw (s.reconcileOne k i) := by
  unfold State.reconcileOne
  split
  · exact h
  · exact DriveLaw.checkEnd (DriveLaw.endPassage (by simpa using h) k i) k

theorem DriveLaw.reconcileAll (k : SlotIx) (n : Nat) {s : State} (h : DriveLaw s) :
    DriveLaw (State.reconcileAll k n s) := by
  induction n generalizing s with
  | zero => exact h
  | succ n ih =>
    unfold State.reconcileAll
    split
    · exact h
    · exact ih (h.reconcileOne k _)

/-- R36: the point of a SETTLING slot is at rest as the slot enters IN_USE. -/
theorem DriveLaw.endSettling {s : State} (h : DriveLaw s) (k : SlotIx) : DriveLaw (s.endSettling k) := by
  unfold State.endSettling
  split
  · rename_i hs
    have hrest : (s.slot k).atRest := (h k).1.atRest_of_service (by rw [hs]; decide)
    exact h.setSlot (x := { s.slot k with service := .inUse }) (Slot.driveLaw_of_atRest hrest)
      fun ho => absurd (hs.symm.trans ho) (by decide)
  · exact h

theorem DriveLaw.clearFouling {s : State} (h : DriveLaw s) (k : SlotIx) : DriveLaw (s.clearFouling k) := by
  have hclear : DriveLaw (s.setSlot k { s.slot k with foulingOccupied := false }) :=
    h.setSlot ⟨(h k).1.1, fun hm => ⟨((h k).1.2 hm).1, rfl⟩⟩ id
  unfold State.clearFouling
  dsimp only
  split
  · exact (DriveLaw.endSettling (DriveLaw.reconcileAll k _ hclear) k).evaluateThrow k
  · exact hclear

theorem DriveLaw.flushZone {s : State} (h : DriveLaw s) (k : SlotIx) : DriveLaw (s.flushZone k) := by
  refine DriveLaw.evaluateThrow ((driveLaw_freeRecords _ _).mpr ?_) k
  refine List.foldlRecOn _ _ (h.setSlot_alike rfl) fun u hu p _ => ?_
  unfold Passage.discard
  split <;> exact hu

theorem DriveLaw.flushSlot {s : State} (h : DriveLaw s) (k : SlotIx) : DriveLaw (s.flushSlot k).2 := by
  have hempty := h.emptyQueue k
  unfold State.flushSlot
  dsimp only
  split
  · exact hempty
  · exact hempty.flushZone k

/-! ### Frames heard (chapters 5 to 9) -/

theorem DriveLaw.refreshRoster {s : State} (h : DriveLaw s) (origin : Nat) : DriveLaw (s.refreshRoster origin) := by
  unfold State.refreshRoster
  split <;> exact h

/-- What a frame does keeps the law where what the frame means keeps it. -/
theorem DriveLaw.hear {s : State} (h : DriveLaw s) (origin : Station) {act : State → State}
    (hact : ∀ x, DriveLaw x → DriveLaw (act x)) : DriveLaw (s.hear origin act) := by
  have hfresh := h.refreshRoster origin.toNat
  unfold State.hear
  split_ifs
  · exact hfresh
  · exact hact _ hfresh
  · exact h

theorem DriveLaw.hearTarget {s : State} (h : DriveLaw s) (origin : Station) (target : Byte) {act : State → State}
    (hact : ∀ x, DriveLaw x → DriveLaw (act x)) : DriveLaw (s.hearTarget origin target act) := by
  refine h.hear origin fun x hx => ?_
  split
  · exact hact x hx
  · exact hx

theorem DriveLaw.hearYard {s : State} (h : DriveLaw s) (origin : Station) (target : Byte) {act : State → State}
    (hact : ∀ x, DriveLaw x → DriveLaw (act x)) : DriveLaw (s.hearYard origin target act) := by
  refine h.hearTarget origin target fun x hx => ?_
  split
  · exact hact x hx
  · exact hx

/-- A command of the yard computer that is answered. -/
theorem DriveLaw.hearCommand {s : State} (h : DriveLaw s) (origin : Station) (target : Byte) (kind : FrameKind)
    (argument : BitVec 16) {act : State → CommandResult × State} (hact : ∀ x, DriveLaw x → DriveLaw (act x).2) :
    DriveLaw (s.hearYard origin target (fun x => answer kind argument (act x))) :=
  h.hearYard origin target fun x hx => (driveLaw_offer _ _ _).mpr (hact x hx)

theorem DriveLaw.crestOnly {s : State} (h : DriveLaw s) {act : State → CommandResult × State}
    (hact : DriveLaw (act s).2) : DriveLaw (crestOnly s act).2 := by
  unfold Machine.crestOnly
  split
  · exact hact
  · exact h

/-- A slot command, check 2 of R159 before it. -/
theorem DriveLaw.hearSlotCommand {s : State} (h : DriveLaw s) (origin : Station) (target slot : Byte)
    (kind : FrameKind) {act : State → SlotIx → CommandResult × State}
    (hact : ∀ x k, DriveLaw x → DriveLaw (act x k).2) :
    DriveLaw (s.hearYard origin target (fun x => answer kind (byteArgument slot) (slotArgument x slot act))) := by
  refine h.hearCommand origin target kind _ fun x hx => ?_
  unfold slotArgument
  split
  · exact hx
  · split
    · exact hx
    · exact hact x _ hx

theorem DriveLaw.takeCutEntry {s : State} (h : DriveLaw s) (origin : Station) (p : CutEntryPayload) :
    DriveLaw (s.takeCutEntry origin p) := by
  refine h.hearCommand origin p.target _ _ fun x hx => hx.crestOnly ?_
  have happend : DriveLaw (x.appendEntry p) := by
    unfold State.appendEntry
    split
    · exact hx
    · rename_i hal
      have hleft := hx.allocate hal
      exact hleft
  unfold State.enterCut
  split_ifs
  iterate 6 exact hx
  exact happend

theorem DriveLaw.takeEntryWithdraw {s : State} (h : DriveLaw s) (origin : Station) (target : Byte) (tag : Tag) :
    DriveLaw (s.takeEntryWithdraw origin target tag) := by
  refine h.hearCommand origin target _ _ fun x hx => hx.crestOnly ?_
  unfold State.withdrawCut
  split
  · exact hx
  · split
    · exact hx
    · split <;> exact hx

theorem DriveLaw.takeListClear {s : State} (h : DriveLaw s) (origin : Station) (target : Byte) :
    DriveLaw (s.takeListClear origin target) :=
  h.hearCommand origin target _ _ fun x hx => hx.crestOnly
    ((driveLaw_freeRecords { x with cutList := [] } x.cutList).mpr hx)

theorem DriveLaw.takeReleaseOne {s : State} (h : DriveLaw s) (origin : Station) (target : Byte) (tag : Tag) :
    DriveLaw (s.takeReleaseOne origin target tag) := by
  refine h.hearCommand origin target _ _ fun x hx => hx.crestOnly ?_
  unfold State.releaseHead
  split
  · exact hx
  · split <;> exact hx

theorem DriveLaw.takeTrackClose {s : State} (h : DriveLaw s) (origin : Station) (target track substitute : Byte) :
    DriveLaw (s.takeTrackClose origin target track substitute) := by
  refine h.hearCommand origin target _ _ fun x hx => hx.crestOnly ?_
  unfold State.closeTrack
  split_ifs <;> exact hx

theorem DriveLaw.takeTrackOpen {s : State} (h : DriveLaw s) (origin : Station) (target track : Byte) :
    DriveLaw (s.takeTrackOpen origin target track) := by
  refine h.hearCommand origin target _ _ fun x hx => hx.crestOnly ?_
  unfold State.openTrack
  split_ifs <;> exact hx

theorem DriveLaw.takeRestartAck {s : State} (h : DriveLaw s) (origin : Station) (target station : Byte) :
    DriveLaw (s.takeRestartAck origin target station) := by
  refine h.hearCommand origin target _ _ fun x hx => hx.crestOnly ?_
  unfold State.acknowledge
  split
  · exact hx
  · split <;> exact hx

theorem DriveLaw.takeSlotBlock {s : State} (h : DriveLaw s) (origin : Station) (target slot : Byte) :
    DriveLaw (s.takeSlotBlock origin target slot) :=
  h.hearSlotCommand origin target slot _ fun _ k hx => hx.blockSlot k

theorem DriveLaw.takeSlotFree {s : State} (h : DriveLaw s) (origin : Station) (target slot : Byte) :
    DriveLaw (s.takeSlotFree origin target slot) :=
  h.hearSlotCommand origin target slot _ fun _ k hx => hx.freeSlot k

theorem DriveLaw.takeSlotFlush {s : State} (h : DriveLaw s) (origin : Station) (target slot : Byte) :
    DriveLaw (s.takeSlotFlush origin target slot) :=
  h.hearSlotCommand origin target slot _ fun _ k hx => hx.flushSlot k

theorem DriveLaw.takeIncidentClear {s : State} (h : DriveLaw s) (origin : Station) (target : Byte) :
    DriveLaw (s.takeIncidentClear origin target) :=
  h.hearCommand origin target _ _ fun _ hx => hx

theorem DriveLaw.takeWatchSet {s : State} (h : DriveLaw s) (origin : Station) (target : Byte) (tag : Tag) :
    DriveLaw (s.takeWatchSet origin target tag) := by
  refine h.hearCommand origin target _ _ fun x hx => ?_
  unfold State.setWatch
  split_ifs <;> exact hx

theorem DriveLaw.takeWatchClear {s : State} (h : DriveLaw s) (origin : Station) (target : Byte) (tag : Tag) :
    DriveLaw (s.takeWatchClear origin target tag) := by
  refine h.hearCommand origin target _ _ fun x hx => ?_
  unfold State.clearWatch
  split <;> exact hx

theorem DriveLaw.takeStatusQuery {s : State} (h : DriveLaw s) (origin : Station) (target : Byte) :
    DriveLaw (s.takeStatusQuery origin target) :=
  h.hearYard origin target fun x hx => (driveLaw_offer x _ _).mpr hx

theorem DriveLaw.startSlot {s : State} (h : DriveLaw s) (origin : Nat) (k : SlotIx) :
    DriveLaw (s.startSlot origin k) := by
  unfold State.startSlot
  split
  · exact h.emptyQueue k
  · exact h

theorem DriveLaw.requeue {s : State} (h : DriveLaw s) (x : Handoff) : DriveLaw (s.requeue x) := by
  unfold State.requeue
  dsimp only
  split_ifs
  · exact h
  · exact h
  · exact (driveLaw_offer _ _ _).mpr h

theorem DriveLaw.takeStart {s : State} (h : DriveLaw s) (origin : Station) : DriveLaw (s.takeStart origin) := by
  refine h.hear origin fun x hx => ?_
  have hroster : DriveLaw { x with roster := (s.rosterStart origin.toNat).roster } := hx
  have hslots := (((hroster.startSlot origin.toNat 0).startSlot origin.toNat 1).startSlot origin.toNat 2).startSlot
    origin.toNat 3
  exact List.foldlRecOn _ _ hslots fun u hu y _ => hu.requeue y

theorem DriveLaw.takeHoldState {s : State} (h : DriveLaw s) (origin : Station) (mask : Byte) :
    DriveLaw (s.takeHoldState origin mask) := by
  refine h.hear origin fun x hx => ?_
  unfold State.rosterMask
  split <;> exact hx

theorem DriveLaw.takeHandoff {s : State} (h : DriveLaw s) (origin : Station) (p : HandoffPayload) :
    DriveLaw (s.takeHandoff origin p) := by
  refine h.hearTarget origin p.target fun x hx => (driveLaw_offer _ _ _).mpr ?_
  unfold State.receiveFrame
  split
  · exact hx
  · split
    · exact hx.receive _ _
    · exact hx

theorem DriveLaw.takeHandoffReply {s : State} (h : DriveLaw s) (origin : Station) (p : ReplyPayload) :
    DriveLaw (s.takeHandoffReply origin p) := by
  refine h.hearTarget origin p.target fun x hx => ?_
  unfold State.matchReply
  split
  · exact hx
  · split
    · exact hx
    · unfold State.takeResult
      split <;> simpa using hx

theorem DriveLaw.takeNothing {s : State} (h : DriveLaw s) (origin : Station) : DriveLaw (s.takeNothing origin) :=
  h.hear origin fun _ hx => hx

/-- A valid frame among bits heard is taken as the frame it is (log 7). -/
theorem DriveLaw.takeFrame {s : State} (h : DriveLaw s) (f : RawFrame) : DriveLaw (takeFrame f s) := by
  unfold Machine.takeFrame
  split
  · exact h.takeStart _
  · exact h.takeHoldState _ _
  · exact h.takeHandoff _ _
  · exact h.takeHandoffReply _ _
  · exact h.takeCutEntry _ _
  · exact h.takeEntryWithdraw _ _ _
  · exact h.takeListClear _ _
  · exact h.takeTrackClose _ _ _ _
  · exact h.takeTrackOpen _ _ _
  · exact h.takeReleaseOne _ _ _
  · exact h.takeRestartAck _ _ _
  · exact h.takeSlotBlock _ _ _
  · exact h.takeSlotFree _ _ _
  · exact h.takeSlotFlush _ _ _
  · exact h.takeIncidentClear _ _
  · exact h.takeWatchSet _ _ _
  · exact h.takeWatchClear _ _ _
  · exact h.takeStatusQuery _ _
  · exact h.takeNothing _

/-! ### Node control (chapter 10) -/

/-- R35, R162: reset turns every drive off and every slot OFF. -/
theorem driveLaw_assertReset (s : State) : DriveLaw s.assertReset := by
  intro k
  have hk : s.assertReset.slot k = (s.slot k).reset := by simp [State.slot, State.assertReset]
  rw [hk]
  exact ⟨Slot.driveLaw_of_atRest ⟨rfl, rfl, rfl⟩, fun _ => rfl⟩

/-- Before service every slot is OFF, whichever state the node is in. -/
theorem DriveLaw.of_not_inService {s t : State} (h : DriveLaw s) (hn : s.nodeState ≠ .inService)
    (hs : t.slots = s.slots) : DriveLaw t := by
  intro k
  have hk : t.slot k = s.slot k := by simp only [State.slot, hs]
  rw [hk]
  exact ⟨(h k).1, fun _ => (h k).2 hn⟩

theorem DriveLaw.releaseReset {s : State} (h : DriveLaw s) : DriveLaw s.releaseReset := by
  unfold State.releaseReset
  split
  · rename_i hn
    exact h.of_not_inService (by rw [hn]; decide) rfl
  · exact h

theorem DriveLaw.loadImage {s : State} (h : DriveLaw s) (memory : List Byte) : DriveLaw (s.loadImage memory) := by
  unfold State.loadImage
  split
  · rename_i hn
    split <;> exact h.of_not_inService (by rw [hn]; decide) rfl
  · exact h

theorem State.atRest_enterSlot {s : State} (h : ∀ j, (s.slot j).atRest) (k j : SlotIx) :
    ((s.enterSlot k).slot j).atRest := by
  unfold State.enterSlot
  split
  · rw [State.slot_setSlot_eq_ite]
    split
    · exact Slot.atRest_enterService (h k)
    · exact h j
  · exact h j

theorem State.atRest_enterSlots {s : State} (h : ∀ j, (s.slot j).atRest) (j : SlotIx) :
    (s.enterSlots.slot j).atRest :=
  State.atRest_enterSlot (State.atRest_enterSlot (State.atRest_enterSlot (State.atRest_enterSlot h 0) 1) 2) 3 j

theorem driveLaw_reportCapture (s : State) : DriveLaw s.reportCapture ↔ DriveLaw s := by
  unfold State.reportCapture
  split
  · exact Iff.rfl
  · exact driveLaw_offerReport s _

theorem driveLaw_firstHoldState (s : State) : DriveLaw s.firstHoldState ↔ DriveLaw s :=
  driveLaw_offerHoldState { s with holdMask := s.formMask }

/-- R167: slots at rest enter service at rest. -/
theorem driveLaw_enterService {s : State} (hrest : ∀ j, (s.slot j).atRest) (start : Nat) :
    DriveLaw (s.enterService start) := by
  have hslots := State.atRest_enterSlots (s := s.reach (start + Config.censusTime)) hrest
  have hentered : DriveLaw { (s.reach (start + Config.censusTime)).enterSlots with
      nodeState := .inService, censusStart := none } :=
    fun j => ⟨Slot.driveLaw_of_atRest (x := (s.reach (start + Config.censusTime)).enterSlots.slot j) (hslots j),
      fun hn => absurd rfl hn⟩
  exact (driveLaw_reportCapture _).mpr ((driveLaw_firstHoldState _).mpr ((driveLaw_offer _ _ _).mpr hentered))

/-- Before service every slot is OFF, and so at rest. -/
theorem DriveLaw.endCensus {s : State} (h : DriveLaw s) : DriveLaw s.endCensus := by
  unfold State.endCensus
  split
  · rename_i hn
    have hrest (j : SlotIx) : (s.slot j).atRest :=
      (h j).1.atRest_of_service (by rw [(h j).2 (by rw [hn]; decide)]; decide)
    split
    · exact h
    · exact driveLaw_enterService hrest _
  · exact h

/-! ### Every step -/

/-- A command ends in what follows every event, from a state that has the law. -/
def KeepsDriveLaw (s : State) (o : Host.Outcome State Fault Refusal) : Prop :=
  ∃ u, o = finish s u ∧ DriveLaw u

theorem keepsDriveLaw_finish {s u : State} (h : DriveLaw u) : KeepsDriveLaw s (finish s u) := ⟨u, rfl, h⟩

theorem KeepsDriveLaw.next {s t : State} {o : Host.Outcome State Fault Refusal} (h : KeepsDriveLaw s o)
    (ho : o = .next t) : DriveLaw t := by
  obtain ⟨u, rfl, hu⟩ := h
  obtain rfl := Host.Outcome.next.inj ho
  exact (driveLaw_settle s u).mpr hu

theorem DriveLaw.execThrowDeadline {s : State} (h : DriveLaw s) (k : SlotIx) :
    KeepsDriveLaw s (execThrowDeadline k s) := by
  unfold Machine.execThrowDeadline
  split
  · rename_i hp
    exact keepsDriveLaw_finish
      (DriveLaw.throwExpired ((driveLaw_reach s _).mpr h) (Slot.isMoving_of_point hp) _)
  all_goals exact keepsDriveLaw_finish h

theorem DriveLaw.execPauseEnd {s : State} (h : DriveLaw s) (k : SlotIx) :
    KeepsDriveLaw s (execPauseEnd k s) := by
  unfold Machine.execPauseEnd
  split
  · rename_i hp
    exact keepsDriveLaw_finish
      (DriveLaw.resumeThrow ((driveLaw_reach s _).mpr h) (Slot.isMoving_of_point hp) _)
  all_goals exact keepsDriveLaw_finish h

/-- R59, R166: a sensor's axle is a passage's axle in service, and a census axle before it. -/
theorem DriveLaw.sensorAxle {s u : State} (h : DriveLaw s) (k : SlotIx) (x : Sensor) (d : Direction)
    (hu : DriveLaw u) :
    KeepsDriveLaw s (if s.slotServing k then finish s u else finish s (s.censusAxle k x d)) := by
  split
  · exact keepsDriveLaw_finish hu
  · exact keepsDriveLaw_finish (h.censusAxle k x d)

theorem DriveLaw.expireSilence {s : State} (h : DriveLaw s) (station : Nat) : DriveLaw (s.expireSilence station) := by
  unfold State.expireSilence
  split
  · exact h
  · split <;> exact h

theorem DriveLaw.tellSent {s : State} (h : DriveLaw s) (f : OutFrame) (owner : Option Nat) :
    DriveLaw (s.tellSent f owner) := by
  have htimer (n : Nat) : DriveLaw (s.startReplyTimer n) := by
    unfold State.startReplyTimer
    split
    · exact h
    · split <;> exact h
  cases f with
  | handoff x =>
    cases owner with
    | none => exact h
    | some n => exact htimer n
  | _ => exact h

theorem DriveLaw.dropFrame {s : State} (h : DriveLaw s) (r : DiscardReason) : DriveLaw (s.dropFrame r) := by
  unfold State.dropFrame
  split <;> exact h

theorem DriveLaw.execCrestAxle {s : State} (h : DriveLaw s) : KeepsDriveLaw s (execCrestAxle s) := by
  unfold Machine.execCrestAxle
  split
  · exact keepsDriveLaw_finish h.crestAxle
  · exact keepsDriveLaw_finish h

theorem DriveLaw.execReplyTimeout {s : State} (h : DriveLaw s) (place : ContextPlace) :
    KeepsDriveLaw s (execReplyTimeout place s) := by
  unfold Machine.execReplyTimeout
  split
  · exact keepsDriveLaw_finish h
  · exact keepsDriveLaw_finish (h.expireReply _)

theorem DriveLaw.execReleaseIntervalEnd {s : State} (h : DriveLaw s) :
    KeepsDriveLaw s (execReleaseIntervalEnd s) := by
  unfold Machine.execReleaseIntervalEnd
  split <;> exact keepsDriveLaw_finish h

theorem DriveLaw.execPeriodTimerExpiry {s : State} (h : DriveLaw s) :
    KeepsDriveLaw s (execPeriodTimerExpiry s) := by
  unfold Machine.execPeriodTimerExpiry
  split
  · exact keepsDriveLaw_finish h
  · exact keepsDriveLaw_finish ((driveLaw_offerHoldState _).mpr h)

theorem DriveLaw.execMuteRetryExpiry {s : State} (h : DriveLaw s) : KeepsDriveLaw s (execMuteRetryExpiry s) := by
  unfold Machine.execMuteRetryExpiry
  split <;> exact keepsDriveLaw_finish h

theorem DriveLaw.execTransmitAttempt {s : State} (h : DriveLaw s) : KeepsDriveLaw s (execTransmitAttempt s) := by
  unfold Machine.execTransmitAttempt
  split_ifs <;> exact keepsDriveLaw_finish h

theorem DriveLaw.execArbitrationLost {s : State} (h : DriveLaw s) : KeepsDriveLaw s (execArbitrationLost s) := by
  unfold Machine.execArbitrationLost
  split <;> exact keepsDriveLaw_finish h

theorem DriveLaw.execTransmitError {s : State} (h : DriveLaw s) : KeepsDriveLaw s (execTransmitError s) := by
  unfold Machine.execTransmitError
  split <;> exact keepsDriveLaw_finish h

theorem DriveLaw.execFrameSent {s : State} (h : DriveLaw s) : KeepsDriveLaw s (execFrameSent s) := by
  unfold Machine.execFrameSent
  split
  · exact keepsDriveLaw_finish h
  · exact keepsDriveLaw_finish (DriveLaw.tellSent ((driveLaw_setPort s _).mpr h) _ _)

theorem DriveLaw.execFrameDiscarded {s : State} (h : DriveLaw s) (bits : List Bool) :
    KeepsDriveLaw s (execFrameDiscarded bits s) := by
  unfold Machine.execFrameDiscarded
  split
  · exact keepsDriveLaw_finish (h.dropFrame _)
  · exact keepsDriveLaw_finish (h.takeFrame _)

theorem DriveLaw.execBusIdle {s : State} (h : DriveLaw s) : KeepsDriveLaw s (execBusIdle s) := by
  unfold Machine.execBusIdle
  split <;> exact keepsDriveLaw_finish h

/-- Every command keeps the law. -/
theorem DriveLaw.exec {s : State} (h : DriveLaw s) (c : Instr) : KeepsDriveLaw s (exec c s) := by
  cases c with
  | reset => exact keepsDriveLaw_finish (driveLaw_assertReset s)
  | resetRelease => exact keepsDriveLaw_finish h.releaseReset
  | imageRead memory => exact keepsDriveLaw_finish (h.loadImage memory)
  | censusAxle k x d => exact keepsDriveLaw_finish (h.censusAxle k x d)
  | censusEnd => exact keepsDriveLaw_finish h.endCensus
  | commitAxleForward k => exact h.sensorAxle k _ _ (h.commitForward k)
  | commitAxleBackward k => exact h.sensorAxle k _ _ (h.commitBackward k)
  | exitAxleForward k leg => exact h.sensorAxle k _ _ (h.exitForward k leg)
  | exitAxleBackward k leg => exact h.sensorAxle k _ _ (h.exitBackward k leg)
  | detectionChange k input b => exact keepsDriveLaw_finish (h.changeDetection k input b)
  | foulingOccupied k => exact keepsDriveLaw_finish (h.occupyFouling k)
  | foulingClear k => exact keepsDriveLaw_finish (h.clearFouling k)
  | crestAxle => exact h.execCrestAxle
  | gapExpiry k i => exact keepsDriveLaw_finish (h.expireGap k i)
  | stallExpiry k i => exact keepsDriveLaw_finish (h.expireStall k i)
  | ghostExpiry k => exact keepsDriveLaw_finish (h.expireGhost k)
  | overdueExpiry k seq => exact keepsDriveLaw_finish (h.expireOverdue k seq)
  | throwDeadline k => exact h.execThrowDeadline k
  | pauseEnd k => exact h.execPauseEnd k
  | replyTimeout place => exact h.execReplyTimeout place
  | releaseIntervalEnd => exact h.execReleaseIntervalEnd
  | periodTimerExpiry => exact h.execPeriodTimerExpiry
  | silenceDeadline station => exact keepsDriveLaw_finish (h.expireSilence station)
  | muteRetryExpiry => exact h.execMuteRetryExpiry
  | transmitAttempt => exact h.execTransmitAttempt
  | arbitrationLost => exact h.execArbitrationLost
  | transmitError => exact h.execTransmitError
  | frameSent => exact h.execFrameSent
  | frameDiscarded bits => exact h.execFrameDiscarded bits
  | frameNotTaken origin => exact keepsDriveLaw_finish (h.takeNothing origin)
  | start origin role slotCount imageSum => exact keepsDriveLaw_finish (h.takeStart origin)
  | holdState origin mask nodeState => exact keepsDriveLaw_finish (h.takeHoldState origin mask)
  | handoff origin p => exact keepsDriveLaw_finish (h.takeHandoff origin p)
  | handoffReply origin p => exact keepsDriveLaw_finish (h.takeHandoffReply origin p)
  | cutEntry origin p => exact keepsDriveLaw_finish (h.takeCutEntry origin p)
  | entryWithdraw origin target tag => exact keepsDriveLaw_finish (h.takeEntryWithdraw origin target tag)
  | listClear origin target => exact keepsDriveLaw_finish (h.takeListClear origin target)
  | releaseOne origin target tag => exact keepsDriveLaw_finish (h.takeReleaseOne origin target tag)
  | trackClose origin target track substitute =>
    exact keepsDriveLaw_finish (h.takeTrackClose origin target track substitute)
  | trackOpen origin target track => exact keepsDriveLaw_finish (h.takeTrackOpen origin target track)
  | restartAck origin target station => exact keepsDriveLaw_finish (h.takeRestartAck origin target station)
  | slotBlock origin target slot => exact keepsDriveLaw_finish (h.takeSlotBlock origin target slot)
  | slotFree origin target slot => exact keepsDriveLaw_finish (h.takeSlotFree origin target slot)
  | slotFlush origin target slot => exact keepsDriveLaw_finish (h.takeSlotFlush origin target slot)
  | incidentClear origin target => exact keepsDriveLaw_finish (h.takeIncidentClear origin target)
  | watchSet origin target tag => exact keepsDriveLaw_finish (h.takeWatchSet origin target tag)
  | watchClear origin target tag => exact keepsDriveLaw_finish (h.takeWatchClear origin target tag)
  | statusQuery origin target => exact keepsDriveLaw_finish (h.takeStatusQuery origin target)
  | busIdle => exact h.execBusIdle

theorem DriveLaw.tick {s : State} (h : DriveLaw s) : DriveLaw s.tick := by
  unfold State.tick
  split <;> exact h

/-- Settles O56: a step is a tick, which no slot sees, or a command, which keeps the law (`DriveLaw.exec`). -/
theorem everyStepKeepsTheDriveLaw : Obligations.EveryStepKeepsTheDriveLaw := by
  unfold Obligations.EveryStepKeepsTheDriveLaw
  intro s t h hstep
  unfold step at hstep
  split at hstep
  · obtain rfl := Host.Outcome.next.inj hstep
    exact h.tick
  · rename_i c rest _
    have hrest : DriveLaw { s with pending := rest } := h
    exact (hrest.exec c).next hstep

end Sys2Proof.Machine
end

section
/-! SUPPORT. A forward commit axle that the youngest passage takes (R60, R64, R66, R67): which row of R64 the
machine follows, what it counts there, and the claim `Leaves` of each. -/

namespace Sys2Proof.Machine

/-! ### The rows of R64 that count an axle in -/

/-- R59: a slot that takes field events belongs to a node in service. -/
theorem State.serving_of_slotServing {s : State} {k : SlotIx} (h : s.slotServing k = true) : s.serving = true := by
  unfold State.slotServing at h
  exact (Bool.and_eq_true_iff.mp h).1

/-- How a claim `Leaves` is shown of a forward commit axle at a slot that takes it. -/
theorem Leaves.of_commitForward {s u : State} {k : SlotIx} {sends : List OutFrame} (hs : s.slotServing k = true)
    (h : Reported s (s.commitForward k) u sends) (hk : ∀ g ∈ sends, g.kind ≠ .holdState) :
    Leaves (.commitAxleForward k) s u sends :=
  Leaves.of_reported (if_pos hs) h hk

/-- R64: a youngest passage that is COMMITTING or TRAILING takes the axle. -/
theorem State.commitForward_of_not_committed {s : State} {k : SlotIx} {p : Passage}
    (hz : (s.slot k).zone.getLast? = some p) (hp : p.phase ≠ .committed) :
    s.commitForward k = s.countCommitAxle k ((s.slot k).zone.length - 1) p := by
  unfold State.commitForward
  simp only [hz, if_neg hp]

/-- R64: a youngest passage that is COMMITTED takes the axle while its gap timer runs or the zone list is full. -/
theorem State.commitForward_of_committed {s : State} {k : SlotIx} {p : Passage}
    (hz : (s.slot k).zone.getLast? = some p) (hp : p.phase = .committed)
    (h : p.gapRunning = true ∨ (s.slot k).zone.length = 2) :
    s.commitForward k = s.countExcessAxle k ((s.slot k).zone.length - 1) p := by
  have hc : p.gapRunning = true ∨ Config.zoneCapacity ≤ (s.slot k).zone.length := h.imp_right Eq.ge
  unfold State.commitForward
  simp only [hz, if_pos hp, if_pos hc]

/-! ### What is counted -/

theorem State.countCommitAxle_of_limit (s : State) (k : SlotIx) (i : Nat) {p : Passage} (h : p.axlesIn = 255) :
    s.countCommitAxle k i p = s.strayAxle k .commit .forward := if_pos h.ge

theorem State.countExcessAxle_of_limit (s : State) (k : SlotIx) (i : Nat) {p : Passage} (h : p.axlesIn = 255) :
    s.countExcessAxle k i p = s.strayAxle k .commit .forward := if_pos h.ge

theorem State.countCommitAxle_of_lt (s : State) (k : SlotIx) (i : Nat) {p : Passage} (h : p.axlesIn < 255) :
    s.countCommitAxle k i p = s.setPassage k i (p.countIn.commitTimers s.time (s.slotCfg k).stallTime) :=
  if_neg (Nat.not_le.mpr h)

/-- R67: the state in which an axle has been counted as excess, before its alarm. -/
def State.withExcess (s : State) (k : SlotIx) (i : Nat) (p : Passage) : State :=
  (s.setPassage k i { p.afterCommitAxle s.time (s.slotCfg k).stallTime with
    axlesIn := p.axlesIn + 1, excess := p.excess + 1 }).setRecord p.record
      ((s.record p.record).flagged { long := true })

@[simp] theorem State.serving_withExcess (s : State) (k : SlotIx) (i : Nat) (p : Passage) :
    (s.withExcess k i p).serving = s.serving := rfl

theorem State.countExcessAxle_of_lt (s : State) (k : SlotIx) (i : Nat) {p : Passage} (h : p.axlesIn < 255) :
    s.countExcessAxle k i p = if p.gapRunning = true then s.withExcess k i p
      else (s.withExcess k i p).raise (overrunIncident s k p) :=
  if_neg (Nat.not_le.mpr h)

theorem Passage.countIn_of_trailing {p : Passage} (h : p.phase = .trailing) :
    p.countIn = { p with axlesIn := p.axlesIn + 1, excess := p.excess + 1 } := by
  unfold Passage.countIn; simp only [h]

theorem Passage.countIn_of_unknown {p : Passage} (h : p.phase = .committing) (hc : p.countdown = none) :
    p.countIn = { p with axlesIn := p.axlesIn + 1 } := by
  unfold Passage.countIn; simp only [h, hc]

theorem Passage.countIn_of_countdown {p : Passage} {n : Nat} (h : p.phase = .committing)
    (hc : p.countdown = some (n + 1)) :
    p.countIn = { p with
      axlesIn := p.axlesIn + 1
      countdown := some n
      phase := if n = 0 then .trailing else .committing } := by
  unfold Passage.countIn; simp only [h, hc, Nat.add_sub_cancel]

/-! ### The claims -/

/-- R60: the stray axle's alarm is latched and reported. -/
theorem Reported.strayAxle {s : State} (hs : s.serving = true) (k : SlotIx) (x : Sensor) (d : Direction) :
    Reported s (s.strayAxle k x d) (s.captureAlarm (strayAxleIncident k x d))
      [s.reportOf (strayAxleIncident k x d)] :=
  (Reported.of_queue rfl).raise_alarm (by simp) hs _ rfl

theorem State.kind_reportOf_ne_holdState (s : State) (inc : Incident) :
    ∀ g ∈ [s.reportOf inc], g.kind ≠ .holdState := by
  intro g hg
  rw [List.mem_singleton.mp hg]
  exact FrameKind.noConfusion

/-- R60: with 255 axles in the axle is a stray axle, whichever phase the passage that takes it has. -/
theorem leaves_commitForward_stray {s : State} {k : SlotIx} {p : Passage} (hs : s.slotServing k = true)
    (hz : (s.slot k).zone.getLast? = some p) (hn : p.axlesIn = 255)
    (h : p.phase ≠ .committed ∨ p.gapRunning = true ∨ (s.slot k).zone.length = 2) :
    Leaves (.commitAxleForward k) s (s.captureAlarm (strayAxleIncident k .commit .forward))
      [s.reportOf (strayAxleIncident k .commit .forward)] := by
  have hc : s.commitForward k = s.strayAxle k .commit .forward := by
    by_cases hp : p.phase = .committed
    · rw [State.commitForward_of_committed hz hp (h.resolve_left (not_not_intro hp)),
        State.countExcessAxle_of_limit _ _ _ hn]
    · rw [State.commitForward_of_not_committed hz hp, State.countCommitAxle_of_limit _ _ _ hn]
  refine Leaves.of_commitForward hs ?_ (s.kind_reportOf_ne_holdState _)
  rw [hc]
  exact Reported.strayAxle (State.serving_of_slotServing hs) k .commit .forward

/-- R66: the axle is counted into a COMMITTING or TRAILING passage, and nothing is reported. -/
theorem leaves_commitForward_countIn {s : State} {k : SlotIx} {p q : Passage} (hs : s.slotServing k = true)
    (hz : (s.slot k).zone.getLast? = some p) (hn : p.axlesIn < 255) (hp : p.phase ≠ .committed)
    (hq : p.countIn.commitTimers s.time (s.slotCfg k).stallTime = q) :
    Leaves (.commitAxleForward k) s (s.setPassage k ((s.slot k).zone.length - 1) q) [] := by
  refine Leaves.of_commitForward hs ?_ (by simp)
  rw [State.commitForward_of_not_committed hz hp, State.countCommitAxle_of_lt _ _ _ hn, hq]
  exact Reported.of_queue rfl

/-- R67: while the gap timer runs, the excess axle of a COMMITTED passage is counted without a report. -/
theorem leaves_commitForward_excess {s : State} {k : SlotIx} {p : Passage} (hs : s.slotServing k = true)
    (hz : (s.slot k).zone.getLast? = some p) (hn : p.axlesIn < 255) (hp : p.phase = .committed)
    (hg : p.gapRunning = true) :
    Leaves (.commitAxleForward k) s (s.withExcess k ((s.slot k).zone.length - 1) p) [] := by
  refine Leaves.of_commitForward hs ?_ (by simp)
  rw [State.commitForward_of_committed hz hp (.inl hg), State.countExcessAxle_of_lt _ _ _ hn, if_pos hg]
  exact Reported.of_queue rfl

/-- R67: once the gap timer has expired, the excess axle that a full zone list takes raises ZONE_OVERRUN. -/
theorem leaves_commitForward_overrun {s : State} {k : SlotIx} {p : Passage} (hs : s.slotServing k = true)
    (hz : (s.slot k).zone.getLast? = some p) (hn : p.axlesIn < 255) (hp : p.phase = .committed)
    (hg : p.gapRunning = false) (hl : (s.slot k).zone.length = 2) :
    Leaves (.commitAxleForward k) s
      ((s.withExcess k ((s.slot k).zone.length - 1) p).captureAlarm (overrunIncident s k p))
      [s.reportOf (overrunIncident s k p)] := by
  refine Leaves.of_commitForward hs ?_ (s.kind_reportOf_ne_holdState _)
  rw [State.commitForward_of_committed hz hp (.inr hl), State.countExcessAxle_of_lt _ _ _ hn,
    if_neg (Bool.eq_false_iff.mp hg)]
  have hv : s.serving = true := State.serving_of_slotServing hs
  exact (Reported.of_queue rfl).raise_alarm (by simp) ((s.serving_withExcess k _ p).trans hv) _ rfl

/-- Settles O11: with 255 axles in the axle is stray; below that, one claim for each phase of the youngest
passage, with COMMITTING split by its countdown and COMMITTED by its gap timer. -/
theorem commitAxleIsCountedIn : Obligations.CommitAxleIsCountedIn := by
  unfold Obligations.CommitAxleIsCountedIn
  intro s k p hs hz
  refine ⟨leaves_commitForward_stray hs hz, fun hn => ⟨?trailing, ?unknown, ?counted,
    leaves_commitForward_excess hs hz hn, leaves_commitForward_overrun hs hz hn⟩⟩
  case trailing =>
    intro hp
    exact leaves_commitForward_countIn hs hz hn (by simp [hp]) (by rw [Passage.countIn_of_trailing hp]; rfl)
  case unknown =>
    intro hp hc
    exact leaves_commitForward_countIn hs hz hn (by simp [hp]) (by rw [Passage.countIn_of_unknown hp hc]; rfl)
  case counted =>
    intro n hp hc
    exact leaves_commitForward_countIn hs hz hn (by simp [hp]) (by rw [Passage.countIn_of_countdown hp hc]; rfl)

end Sys2Proof.Machine
end

section
/-! SUPPORT. The commands of the closure table and of the roster's restarts at a crest node (R113 to R115, R139):
what a command of the yard computer comes to once it is taken (R146, R159, R160), what each of the three operations
answers, and the claim `Leaves` of each. -/

namespace Sys2Proof.Machine

/-! ### The refreshed roster (R135) -/

theorem State.refreshed_of_crest {s : State} (hr : s.cfg.role = .crest) (origin : Station) :
    s.refreshed origin = s.atStation origin.toNat (fun e => e.refresh s.time) := if_pos hr

/-- R135, R146: in service the roster operation refreshes just what `refreshed` says. -/
theorem State.refreshRoster_of_serving {s : State} (hs : s.nodeState = .inService) (origin : Station) :
    s.refreshRoster origin.toNat = s.refreshed origin := by
  have hserving : s.serving = true := beq_iff_eq.mpr hs
  by_cases hr : s.cfg.role = .crest
  · rw [State.refreshed_of_crest hr]
    exact if_pos (by simp [State.crestServing, hserving, hr])
  · exact (if_neg (by simp [State.crestServing, hr])).trans (if_neg hr).symm

@[simp] theorem State.nodeState_refreshed (s : State) (origin : Station) :
    (s.refreshed origin).nodeState = s.nodeState := by unfold State.refreshed; split <;> rfl

@[simp] theorem State.port_refreshed (s : State) (origin : Station) : (s.refreshed origin).port = s.port := by
  unfold State.refreshed; split <;> rfl

@[simp] theorem State.closures_refreshed (s : State) (origin : Station) :
    (s.refreshed origin).closures = s.closures := by unfold State.refreshed; split <;> rfl

@[simp] theorem State.cfg_refreshed (s : State) (origin : Station) : (s.refreshed origin).cfg = s.cfg := by
  unfold State.refreshed; split <;> rfl

@[simp] theorem State.slotCfg_refreshed (s : State) (origin : Station) (k : SlotIx) :
    (s.refreshed origin).slotCfg k = s.slotCfg k := by unfold State.refreshed; split <;> rfl

/-- A change of an entry that keeps its station is seen where the entry is looked up. -/
theorem State.rosterEntry?_atStation (s : State) (a n : Nat) {f : RosterEntry → RosterEntry}
    (hf : ∀ e, (f e).station = e.station) :
    (s.atStation a f).rosterEntry? n = (s.rosterEntry? n).map (fun e => if e.station = a then f e else e) := by
  have hstation : ((fun e : RosterEntry => e.station == n) ∘ fun e => if e.station = a then f e else e)
      = fun e => e.station == n := by
    funext e
    by_cases he : e.station = a <;> simp [he, hf]
  simp only [State.rosterEntry?, State.atStation, List.find?_map, hstation]

theorem State.rosterEntry?_eq_none {s : State} {n : Nat} (h : ∀ e ∈ s.roster, e.station ≠ n) :
    s.rosterEntry? n = none :=
  List.find?_eq_none.mpr fun e he hn => h e he (beq_iff_eq.mp hn)

theorem State.rosterEntry?_refreshed {s : State} (hr : s.cfg.role = .crest) (origin : Station) (n : Nat) :
    (s.refreshed origin).rosterEntry? n
      = (s.rosterEntry? n).map (fun e => if e.station = origin.toNat then e.refresh s.time else e) := by
  rw [State.refreshed_of_crest hr]
  exact State.rosterEntry?_atStation s _ n (fun _ => rfl)

/-- R135: a refresh leaves the restart mark as it is. -/
theorem State.rosterEntry?_refreshed_of_some {s : State} {n : Nat} {e : RosterEntry} (hr : s.cfg.role = .crest)
    (origin : Station) (h : s.rosterEntry? n = some e) :
    ∃ x, (s.refreshed origin).rosterEntry? n = some x ∧ x.restarted = e.restarted := by
  rw [State.rosterEntry?_refreshed hr, h]
  refine ⟨_, rfl, ?_⟩
  dsimp only
  split <;> rfl

/-! ### A command that is taken (R146, R159, R160) -/

/-- R146: a command of the yard computer acts on the state with its roster refreshed. -/
theorem State.hearYard_of_takesCommand {s : State} {origin : Station} {target : Byte}
    (h : s.takesCommand origin target) (act : State → State) :
    s.hearYard origin target act = act (s.refreshed origin) := by
  obtain ⟨⟨hs, hidle, hown⟩, htarget, hyard⟩ := h
  have hhear : s.serving = true ∧ s.port.seenIdle = true := ⟨beq_iff_eq.mpr hs, hidle⟩
  unfold State.hearYard State.hearTarget State.hear
  rw [if_pos hhear, if_neg hown, State.refreshRoster_of_serving hs]
  dsimp only
  rw [State.cfg_refreshed, if_pos htarget, if_pos hyard]

/-- How a claim `Leaves` is shown of a crest-only command whose operation offers nothing: the operation's state,
and the one reply with its result. -/
theorem Leaves.of_crestCommand {c : Instr} {s u : State} {origin : Station} {target : Byte} {kind : FrameKind}
    {argument : BitVec 16} {act : State → CommandResult × State} {r : CommandResult}
    (h : s.takesCommand origin target) (hr : s.cfg.role = .crest)
    (hc : exec c s = finish s (s.hearYard origin target (fun x => answer kind argument (crestOnly x act))))
    (hact : act (s.refreshed origin) = (r, u)) (hport : u.port = s.port) (hnode : u.nodeState = s.nodeState) :
    Leaves c s u [replyFrame kind argument r] := by
  have hbody : s.hearYard origin target (fun x => answer kind argument (crestOnly x act))
      = u.offer (replyFrame kind argument r) none := by
    rw [State.hearYard_of_takesCommand h, crestOnly, State.cfg_refreshed, if_pos hr, hact]
    rfl
  obtain ⟨⟨hs, -, -⟩, -, -⟩ := h
  have hserving : u.serving = true := beq_iff_eq.mpr (hnode.trans hs)
  have hquiet : Reported s u u [] := Reported.of_queue (congrArg Port.queue hport)
  refine Leaves.of_reported (hc.trans (congrArg (finish s) hbody)) (hquiet.offer (by simp) hserving _ none) ?_
  intro g hg
  rw [List.mem_singleton.mp hg]
  exact FrameKind.noConfusion

/-! ### The closure table (R113 to R115) -/

/-- R113: the table holds an entry for the track. -/
theorem State.isClosed_iff (s : State) (a : Nat) : s.isClosed a = true ↔ a ∈ s.closures.map Closure.track := by
  simp [State.isClosed, State.closure?, List.find?_isSome]

@[simp] theorem State.isClosed_refreshed (s : State) (origin : Station) (a : Nat) :
    (s.refreshed origin).isClosed a = s.isClosed a := by
  unfold State.isClosed State.closure?
  rw [State.closures_refreshed]

/-- R114: what makes a TRACK_CLOSE of track `n` with substitute `m` REFUSED_VALUE. -/
def State.refusesClosure (s : State) (n m : Nat) : Prop :=
  ¬((s.slotCfg 0).reachFirst ≤ n ∧ n ≤ (s.slotCfg 0).reachLast)
    ∨ ¬((s.slotCfg 0).reachFirst ≤ m ∧ m ≤ (s.slotCfg 0).reachLast)
    ∨ n = s.cfg.rejectTrack ∨ m = n ∨ m ∈ s.closures.map Closure.track

theorem SlotConfig.inReach_eq_false_iff (c : SlotConfig) (d : Nat) :
    c.inReach d = false ↔ ¬(c.reachFirst ≤ d ∧ d ≤ c.reachLast) := by
  simp only [SlotConfig.inReach, Bool.and_eq_false_iff, decide_eq_false_iff_not, not_and_or]

/-- The rule's words for the guard of the operation. -/
theorem State.refusesClosure_iff (s : State) (n m : Nat) :
    s.refusesClosure n m ↔ (s.slotCfg 0).inReach n = false ∨ (s.slotCfg 0).inReach m = false
      ∨ n = s.cfg.rejectTrack ∨ m = n ∨ s.isClosed m = true := by
  simp only [State.refusesClosure, SlotConfig.inReach_eq_false_iff, State.isClosed_iff]

@[simp] theorem State.refusesClosure_refreshed (s : State) (origin : Station) (n m : Nat) :
    (s.refreshed origin).refusesClosure n m ↔ s.refusesClosure n m := by
  simp [State.refusesClosure]

theorem State.closeTrack_of_refuses {s : State} {n m : Nat} (h : s.refusesClosure n m) :
    s.closeTrack n m = (.refusedValue, s) := if_pos ((s.refusesClosure_iff n m).mp h)

theorem State.closeTrack_of_not_refuses {s : State} {n m : Nat} (h : ¬s.refusesClosure n m) :
    s.closeTrack n m =
      if s.isClosed n then (.done, s.replaceClosure n m)
      else if s.closures.length < 8 then (.done, { s with closures := s.closures ++ [⟨n, m⟩] })
      else (.refusedFull, s) := if_neg (mt (s.refusesClosure_iff n m).mpr h)

/-- R115: a track that R169 lets TRACK_OPEN name is opened, if it is closed. -/
theorem State.openTrack_of_inRange (s : State) {n : Nat} (h1 : 1 ≤ n) (h63 : n ≤ 63) :
    s.openTrack n =
      if s.isClosed n then (.done, { s with closures := s.closures.filter (fun x => decide (x.track ≠ n)) })
      else (.refusedState, s) := by
  have hrange : ¬(n < 1 ∨ 63 < n) := by omega
  have hfilter : (fun x : Closure => decide (x.track ≠ n)) = fun x => x.track != n := by
    funext x
    exact Bool.eq_iff_iff.mpr (by simp)
  rw [hfilter]
  exact if_neg hrange

/-! ### Restarts (R139) -/

theorem State.acknowledge_of_none {s : State} {n : Nat} (h : s.rosterEntry? n = none) :
    s.acknowledge n = (.refusedValue, s) := by
  unfold State.acknowledge
  rw [h]

theorem State.acknowledge_of_some {s : State} {n : Nat} {e : RosterEntry} (h : s.rosterEntry? n = some e) :
    s.acknowledge n =
      if e.restarted then (.done, s.atStation n (fun x => { x with restarted := false }))
      else (.refusedState, s) := by
  unfold State.acknowledge
  rw [h]

/-! ### The claims -/

section
variable {s : State} {origin : Station} {target : Byte} (h : s.takesCommand origin target)
  (hr : s.cfg.role = .crest)

include h hr

/-- R114: the checks refuse the closure. -/
theorem leaves_trackClose_refusedValue {track substitute : Byte}
    (hbad : s.refusesClosure track.toNat substitute.toNat) :
    Leaves (.trackClose origin target track substitute) s (s.refreshed origin)
      [replyFrame .trackClose (track.setWidth 16) .refusedValue] :=
  Leaves.of_crestCommand h hr rfl (State.closeTrack_of_refuses (by simpa using hbad)) (by simp) (by simp)

/-- R114: the substitute of a closed track is replaced. -/
theorem leaves_trackClose_replaced {track substitute : Byte}
    (hgood : ¬s.refusesClosure track.toNat substitute.toNat)
    (hc : track.toNat ∈ s.closures.map Closure.track) :
    Leaves (.trackClose origin target track substitute) s
      { s.refreshed origin with closures := s.closures.map (fun x =>
          if x.track = track.toNat then ⟨track.toNat, substitute.toNat⟩ else x) }
      [replyFrame .trackClose (track.setWidth 16) .done] := by
  refine Leaves.of_crestCommand h hr rfl ?_ (State.port_refreshed s origin) (State.nodeState_refreshed s origin)
  rw [State.closeTrack_of_not_refuses (by simpa using hgood), State.isClosed_refreshed,
    if_pos ((s.isClosed_iff _).mpr hc), State.replaceClosure, State.closures_refreshed]

/-- R114: a track that is not closed enters a table with room. -/
theorem leaves_trackClose_added {track substitute : Byte}
    (hgood : ¬s.refusesClosure track.toNat substitute.toNat)
    (hc : track.toNat ∉ s.closures.map Closure.track) (hroom : s.closures.length < 8) :
    Leaves (.trackClose origin target track substitute) s
      { s.refreshed origin with closures := s.closures ++ [⟨track.toNat, substitute.toNat⟩] }
      [replyFrame .trackClose (track.setWidth 16) .done] := by
  refine Leaves.of_crestCommand h hr rfl ?_ (State.port_refreshed s origin) (State.nodeState_refreshed s origin)
  rw [State.closeTrack_of_not_refuses (by simpa using hgood), State.isClosed_refreshed,
    if_neg (mt (s.isClosed_iff _).mp hc), State.closures_refreshed, if_pos hroom]

/-- R114: a track that is not closed is refused by a full table. -/
theorem leaves_trackClose_refusedFull {track substitute : Byte}
    (hgood : ¬s.refusesClosure track.toNat substitute.toNat)
    (hc : track.toNat ∉ s.closures.map Closure.track) (hfull : 8 ≤ s.closures.length) :
    Leaves (.trackClose origin target track substitute) s (s.refreshed origin)
      [replyFrame .trackClose (track.setWidth 16) .refusedFull] := by
  refine Leaves.of_crestCommand h hr rfl ?_ (by simp) (by simp)
  rw [State.closeTrack_of_not_refuses (by simpa using hgood), State.isClosed_refreshed,
    if_neg (mt (s.isClosed_iff _).mp hc), State.closures_refreshed, if_neg (Nat.not_lt.mpr hfull)]

/-- R115: the entry of a closed track is removed. -/
theorem leaves_trackOpen_removed {track : Byte} (h1 : 1 ≤ track.toNat) (h63 : track.toNat ≤ 63)
    (hc : track.toNat ∈ s.closures.map Closure.track) :
    Leaves (.trackOpen origin target track) s
      { s.refreshed origin with closures := s.closures.filter (fun x => decide (x.track ≠ track.toNat)) }
      [replyFrame .trackOpen (track.setWidth 16) .done] := by
  refine Leaves.of_crestCommand h hr rfl ?_ (State.port_refreshed s origin) (State.nodeState_refreshed s origin)
  rw [State.openTrack_of_inRange _ h1 h63, State.isClosed_refreshed, if_pos ((s.isClosed_iff _).mpr hc),
    State.closures_refreshed]

/-- R115: a track that is not closed is not opened. -/
theorem leaves_trackOpen_refusedState {track : Byte} (h1 : 1 ≤ track.toNat) (h63 : track.toNat ≤ 63)
    (hc : track.toNat ∉ s.closures.map Closure.track) :
    Leaves (.trackOpen origin target track) s (s.refreshed origin)
      [replyFrame .trackOpen (track.setWidth 16) .refusedState] := by
  refine Leaves.of_crestCommand h hr rfl ?_ (by simp) (by simp)
  rw [State.openTrack_of_inRange _ h1 h63, State.isClosed_refreshed, if_neg (mt (s.isClosed_iff _).mp hc)]

/-- R139: a station outside the roster. -/
theorem leaves_restartAck_refusedValue {station : Byte} (hn : ∀ e ∈ s.roster, e.station ≠ station.toNat) :
    Leaves (.restartAck origin target station) s (s.refreshed origin)
      [replyFrame .restartAck (station.setWidth 16) .refusedValue] := by
  have hnone : (s.refreshed origin).rosterEntry? station.toNat = none := by
    rw [State.rosterEntry?_refreshed hr, State.rosterEntry?_eq_none hn, Option.map_none]
  exact Leaves.of_crestCommand h hr rfl (State.acknowledge_of_none hnone) (by simp) (by simp)

/-- R139: an entry that is not restarted. -/
theorem leaves_restartAck_refusedState {station : Byte} {e : RosterEntry}
    (he : s.rosterEntry? station.toNat = some e) (hre : e.restarted = false) :
    Leaves (.restartAck origin target station) s (s.refreshed origin)
      [replyFrame .restartAck (station.setWidth 16) .refusedState] := by
  obtain ⟨x, hx, hxe⟩ := State.rosterEntry?_refreshed_of_some hr origin he
  refine Leaves.of_crestCommand h hr rfl ?_ (by simp) (by simp)
  rw [State.acknowledge_of_some hx, if_neg (Bool.eq_false_iff.mp (hxe.trans hre))]

/-- R139: the restart mark of an entry is cleared. -/
theorem leaves_restartAck_cleared {station : Byte} {e : RosterEntry}
    (he : s.rosterEntry? station.toNat = some e) (hre : e.restarted = true) :
    Leaves (.restartAck origin target station) s
      ((s.refreshed origin).atStation station.toNat (fun x => { x with restarted := false }))
      [replyFrame .restartAck (station.setWidth 16) .done] := by
  obtain ⟨x, hx, hxe⟩ := State.rosterEntry?_refreshed_of_some hr origin he
  refine Leaves.of_crestCommand h hr rfl ?_ (State.port_refreshed s origin) (State.nodeState_refreshed s origin)
  rw [State.acknowledge_of_some hx, if_pos (hxe.trans hre)]

end

/-- Settles O44: one claim for each answer of the three commands, the checks of a TRACK_CLOSE being those of
`State.refusesClosure`. -/
theorem closureAndRestartCommandsChangeTheirTables :
    Obligations.ClosureAndRestartCommandsChangeTheirTables := by
  unfold Obligations.ClosureAndRestartCommandsChangeTheirTables
  intro s origin target track substitute h hr
  exact ⟨leaves_trackClose_refusedValue h hr, leaves_trackClose_replaced h hr, leaves_trackClose_added h hr,
    leaves_trackClose_refusedFull h hr, leaves_trackOpen_removed h hr, leaves_trackOpen_refusedState h hr,
    leaves_restartAck_refusedValue h hr, fun _ => leaves_restartAck_refusedState h hr,
    fun _ => leaves_restartAck_cleared h hr⟩

end Sys2Proof.Machine
end

section
/-! SUPPORT. The transmit queue under offers (R147 to R149): what one offer does to it, that offers keep it in order
with at most one START and one frame on the bus, and that a HOLD_STATE offered to such a queue is never the frame
discarded. -/

namespace Sys2Proof.Machine

/-! ### What an offer does -/

/-- R149: a full queue without a place for the frame offered, which is then itself the frame discarded. -/
def Displaces (q : List TxEntry) (e : TxEntry) : Prop :=
  ¬(e.isHoldState = true ∧ q.any TxEntry.isHoldState = true) ∧ Config.transmitCapacity ≤ q.length
    ∧ ∀ v rest, takeYoungest q = some (v, rest) → v.urgency ≤ e.urgency

/-- R147 to R149: an offer replaces the HOLD_STATE in the queue, enters it, enters it in the place of a less urgent
frame, or is discarded. -/
theorem enqueue_cases (e : TxEntry) (q : List TxEntry) :
    (e.isHoldState = true ∧ q.any TxEntry.isHoldState = true ∧ enqueue e q = (replaceHoldState e.frame q, none))
    ∨ enqueue e q = (insertByUrgency e q, none)
    ∨ (∃ v rest, takeYoungest q = some (v, rest) ∧ e.urgency < v.urgency
        ∧ enqueue e q = (insertByUrgency e rest, some v))
    ∨ (Displaces q e ∧ enqueue e q = (q, some e)) := by
  unfold enqueue
  by_cases hrep : e.isHoldState = true ∧ q.any TxEntry.isHoldState = true
  · exact .inl ⟨hrep.1, hrep.2, if_pos (Bool.and_eq_true_iff.mpr hrep)⟩
  · rw [if_neg (mt Bool.and_eq_true_iff.mp hrep)]
    by_cases hroom : q.length < Config.transmitCapacity
    · exact .inr (.inl (if_pos hroom))
    · rw [if_neg hroom]
      refine .inr (.inr ?_)
      cases hy : takeYoungest q with
      | none => exact .inr ⟨⟨hrep, Nat.le_of_not_lt hroom, fun v rest h => by simp [hy] at h⟩, rfl⟩
      | some x =>
        obtain ⟨v, rest⟩ := x
        by_cases hlt : e.urgency < v.urgency
        · exact .inl ⟨v, rest, rfl, hlt, if_pos hlt⟩
        · refine .inr ⟨⟨hrep, Nat.le_of_not_lt hroom, fun v' rest' h => ?_⟩, if_neg hlt⟩
          obtain ⟨rfl, rfl⟩ : v = v' ∧ rest = rest' := by simpa [hy] using h
          exact Nat.le_of_not_lt hlt

theorem enqueue_of_displaces {q : List TxEntry} {e : TxEntry} (h : Displaces q e) : enqueue e q = (q, some e) := by
  obtain ⟨hrep, hfull, hyoungest⟩ := h
  unfold enqueue
  rw [if_neg (mt Bool.and_eq_true_iff.mp hrep), if_neg (Nat.not_lt.mpr hfull)]
  split
  · rename_i v rest hy
    exact if_neg (Nat.not_lt.mpr (hyoungest v rest hy))
  · rfl

/-- R148: a HOLD_STATE in the queue gives its place to the next. -/
theorem enqueue_of_holdState {q : List TxEntry} {e : TxEntry} (he : e.isHoldState = true)
    (h : q.any TxEntry.isHoldState = true) : enqueue e q = (replaceHoldState e.frame q, none) :=
  if_pos (Bool.and_eq_true_iff.mpr ⟨he, h⟩)

theorem exists_mem_replaceHoldState {q : List TxEntry} (f : OutFrame) (h : q.any TxEntry.isHoldState = true) :
    ∃ x ∈ replaceHoldState f q, x.frame = f := by
  obtain ⟨y, hy, hh⟩ := List.any_eq_true.mp h
  exact ⟨_, List.mem_map_of_mem hy, by simp [hh]⟩

/-- R149: a frame of urgency 0 gives its place to no other, and stays where the offer is no HOLD_STATE. -/
theorem mem_enqueue_of_urgent {q : List TxEntry} {e x : TxEntry} (hx : x ∈ q) (hu : x.urgency = 0)
    (he : e.isHoldState = false) : x ∈ (enqueue e q).1 := by
  rcases enqueue_cases e q with ⟨hh, -⟩ | h | ⟨v, rest, hy, hlt, h⟩ | ⟨-, h⟩
  · rw [he] at hh; exact Bool.noConfusion hh
  · rw [h]; exact (mem_insertByUrgency e x q).mpr (.inr hx)
  · rw [h]
    obtain ⟨hp, -, -⟩ := takeYoungest_spec hy
    have hne : x ≠ v := fun hxv => by subst hxv; omega
    exact (mem_insertByUrgency e x rest).mpr (.inr ((List.mem_cons.mp (hp.mem_iff.mp hx)).resolve_left hne))
  · rw [h]; exact hx

/-! ### The queue in order -/

/-- R147, R168: the queue stands in order of urgency, with at most one START and one frame on the bus. -/
structure QueueInOrder (q : List TxEntry) : Prop where
  sorted : q.Pairwise (fun a b => a.urgency ≤ b.urgency)
  oneStart : (q.filter (fun e => e.frame.kind == .start)).length ≤ 1
  oneOnBus : (q.filter TxEntry.onBus).length ≤ 1

theorem TransmitLaw.queueInOrder {s : State} (h : TransmitLaw s) : QueueInOrder s.port.queue := by
  obtain ⟨hsorted, -, -, hstart, hbus, -, -⟩ := h
  refine ⟨hsorted, hstart, ?_⟩
  rw [hbus]
  split <;> omega

theorem QueueInOrder.sublist {q q' : List TxEntry} (h : QueueInOrder q) (hs : q'.Sublist q) : QueueInOrder q' :=
  ⟨h.sorted.sublist hs, (hs.filter _).length_le.trans h.oneStart, (hs.filter _).length_le.trans h.oneOnBus⟩

theorem QueueInOrder.insertByUrgency {q : List TxEntry} {e : TxEntry} (h : QueueInOrder q)
    (hstart : e.frame.kind ≠ .start) (hbus : e.onBus = false) : QueueInOrder (insertByUrgency e q) := by
  have hp := insertByUrgency_perm e q
  refine ⟨insertByUrgency_sorted e q h.sorted, ?_, ?_⟩
  · rw [(hp.filter _).length_eq, List.filter_cons_of_neg (by simpa using hstart)]
    exact h.oneStart
  · rw [(hp.filter _).length_eq, List.filter_cons_of_neg (by simpa using hbus)]
    exact h.oneOnBus

/-- Other marks, and frames of the same kind, leave the order. -/
theorem QueueInOrder.map {q : List TxEntry} (h : QueueInOrder q) {g : TxEntry → TxEntry}
    (hkind : ∀ e, (g e).frame.kind = e.frame.kind) (hbus : ∀ e, (g e).onBus = true → e.onBus = true) :
    QueueInOrder (q.map g) := by
  have hurgency (e : TxEntry) : (g e).urgency = e.urgency := congrArg kindUrgency (hkind e)
  refine ⟨?_, ?_, ?_⟩
  · simpa only [List.pairwise_map, hurgency] using h.sorted
  · rw [List.filter_map, List.length_map]
    simpa only [Function.comp_def, hkind] using h.oneStart
  · rw [List.filter_map, List.length_map]
    exact (List.monotone_filter_right q hbus).length_le.trans h.oneOnBus

theorem QueueInOrder.replaceHoldState {q : List TxEntry} (h : QueueInOrder q) {f : OutFrame}
    (hf : f.kind = .holdState) : QueueInOrder (replaceHoldState f q) := by
  refine h.map (fun e => ?_) (fun e => ?_)
  · by_cases he : e.isHoldState = true
    · rw [if_pos he]; exact hf.trans (beq_iff_eq.mp he).symm
    · rw [if_neg he]
  · split <;> exact id

theorem QueueInOrder.enqueue {q : List TxEntry} {e : TxEntry} (h : QueueInOrder q)
    (hstart : e.frame.kind ≠ .start) (hbus : e.onBus = false) : QueueInOrder (enqueue e q).1 := by
  rcases enqueue_cases e q with ⟨he, -, heq⟩ | heq | ⟨v, rest, hy, -, heq⟩ | ⟨-, heq⟩
  · rw [heq]; exact h.replaceHoldState (beq_iff_eq.mp he)
  · rw [heq]; exact h.insertByUrgency hstart hbus
  · obtain ⟨-, hsub, -⟩ := takeYoungest_spec hy
    rw [heq]
    exact (h.sublist hsub).insertByUrgency hstart hbus
  · rw [heq]; exact h

/-! ### A HOLD_STATE finds a place (R131, R149) -/

theorem takeYoungest_eq_none {q : List TxEntry} (h : takeYoungest q = none) : ∀ e ∈ q, e.onBus = true := by
  induction q with
  | nil => simp
  | cons x xs ih =>
    unfold takeYoungest at h
    split at h
    · simp at h
    · rename_i hxs
      split at h
      · rename_i hx
        exact List.forall_mem_cons.mpr ⟨hx, ih hxs⟩
      · simp at h

/-- R149: no frame off the bus is less urgent than the youngest of a queue in order. -/
theorem urgency_le_of_takeYoungest {q rest : List TxEntry} {v : TxEntry}
    (hq : q.Pairwise (fun a b => a.urgency ≤ b.urgency)) (h : takeYoungest q = some (v, rest)) :
    ∀ e ∈ q, e.onBus = false → e.urgency ≤ v.urgency := by
  induction q generalizing rest with
  | nil => simp
  | cons x xs ih =>
    obtain ⟨hx, hxs⟩ := List.pairwise_cons.mp hq
    unfold takeYoungest at h
    split at h
    · rename_i v' rest' hy
      obtain ⟨rfl, -⟩ : v' = v ∧ x :: rest' = rest := by simpa using h
      have hv : v' ∈ xs := (takeYoungest_spec hy).1.mem_iff.mpr List.mem_cons_self
      exact List.forall_mem_cons.mpr ⟨fun _ => hx v' hv, ih hxs hy⟩
    · rename_i hy
      split at h
      · simp at h
      · obtain ⟨rfl, -⟩ : x = v ∧ xs = rest := by simpa using h
        refine List.forall_mem_cons.mpr ⟨fun _ => Nat.le_refl _, fun e he hb => ?_⟩
        rw [takeYoungest_eq_none hy e he] at hb
        exact Bool.noConfusion hb

/-- R145: only START and HOLD_STATE have urgency 0. -/
theorem TxEntry.isStart_or_isHoldState {e : TxEntry} (h : e.urgency = 0) :
    e.frame.kind = .start ∨ e.isHoldState = true := by
  unfold TxEntry.urgency OutFrame.urgency at h
  unfold TxEntry.isHoldState
  cases hk : e.frame.kind <;> simp [hk, kindUrgency] at h ⊢

/-- R149: a queue of three frames or more in order, without a HOLD_STATE, has a less urgent frame to discard. -/
theorem QueueInOrder.exists_less_urgent {q : List TxEntry} (h : QueueInOrder q)
    (hh : q.any TxEntry.isHoldState = false) (hl : 2 < q.length) : ∃ e ∈ q, e.onBus = false ∧ 0 < e.urgency := by
  by_contra hnone
  have hstart (e : TxEntry) (he : e ∈ q) (hb : e.onBus = false) : e.frame.kind = .start := by
    have hu : e.urgency = 0 := Nat.eq_zero_of_not_pos fun hu => hnone ⟨e, he, hb, hu⟩
    refine (TxEntry.isStart_or_isHoldState hu).resolve_right fun hhold => ?_
    exact Bool.noConfusion (hh.symm.trans (List.any_eq_true.mpr ⟨e, he, hhold⟩))
  have hoff : (q.filter (fun e => !e.onBus)).Sublist (q.filter (fun e => e.frame.kind == .start)) := by
    rw [show q.filter (fun e => !e.onBus) = (q.filter (fun e => e.frame.kind == .start)).filter (fun e => !e.onBus) by
      rw [List.filter_filter]
      refine List.filter_congr fun e he => ?_
      cases hb : e.onBus with
      | true => rfl
      | false => simp [hstart e he hb]]
    exact List.filter_sublist
  have hsum := List.length_eq_length_filter_add (l := q) TxEntry.onBus
  have h1 := hoff.length_le
  have h2 := h.oneStart
  have h3 := h.oneOnBus
  omega

theorem QueueInOrder.not_displaces {q : List TxEntry} (h : QueueInOrder q) {e : TxEntry}
    (he : e.isHoldState = true) : ¬Displaces q e := by
  rintro ⟨hrep, hfull, hyoungest⟩
  have hh : q.any TxEntry.isHoldState = false := Bool.eq_false_iff.mpr fun hq => hrep ⟨he, hq⟩
  have hcap : Config.transmitCapacity = 16 := rfl
  obtain ⟨x, hx, hb, hu⟩ := h.exists_less_urgent hh (by omega)
  have he0 : e.urgency = 0 := by
    unfold TxEntry.urgency OutFrame.urgency
    rw [beq_iff_eq.mp he]
    rfl
  cases hy : takeYoungest q with
  | none => exact Bool.noConfusion (hb.symm.trans (takeYoungest_eq_none hy x hx))
  | some r =>
    have h1 := urgency_le_of_takeYoungest h.sorted hy x hx hb
    have h2 := hyoungest r.1 r.2 hy
    omega

/-- R131, R147 to R149: a HOLD_STATE that is offered stands in the queue, or finds no place. -/
theorem exists_mem_enqueue_or_displaces (q : List TxEntry) (e : TxEntry) :
    (∃ x ∈ (enqueue e q).1, x.frame = e.frame) ∨ Displaces q e := by
  rcases enqueue_cases e q with ⟨-, hq, h⟩ | h | ⟨v, rest, -, -, h⟩ | ⟨hd, -⟩
  · rw [h]; exact .inl (exists_mem_replaceHoldState e.frame hq)
  · rw [h]; exact .inl ⟨e, (mem_insertByUrgency e e q).mpr (.inl rfl), rfl⟩
  · rw [h]; exact .inl ⟨e, (mem_insertByUrgency e e rest).mpr (.inl rfl), rfl⟩
  · exact .inr hd

end Sys2Proof.Machine
end

section
/-! SUPPORT. What the body of a command does to the hold unit and to the transmit queue: it leaves mask and period
timer, and acts on the queue by offers alone (`OnlyOffers`), none of them a START or a HOLD_STATE. One lemma for each
operation; an operation that reports nothing is passed by unfolding. -/

namespace Sys2Proof.Machine

/-! ### Offers -/

/-- The frame is neither START nor HOLD_STATE, which only node control and the hold unit offer. -/
def OutFrame.isOrdinary (f : OutFrame) : Bool := f.kind != .start && f.kind != .holdState

theorem OutFrame.kind_ne_of_isOrdinary {f : OutFrame} (h : f.isOrdinary = true) :
    f.kind ≠ .start ∧ f.kind ≠ .holdState := by
  simpa [OutFrame.isOrdinary] using h

/-- One queue comes from another by offers of ordinary frames. -/
def OffersTo : List TxEntry → List TxEntry → Prop :=
  Relation.ReflTransGen fun q q' => ∃ f o, f.isOrdinary = true ∧ q' = (enqueue (.offered f o) q).1

theorem OffersTo.queueInOrder {q q' : List TxEntry} (h : OffersTo q q') (hq : QueueInOrder q) :
    QueueInOrder q' := by
  induction h with
  | refl => exact hq
  | tail _ hstep ih =>
    obtain ⟨f, o, hf, rfl⟩ := hstep
    exact ih.enqueue (OutFrame.kind_ne_of_isOrdinary hf).1 rfl

/-- Ordinary offers leave a HOLD_STATE where it is. -/
theorem OffersTo.mem_of_urgent {q q' : List TxEntry} (h : OffersTo q q') {x : TxEntry} (hx : x ∈ q)
    (hu : x.urgency = 0) : x ∈ q' := by
  induction h with
  | refl => exact hx
  | tail _ hstep ih =>
    obtain ⟨f, o, hf, rfl⟩ := hstep
    exact mem_enqueue_of_urgent ih hu (beq_eq_false_iff_ne.mpr (OutFrame.kind_ne_of_isOrdinary hf).2)

/-- From `s` the body of a command has come to `u`: the node state, the hold mask and its period timer stand as they
stood, and so does the port, but for offers to its queue. -/
def OnlyOffers (s u : State) : Prop :=
  u.nodeState = s.nodeState ∧ u.holdMask = s.holdMask ∧ u.periodTimer = s.periodTimer
    ∧ u.port = { s.port with queue := u.port.queue } ∧ OffersTo s.port.queue u.port.queue

theorem OnlyOffers.refl (s : State) : OnlyOffers s s := ⟨rfl, rfl, rfl, rfl, .refl⟩

namespace OnlyOffers
variable {s u : State}

/-! ### Reports (sections 5.5 to 5.7, 8.5, 9.3) -/

theorem setQueue_enqueue (h : OnlyOffers s u) {f : OutFrame} (hf : f.isOrdinary = true) (o : Option Nat) :
    OnlyOffers s (u.setQueue (enqueue (.offered f o) u.port.queue).1) := by
  obtain ⟨hn, hm, hp, hport, hq⟩ := h
  refine ⟨hn, hm, hp, ?_, hq.tail ⟨f, o, hf, rfl⟩⟩
  rw [State.port_setQueue, hport]

theorem captureAlarm (h : OnlyOffers s u) (inc : Incident) : OnlyOffers s (u.captureAlarm inc) := by
  unfold State.captureAlarm
  split <;> exact h

theorem freeRecords (h : OnlyOffers s u) (is : List RecIx) : OnlyOffers s (u.freeRecords is) :=
  List.foldlRecOn _ _ h fun _ hv _ _ => hv

theorem offerReport (h : OnlyOffers s u) {f : OutFrame} (hf : f.isOrdinary = true) :
    OnlyOffers s (u.offerReport f) := by
  have hset := h.setQueue_enqueue hf none
  unfold State.offerReport
  split
  · unfold State.noteDiscard
    split
    · exact hset
    · exact hset.captureAlarm _
  · exact h

theorem raise (h : OnlyOffers s u) (inc : Incident) : OnlyOffers s (u.raise inc) := by
  unfold State.raise
  split
  · exact (h.captureAlarm inc).offerReport rfl
  · exact h.offerReport rfl

theorem resolve (h : OnlyOffers s u) (n : Nat) (o : HandoffOutcome) : OnlyOffers s (u.resolve n o) := by
  unfold State.resolve
  split <;> exact h

theorem refuseHandoff (h : OnlyOffers s u) (inc : Incident) : OnlyOffers s (u.refuseHandoff inc) :=
  raise (u := { u with faultLatch := true }) h inc

theorem lose (h : OnlyOffers s u) (n : Nat) : OnlyOffers s (u.lose n) := by
  unfold State.lose
  split
  · split
    · exact (h.refuseHandoff _).resolve n .lost
    · exact h
  · exact h

theorem secondAttempt (h : OnlyOffers s u) (n : Nat) : OnlyOffers s (u.secondAttempt n) := by
  unfold State.secondAttempt
  split
  · exact h
  · rename_i x _
    have hset : OnlyOffers s ((u.setStatus n (.pending .second none)).setQueue
        (enqueue (.offered (.handoff x.frame) (some n)) u.port.queue).1) :=
      setQueue_enqueue (u := u.setStatus n (.pending .second none)) h rfl (some n)
    split
    · rename_i heq
      rwa [heq] at hset
    · rename_i heq
      rw [heq] at hset
      split
      · exact hset.captureAlarm _
      · exact (hset.captureAlarm _).lose _

theorem attemptExpired (h : OnlyOffers s u) (n : Nat) : OnlyOffers s (u.attemptExpired n) := by
  unfold State.attemptExpired
  split
  · split
    · exact h.secondAttempt n
    · exact h.lose n
    · exact h
  · exact h

theorem offer (h : OnlyOffers s u) {f : OutFrame} (hf : f.isOrdinary = true) (o : Option Nat) :
    OnlyOffers s (u.offer f o) := by
  have hset := h.setQueue_enqueue hf o
  unfold State.offer
  split
  · split
    · rename_i heq
      rwa [heq] at hset
    · rename_i heq
      rw [heq] at hset
      split
      · exact hset.captureAlarm _
      · exact (hset.captureAlarm _).attemptExpired _
  · exact h

theorem allocate (h : OnlyOffers s u) {t : State} {i : RecIx} (ha : u.allocate = some (i, t)) :
    OnlyOffers s t := by
  obtain ⟨rest, -, rfl⟩ := State.allocate_eq_some_iff.mp ha
  exact h

/-! ### Point control (chapter 3) -/

theorem evaluateThrow (h : OnlyOffers s u) (k : SlotIx) : OnlyOffers s (u.evaluateThrow k) := by
  unfold State.evaluateThrow
  split
  · exact h
  · split <;> exact h

theorem lateThrow (h : OnlyOffers s u) (k : SlotIx) (r : RecIx) : OnlyOffers s (u.lateThrow k r) := by
  unfold State.lateThrow
  split <;> exact h

theorem failSlot (h : OnlyOffers s u) (k : SlotIx) (inc : Incident) : OnlyOffers s (u.failSlot k inc) :=
  raise (u := u.setSlot k (u.slot k).fail) h inc

theorem decideStray (h : OnlyOffers s u) (k : SlotIx) (r : RecIx) : OnlyOffers s (u.decideStray k r) := by
  unfold State.decideStray
  split_ifs
  · exact h
  · exact h
  · exact raise (u := u.addFlags r _) h _

theorem followDetection (h : OnlyOffers s u) (k : SlotIx) : OnlyOffers s (u.followDetection k) := by
  unfold State.followDetection
  dsimp only
  split
  · exact failSlot (u := u.setSlot k _) h k _
  · exact h

theorem throwDetection (h : OnlyOffers s u) (k : SlotIx) (t : Throw) : OnlyOffers s (u.throwDetection k t) := by
  unfold State.throwDetection
  split
  · exact evaluateThrow (u := u.setSlot k _) h k
  · exact h

theorem changeDetection (h : OnlyOffers s u) (k : SlotIx) (input : Leg) (b : Bool) :
    OnlyOffers s (u.changeDetection k input b) := by
  have hset : OnlyOffers s (u.setSlot k ((u.slot k).setInput input b)) := h
  unfold State.changeDetection
  dsimp only
  split
  · split
    · exact hset.throwDetection k _
    · exact hset.followDetection k
    · exact hset.followDetection k
    · exact hset.followDetection k
  · exact hset

theorem stopUnderCut (h : OnlyOffers s u) (k : SlotIx) : OnlyOffers s (u.stopUnderCut k) := by
  unfold State.stopUnderCut
  split
  · exact failSlot (u := u.setSlot k _) h k _
  all_goals exact h

theorem occupyFouling (h : OnlyOffers s u) (k : SlotIx) : OnlyOffers s (u.occupyFouling k) := by
  unfold State.occupyFouling
  dsimp only
  split
  · exact stopUnderCut (u := u.setSlot k _) h k
  · exact h

theorem throwExpired (h : OnlyOffers s u) (k : SlotIx) (t : Throw) : OnlyOffers s (u.throwExpired k t) := by
  unfold State.throwExpired
  split
  · exact failSlot (u := u.setSlot k _) h k _
  · exact h

theorem blockSlot (h : OnlyOffers s u) (k : SlotIx) : OnlyOffers s (u.blockSlot k).2 := by
  unfold State.blockSlot
  dsimp only
  split <;> exact h

theorem freeSlot (h : OnlyOffers s u) (k : SlotIx) : OnlyOffers s (u.freeSlot k).2 := by
  unfold State.freeSlot
  dsimp only
  split_ifs
  · exact h
  · exact evaluateThrow (u := u.setSlot k _) h k
  · exact h

/-! ### Queues and the receiver's rules (chapters 2 and 5) -/

theorem insertRecord (h : OnlyOffers s u) (k : SlotIx) (seq : Seq) (r : RecIx) :
    OnlyOffers s (u.insertRecord k seq r) := by
  unfold State.insertRecord
  dsimp only
  split
  · exact evaluateThrow (u := State.setSlot (u.setRecord r _) k _) h k
  · exact h

theorem consumeAnonymous (h : OnlyOffers s u) {k : SlotIx} {e : Seq} {c : Consumed}
    (hc : u.consumeAnonymous k e = some c) : OnlyOffers s c.state := by
  unfold State.consumeAnonymous at hc
  split at hc
  · exact absurd hc (by simp)
  · rename_i v hal
    obtain rfl := Option.some.inj hc
    have hleft := h.allocate hal
    exact raise (u := v.setSlot k _) hleft _

theorem consumeUnsynced (h : OnlyOffers s u) {k : SlotIx} {c : Consumed} (hc : u.consumeUnsynced k = some c) :
    OnlyOffers s c.state := by
  unfold State.consumeUnsynced at hc
  split at hc
  · exact absurd hc (by simp)
  · rename_i hal
    obtain rfl := Option.some.inj hc
    exact (h.allocate hal).raise _

theorem consume (h : OnlyOffers s u) {k : SlotIx} {c : Consumed} (hc : u.consume k = some c) :
    OnlyOffers s c.state := by
  unfold State.consume at hc
  split at hc
  · exact h.consumeUnsynced hc
  · split at hc
    · exact h.consumeAnonymous hc
    · split at hc
      · obtain rfl := Option.some.inj hc
        exact h
      · exact h.consumeAnonymous hc

theorem absorbHead (h : OnlyOffers s u) (k : SlotIx) (e : Seq) (r : RecIx) (rest : List RecIx) :
    OnlyOffers s (u.absorbHead k e r rest) :=
  evaluateThrow (u := State.freeRecord (u.setSlot k _) r) h k

theorem emptyQueue (h : OnlyOffers s u) (k : SlotIx) : OnlyOffers s (u.emptyQueue k) := by
  have hfreed : OnlyOffers s ((u.setSlot k { u.slot k with expected := none, queue := [], recent := [] }).freeRecords
      (u.slot k).queue) := freeRecords (u := u.setSlot k _) h _
  unfold State.emptyQueue
  dsimp only
  split
  · exact hfreed
  · exact hfreed.evaluateThrow k

theorem expireOverdue (h : OnlyOffers s u) (k : SlotIx) (seq : Seq) : OnlyOffers s (u.expireOverdue k seq) := by
  unfold State.expireOverdue
  split
  · split
    · exact h
    · split
      · exact h
      · split
        · exact h
        · exact raise (u := State.setRecord (u.reach _) _ _) h _
  · exact h

theorem takeAnnounced (h : OnlyOffers s u) (k : SlotIx) (a : Announcement) :
    OnlyOffers s (u.takeAnnounced k a).1 := by
  unfold State.takeAnnounced
  split
  · exact h.insertRecord k _ _
  · split
    · exact h
    · rename_i v hal
      have hleft := h.allocate hal
      exact insertRecord (u := v.setRecord _ _) hleft k _ _

theorem divertAdopted (h : OnlyOffers s u) (k : SlotIx) (p : Passage) : OnlyOffers s (u.divertAdopted k p) := by
  unfold State.divertAdopted
  split <;> exact h

theorem adopt (h : OnlyOffers s u) (k : SlotIx) (i : Nat) (p : Passage) (a : Announcement) :
    OnlyOffers s (u.adopt k i p a) := by
  have hwritten : OnlyOffers s (u.writeAdoption k i p a) := h
  exact ((hwritten.decideStray k p.record).divertAdopted k p).raise _

theorem refuseLate (h : OnlyOffers s u) (k : SlotIx) (a : Announcement) : OnlyOffers s (u.refuseLate k a).1 :=
  h.raise _

theorem receiveAnonymous (h : OnlyOffers s u) (k : SlotIx) (a : Announcement) :
    OnlyOffers s (u.receiveAnonymous k a).1 := by
  unfold State.receiveAnonymous
  split
  · exact h.refuseLate k a
  · split
    · exact h.refuseLate k a
    · split
      · exact h.refuseLate k a
      · exact h.adopt k _ _ a

theorem receiveBehind (h : OnlyOffers s u) (k : SlotIx) (a : Announcement) :
    OnlyOffers s (u.receiveBehind k a).1 := by
  unfold State.receiveBehind
  split
  · exact h.refuseLate k a
  · split
    · split
      · exact h
      · exact h.refuseLate k a
    · exact h.receiveAnonymous k a

theorem receiveAhead (h : OnlyOffers s u) (k : SlotIx) (a : Announcement) :
    OnlyOffers s (u.receiveAhead k a).1 := by
  unfold State.receiveAhead
  split_ifs
  · exact h
  · exact h
  · exact h.takeAnnounced k a

theorem receive (h : OnlyOffers s u) (k : SlotIx) (a : Announcement) : OnlyOffers s (u.receive k a).1 := by
  unfold State.receive
  split
  · exact h
  · split
    · exact h
    · split
      · exact h.takeAnnounced k a
      · split
        · exact h.receiveAhead k a
        · exact h.receiveBehind k a

/-! ### Sending and the wait list (chapter 5) -/

theorem setHandoff (h : OnlyOffers s u) (k : SlotIx) (i : Nat) (x : PassageHandoff) :
    OnlyOffers s (u.setHandoff k i x) := by
  unfold State.setHandoff
  split <;> exact h

theorem sendHandoff (h : OnlyOffers s u) (k : SlotIx) (i : Nat) (f : HandoffFrame) :
    OnlyOffers s (u.sendHandoff k i f) := by
  have hset := h.setHandoff k i (.sent u.nextHandoff)
  unfold State.sendHandoff
  dsimp only
  exact offer (f := .handoff f) (by exact hset) rfl _

theorem localOutcome (h : OnlyOffers s u) (k : SlotIx) (r : RecIx) (target : Nat) (seq : Seq)
    (result : HandoffResult) : OnlyOffers s (u.localOutcome k r target seq result) := by
  unfold State.localOutcome
  split
  · exact h.refuseHandoff _
  · exact h

theorem receiveLocal (h : OnlyOffers s u) (target : Nat) (a : Announcement) :
    OnlyOffers s (u.receiveLocal target a).1 := by
  unfold State.receiveLocal
  split
  · exact h
  · exact h.receive _ a

theorem handOffLocally (h : OnlyOffers s u) (k : SlotIx) (i : Nat) (r : RecIx) (target : Nat)
    (a : Announcement) : OnlyOffers s (u.handOffLocally k i r target a) :=
  ((h.receiveLocal target a).setHandoff k i _).localOutcome k r target a.seq _

theorem beginHandoff (h : OnlyOffers s u) (k : SlotIx) (i : Nat) (p : Passage) (leg : Leg) :
    OnlyOffers s (u.beginHandoff k i p leg) := by
  have hfeed : OnlyOffers s (u.setSlot k ((u.slot k).advanceFeed leg)) := h
  unfold State.beginHandoff
  dsimp only
  split
  · exact h
  · split
    · exact hfeed.handOffLocally k i _ _ _
    · exact hfeed.sendHandoff k i _

theorem joinWaitList (h : OnlyOffers s u) (r : RecIx) (n : Nat) : OnlyOffers s (u.joinWaitList r n) := by
  have hroom : OnlyOffers s u.makeRoom := by
    unfold State.makeRoom
    split
    · exact h
    · split
      · exact h
      · exact h.lose _
  exact hroom

theorem expireReply (h : OnlyOffers s u) (n : Nat) : OnlyOffers s (u.expireReply n) := by
  unfold State.expireReply
  split
  · exact h
  · split
    · exact secondAttempt (u := u.reach _) h n
    · exact lose (u := u.reach _) h n
    · exact h
    · exact h

/-! ### The crest unit (chapter 6) -/

theorem noteOverrun (h : OnlyOffers s u) (r : RecIx) (listEmpty : Bool) :
    OnlyOffers s (u.noteOverrun r listEmpty) := by
  unfold State.noteOverrun
  split
  · exact raise (u := u.addFlags r _) h _
  · exact h

theorem offerRelease (h : OnlyOffers s u) (r : RecIx) (seq : Seq) : OnlyOffers s (u.offerRelease r seq).1 := by
  have hreceived := h.receive 0 (crestAnnouncement r seq (u.record r))
  unfold State.offerRelease
  dsimp only
  split
  · exact hreceived.refuseHandoff _
  · exact hreceived

theorem endRelease (h : OnlyOffers s u) (r : RecIx) (x : Receipt) : OnlyOffers s (u.endRelease r x) := by
  cases x <;> exact h

theorem sendRelease (h : OnlyOffers s u) (r : RecIx) : OnlyOffers s (u.sendRelease r) := by
  have hnumbered : OnlyOffers s (u.numberRelease r) := h
  exact ((hnumbered.offerRelease r u.releaseCounter).offer rfl none).endRelease r _

theorem releaseCut (h : OnlyOffers s u) (r : RecIx) (rest : List RecIx) : OnlyOffers s (u.releaseCut r rest) := by
  have htranslated : OnlyOffers s (State.setRecord { u with cutList := rest } r (u.translate (u.record r))) := h
  exact sendRelease (u := State.setRecord _ r _) (htranslated.noteOverrun r false) r

theorem crestAxle (h : OnlyOffers s u) : OnlyOffers s u.crestAxle := by
  unfold State.crestAxle
  split
  · unfold State.countCrestAxle
    split <;> exact h
  · split
    · unfold State.releaseAnonymous
      split
      · exact h
      · rename_i hal
        exact ((h.allocate hal).noteOverrun _ true).sendRelease _
    · exact h.releaseCut _ _

/-! ### Passages (chapter 4) -/

theorem censusAxle (h : OnlyOffers s u) (k : SlotIx) (x : Sensor) (d : Direction) :
    OnlyOffers s (u.censusAxle k x d) := by
  unfold State.censusAxle
  split
  · exact h.raise _
  · exact h

theorem strayAxle (h : OnlyOffers s u) (k : SlotIx) (x : Sensor) (d : Direction) :
    OnlyOffers s (u.strayAxle k x d) := h.raise _

theorem setPassage (h : OnlyOffers s u) (k : SlotIx) (i : Nat) (p : Passage) :
    OnlyOffers s (u.setPassage k i p) := h

theorem addFlags (h : OnlyOffers s u) (r : RecIx) (f : Flags) : OnlyOffers s (u.addFlags r f) := h

theorem decideDivert (h : OnlyOffers s u) (k : SlotIx) (intended : Option Leg) (r : RecIx) :
    OnlyOffers s (u.decideDivert k intended r) := by
  unfold State.decideDivert
  split
  · exact h
  · split_ifs
    · exact h
    · exact (h.addFlags r _).raise _
    · exact h

theorem openPassage (h : OnlyOffers s u) (k : SlotIx) (r : RecIx) (consumed : Option Seq) :
    OnlyOffers s (u.openPassage k r consumed) :=
  evaluateThrow (u := State.setSlot _ k _) (((h.lateThrow k r).decideStray k r).decideDivert k _ r) k

theorem beginPassage (h : OnlyOffers s u) (k : SlotIx) : OnlyOffers s (u.beginPassage k) := by
  unfold State.beginPassage
  split
  · exact h
  · rename_i hc
    exact (h.consume hc).openPassage k _ _

theorem countCommitAxle (h : OnlyOffers s u) (k : SlotIx) (i : Nat) (p : Passage) :
    OnlyOffers s (u.countCommitAxle k i p) := by
  unfold State.countCommitAxle
  split
  · exact h.strayAxle k _ _
  · exact h

theorem countExcessAxle (h : OnlyOffers s u) (k : SlotIx) (i : Nat) (p : Passage) :
    OnlyOffers s (u.countExcessAxle k i p) := by
  unfold State.countExcessAxle
  dsimp only
  split_ifs
  · exact h.strayAxle k _ _
  · exact h
  · exact ((h.setPassage k i _).addFlags p.record _).raise _

theorem commitForward (h : OnlyOffers s u) (k : SlotIx) : OnlyOffers s (u.commitForward k) := by
  unfold State.commitForward
  split
  · exact h.beginPassage k
  · split_ifs
    · exact h.countExcessAxle k _ _
    · exact h.beginPassage k
    · exact h.countCommitAxle k _ _

theorem noteRollback (h : OnlyOffers s u) (k : SlotIx) (p : Passage) (x : Sensor) :
    OnlyOffers s (u.noteRollback k p x) := by
  unfold State.noteRollback
  dsimp only
  split
  · exact h
  · exact (h.addFlags p.record _).raise _

theorem commitBackward (h : OnlyOffers s u) (k : SlotIx) : OnlyOffers s (u.commitBackward k) := by
  unfold State.commitBackward
  split
  · exact h.strayAxle k _ _
  · split
    · exact (h.setPassage k _ _).noteRollback k _ _
    · exact h.strayAxle k _ _

theorem checkWatch (h : OnlyOffers s u) (k : SlotIx) (leg : Leg) (tag : Tag) :
    OnlyOffers s (u.checkWatch k leg tag) := by
  unfold State.checkWatch
  split
  · exact offer (u := { u with watches := u.watches.erase tag }) h rfl none
  · exact h

theorem reportArrival (h : OnlyOffers s u) (k : SlotIx) (leg : Leg) (r : Record) :
    OnlyOffers s (u.reportArrival k leg r) := by
  unfold State.reportArrival
  split
  · exact h.offer rfl none
  · exact h

theorem reportEnd (h : OnlyOffers s u) (k : SlotIx) (p : Passage) : OnlyOffers s (u.reportEnd k p) := by
  unfold State.reportEnd
  split
  · exact h
  · rename_i leg _
    have harrived := h.reportArrival k leg (u.record p.record)
    unfold State.checkWatches
    split
    · exact harrived.checkWatch k _ _
    · exact (harrived.checkWatch k _ _).checkWatch k _ _

theorem placeRecord (h : OnlyOffers s u) (r : RecIx) (x : PassageHandoff) : OnlyOffers s (u.placeRecord r x) := by
  unfold State.placeRecord
  split
  · exact h
  · exact h
  · split
    · exact h.joinWaitList r _
    · exact h

theorem endPassage (h : OnlyOffers s u) (k : SlotIx) (i : Nat) : OnlyOffers s (u.endPassage k i) := by
  unfold State.endPassage
  split
  · exact h
  · rename_i p _
    have hplaced := (h.reportEnd k p).placeRecord p.record p.handoff
    dsimp only
    split
    · exact evaluateThrow (u := State.setSlot _ k _) hplaced k
    · exact hplaced

theorem checkEnds (k : SlotIx) (n : Nat) (h : OnlyOffers s u) : OnlyOffers s (State.checkEnds k n u) := by
  induction n generalizing u with
  | zero => exact h
  | succ n ih =>
    unfold State.checkEnds
    split
    · exact h
    · split
      · exact ih (h.endPassage k 0)
      · exact h

theorem checkEnd (h : OnlyOffers s u) (k : SlotIx) : OnlyOffers s (u.checkEnd k) := checkEnds k _ h

theorem exitEffects (h : OnlyOffers s u) (k : SlotIx) (i : Nat) (p : Passage) (leg : Leg) :
    OnlyOffers s (u.exitEffects k i p leg) := by
  unfold State.exitEffects
  split
  · unfold State.checkLeg
    split
    · exact (h.failSlot k _).beginHandoff k i p leg
    · exact h.beginHandoff k i p leg
  · unfold State.checkSplit
    split
    · exact h.failSlot k _
    · exact h

theorem exitForward (h : OnlyOffers s u) (k : SlotIx) (leg : Leg) : OnlyOffers s (u.exitForward k leg) := by
  unfold State.exitForward
  split
  · exact h.strayAxle k _ _
  · split
    · exact h
    · exact ((h.setPassage k _ _).exitEffects k _ _ leg).checkEnd k

theorem exitBackward (h : OnlyOffers s u) (k : SlotIx) (leg : Leg) : OnlyOffers s (u.exitBackward k leg) := by
  unfold State.exitBackward
  split
  · exact h.strayAxle k _ _
  · split
    · exact h
    · exact ((h.setPassage k _ _).noteRollback k _ _).checkEnd k

theorem judgeShort (h : OnlyOffers s u) (k : SlotIx) (p : Passage) : OnlyOffers s (u.judgeShort k p) := by
  unfold State.judgeShort
  split
  · exact h
  · exact (h.addFlags p.record _).raise _

theorem merge (h : OnlyOffers s u) (k : SlotIx) (i : Nat) (p : Passage) (e : Seq) (r : RecIx)
    (rest : List RecIx) : OnlyOffers s (u.merge k i p e r rest) :=
  raise (u := State.setPassage (State.setRecord _ _ _) k i _) (h.absorbHead k e r rest) _

theorem recogniseMerge (h : OnlyOffers s u) (k : SlotIx) (i : Nat) (p : Passage) :
    OnlyOffers s (u.recogniseMerge k i p) := by
  have hlong (inc : Incident) := (h.addFlags p.record { long := true }).raise inc
  unfold State.recogniseMerge
  split
  · split
    · exact h.merge k i p _ _ _
    · exact hlong _
  · exact hlong _
  · exact hlong _

theorem gapExpired (h : OnlyOffers s u) (k : SlotIx) (i : Nat) (p : Passage) :
    OnlyOffers s (u.gapExpired k i p) := by
  unfold State.gapExpired
  split
  · exact h
  · split
    · exact h
    · exact ((h.setPassage k i _).judgeShort k _).checkEnd k
  · split
    · exact (h.setPassage k i _).checkEnd k
    · exact ((h.setPassage k i _).recogniseMerge k i _).checkEnd k

theorem expireGap (h : OnlyOffers s u) (k : SlotIx) (i : Nat) : OnlyOffers s (u.expireGap k i) := by
  unfold State.expireGap
  split
  · exact h
  · split
    · exact gapExpired (u := u.reach _) h k i _
    · exact h

theorem expireStall (h : OnlyOffers s u) (k : SlotIx) (i : Nat) : OnlyOffers s (u.expireStall k i) := by
  unfold State.expireStall
  split
  · exact h
  · split
    · exact h
    · exact raise (u := State.setPassage (u.reach _) k i _) h _

theorem expireGhost (h : OnlyOffers s u) (k : SlotIx) : OnlyOffers s (u.expireGhost k) := by
  unfold State.expireGhost
  dsimp only
  split
  · exact h
  · split
    · exact h
    · exact raise (u := State.setSlot (u.reach _) k _) h _

theorem reconcileOne (h : OnlyOffers s u) (k : SlotIx) (i : Nat) : OnlyOffers s (u.reconcileOne k i) := by
  unfold State.reconcileOne
  split
  · exact h
  · exact (((h.addFlags _ _).raise _).endPassage k i).checkEnd k

theorem reconcileAll (k : SlotIx) (n : Nat) (h : OnlyOffers s u) : OnlyOffers s (State.reconcileAll k n u) := by
  induction n generalizing u with
  | zero => exact h
  | succ n ih =>
    unfold State.reconcileAll
    split
    · exact h
    · exact ih (h.reconcileOne k _)

theorem endSettling (h : OnlyOffers s u) (k : SlotIx) : OnlyOffers s (u.endSettling k) := by
  unfold State.endSettling
  split <;> exact h

theorem clearFouling (h : OnlyOffers s u) (k : SlotIx) : OnlyOffers s (u.clearFouling k) := by
  have hclear : OnlyOffers s (u.setSlot k { u.slot k with foulingOccupied := false }) := h
  unfold State.clearFouling
  dsimp only
  split
  · exact ((reconcileAll k _ hclear).endSettling k).evaluateThrow k
  · exact hclear

theorem flushZone (h : OnlyOffers s u) (k : SlotIx) : OnlyOffers s (u.flushZone k) := by
  refine evaluateThrow (freeRecords (List.foldlRecOn _ _ (by exact h) fun v hv p _ => ?_) _) k
  unfold Passage.discard
  split <;> exact hv

theorem flushSlot (h : OnlyOffers s u) (k : SlotIx) : OnlyOffers s (u.flushSlot k).2 := by
  have hempty := h.emptyQueue k
  unfold State.flushSlot
  dsimp only
  split
  · exact hempty
  · exact hempty.flushZone k

/-! ### Frames heard (chapters 5 to 9) -/

theorem refreshRoster (h : OnlyOffers s u) (origin : Nat) : OnlyOffers s (u.refreshRoster origin) := by
  unfold State.refreshRoster
  split <;> exact h

/-- A frame that is heard acts as what it means acts. -/
theorem hear (h : OnlyOffers s u) (origin : Station) {act : State → State}
    (hact : ∀ x, OnlyOffers s x → OnlyOffers s (act x)) : OnlyOffers s (u.hear origin act) := by
  have hfresh := h.refreshRoster origin.toNat
  unfold State.hear
  split_ifs
  · exact hfresh
  · exact hact _ hfresh
  · exact h

theorem hearTarget (h : OnlyOffers s u) (origin : Station) (target : Byte) {act : State → State}
    (hact : ∀ x, OnlyOffers s x → OnlyOffers s (act x)) : OnlyOffers s (u.hearTarget origin target act) := by
  refine h.hear origin fun x hx => ?_
  split
  · exact hact x hx
  · exact hx

theorem hearYard (h : OnlyOffers s u) (origin : Station) (target : Byte) {act : State → State}
    (hact : ∀ x, OnlyOffers s x → OnlyOffers s (act x)) : OnlyOffers s (u.hearYard origin target act) := by
  refine h.hearTarget origin target fun x hx => ?_
  split
  · exact hact x hx
  · exact hx

/-- A command of the yard computer offers its one reply beside what it does. -/
theorem hearCommand (h : OnlyOffers s u) (origin : Station) (target : Byte) (kind : FrameKind)
    (argument : BitVec 16) {act : State → CommandResult × State}
    (hact : ∀ x, OnlyOffers s x → OnlyOffers s (act x).2) :
    OnlyOffers s (u.hearYard origin target (fun x => answer kind argument (act x))) :=
  h.hearYard origin target fun x hx => (hact x hx).offer rfl none

theorem hearCrestCommand (h : OnlyOffers s u) (origin : Station) (target : Byte) (kind : FrameKind)
    (argument : BitVec 16) {act : State → CommandResult × State}
    (hact : ∀ x, OnlyOffers s x → OnlyOffers s (act x).2) :
    OnlyOffers s (u.hearYard origin target (fun x => answer kind argument (crestOnly x act))) := by
  refine h.hearCommand origin target kind argument fun x hx => ?_
  unfold crestOnly
  split
  · exact hact x hx
  · exact hx

theorem hearSlotCommand (h : OnlyOffers s u) (origin : Station) (target slot : Byte)
    (kind : FrameKind) {act : State → SlotIx → CommandResult × State}
    (hact : ∀ x k, OnlyOffers s x → OnlyOffers s (act x k).2) :
    OnlyOffers s (u.hearYard origin target (fun x => answer kind (byteArgument slot) (slotArgument x slot act))) := by
  refine h.hearCommand origin target kind _ fun x hx => ?_
  unfold slotArgument
  split
  · exact hx
  · split
    · exact hx
    · exact hact x _ hx

theorem enterCut (h : OnlyOffers s u) (p : CutEntryPayload) : OnlyOffers s (u.enterCut p).2 := by
  have happend : OnlyOffers s (u.appendEntry p) := by
    unfold State.appendEntry
    split
    · exact h
    · rename_i hal
      have hleft := h.allocate hal
      exact hleft
  unfold State.enterCut
  split_ifs
  iterate 6 exact h
  exact happend

theorem withdrawCut (h : OnlyOffers s u) (tag : Tag) : OnlyOffers s (u.withdrawCut tag).2 := by
  unfold State.withdrawCut
  split
  · exact h
  · split
    · exact h
    · split <;> exact h

theorem clearCuts (h : OnlyOffers s u) : OnlyOffers s u.clearCuts.2 :=
  freeRecords (u := { u with cutList := [] }) h u.cutList

theorem releaseHead (h : OnlyOffers s u) (tag : Tag) : OnlyOffers s (u.releaseHead tag).2 := by
  unfold State.releaseHead
  split
  · exact h
  · split <;> exact h

theorem closeTrack (h : OnlyOffers s u) (track substitute : Nat) :
    OnlyOffers s (u.closeTrack track substitute).2 := by
  unfold State.closeTrack
  split_ifs <;> exact h

theorem openTrack (h : OnlyOffers s u) (track : Nat) : OnlyOffers s (u.openTrack track).2 := by
  unfold State.openTrack
  split_ifs <;> exact h

theorem acknowledge (h : OnlyOffers s u) (station : Nat) : OnlyOffers s (u.acknowledge station).2 := by
  unfold State.acknowledge
  split
  · exact h
  · split <;> exact h

theorem setWatch (h : OnlyOffers s u) (tag : Tag) : OnlyOffers s (u.setWatch tag).2 := by
  unfold State.setWatch
  split_ifs <;> exact h

theorem clearWatch (h : OnlyOffers s u) (tag : Tag) : OnlyOffers s (u.clearWatch tag).2 := by
  unfold State.clearWatch
  split <;> exact h

theorem takeCutEntry (h : OnlyOffers s u) (origin : Station) (p : CutEntryPayload) :
    OnlyOffers s (u.takeCutEntry origin p) :=
  h.hearCrestCommand origin p.target _ _ fun _ hx => hx.enterCut p

theorem takeEntryWithdraw (h : OnlyOffers s u) (origin : Station) (target : Byte) (tag : Tag) :
    OnlyOffers s (u.takeEntryWithdraw origin target tag) :=
  h.hearCrestCommand origin target _ _ fun _ hx => hx.withdrawCut tag

theorem takeListClear (h : OnlyOffers s u) (origin : Station) (target : Byte) :
    OnlyOffers s (u.takeListClear origin target) :=
  h.hearCrestCommand origin target _ _ fun _ hx => hx.clearCuts

theorem takeReleaseOne (h : OnlyOffers s u) (origin : Station) (target : Byte) (tag : Tag) :
    OnlyOffers s (u.takeReleaseOne origin target tag) :=
  h.hearCrestCommand origin target _ _ fun _ hx => hx.releaseHead tag

theorem takeTrackClose (h : OnlyOffers s u) (origin : Station) (target track substitute : Byte) :
    OnlyOffers s (u.takeTrackClose origin target track substitute) :=
  h.hearCrestCommand origin target _ _ fun _ hx => hx.closeTrack _ _

theorem takeTrackOpen (h : OnlyOffers s u) (origin : Station) (target track : Byte) :
    OnlyOffers s (u.takeTrackOpen origin target track) :=
  h.hearCrestCommand origin target _ _ fun _ hx => hx.openTrack _

theorem takeRestartAck (h : OnlyOffers s u) (origin : Station) (target station : Byte) :
    OnlyOffers s (u.takeRestartAck origin target station) :=
  h.hearCrestCommand origin target _ _ fun _ hx => hx.acknowledge _

theorem takeSlotBlock (h : OnlyOffers s u) (origin : Station) (target slot : Byte) :
    OnlyOffers s (u.takeSlotBlock origin target slot) :=
  h.hearSlotCommand origin target slot _ fun _ k hx => hx.blockSlot k

theorem takeSlotFree (h : OnlyOffers s u) (origin : Station) (target slot : Byte) :
    OnlyOffers s (u.takeSlotFree origin target slot) :=
  h.hearSlotCommand origin target slot _ fun _ k hx => hx.freeSlot k

theorem takeSlotFlush (h : OnlyOffers s u) (origin : Station) (target slot : Byte) :
    OnlyOffers s (u.takeSlotFlush origin target slot) :=
  h.hearSlotCommand origin target slot _ fun _ k hx => hx.flushSlot k

theorem takeIncidentClear (h : OnlyOffers s u) (origin : Station) (target : Byte) :
    OnlyOffers s (u.takeIncidentClear origin target) :=
  h.hearCommand origin target _ _ fun _ hx => hx

theorem takeWatchSet (h : OnlyOffers s u) (origin : Station) (target : Byte) (tag : Tag) :
    OnlyOffers s (u.takeWatchSet origin target tag) :=
  h.hearCommand origin target _ _ fun _ hx => hx.setWatch tag

theorem takeWatchClear (h : OnlyOffers s u) (origin : Station) (target : Byte) (tag : Tag) :
    OnlyOffers s (u.takeWatchClear origin target tag) :=
  h.hearCommand origin target _ _ fun _ hx => hx.clearWatch tag

theorem takeStatusQuery (h : OnlyOffers s u) (origin : Station) (target : Byte) :
    OnlyOffers s (u.takeStatusQuery origin target) :=
  h.hearYard origin target fun _ hx => hx.offer rfl none

theorem startSlot (h : OnlyOffers s u) (origin : Nat) (k : SlotIx) : OnlyOffers s (u.startSlot origin k) := by
  unfold State.startSlot
  split
  · exact h.emptyQueue k
  · exact h

theorem requeue (h : OnlyOffers s u) (x : Handoff) : OnlyOffers s (u.requeue x) := by
  unfold State.requeue
  dsimp only
  split_ifs
  · exact h
  · exact h
  · exact offer (u := u.setStatus _ _) h rfl _

theorem takeStart (h : OnlyOffers s u) (origin : Station) : OnlyOffers s (u.takeStart origin) := by
  refine h.hear origin fun x hx => ?_
  have hroster : OnlyOffers s { x with roster := (u.rosterStart origin.toNat).roster } := hx
  have hslots := (((hroster.startSlot origin.toNat 0).startSlot origin.toNat 1).startSlot origin.toNat 2).startSlot
    origin.toNat 3
  exact List.foldlRecOn _ _ hslots fun v hv y _ => hv.requeue y

theorem takeHoldState (h : OnlyOffers s u) (origin : Station) (mask : Byte) :
    OnlyOffers s (u.takeHoldState origin mask) := by
  refine h.hear origin fun x hx => ?_
  unfold State.rosterMask
  split <;> exact hx

theorem takeHandoff (h : OnlyOffers s u) (origin : Station) (p : HandoffPayload) :
    OnlyOffers s (u.takeHandoff origin p) := by
  refine h.hearTarget origin p.target fun x hx => offer ?_ rfl none
  unfold State.receiveFrame
  split
  · exact hx
  · split
    · exact hx.receive _ _
    · exact hx

theorem takeResult (h : OnlyOffers s u) (x : Handoff) (r : HandoffResult) : OnlyOffers s (u.takeResult x r) := by
  unfold State.takeResult
  split
  · exact (h.refuseHandoff _).resolve _ _
  · exact h.resolve _ _

theorem takeHandoffReply (h : OnlyOffers s u) (origin : Station) (p : ReplyPayload) :
    OnlyOffers s (u.takeHandoffReply origin p) := by
  refine h.hearTarget origin p.target fun x hx => ?_
  unfold State.matchReply
  split
  · exact hx
  · split
    · exact hx
    · exact hx.takeResult _ _

theorem takeNothing (h : OnlyOffers s u) (origin : Station) : OnlyOffers s (u.takeNothing origin) :=
  h.hear origin fun _ hx => hx

theorem takeFrame (h : OnlyOffers s u) (f : RawFrame) : OnlyOffers s (takeFrame f u) := by
  unfold Machine.takeFrame
  split
  · exact h.takeStart _
  · exact h.takeHoldState _ _
  · exact h.takeHandoff _ _
  · exact h.takeHandoffReply _ _
  · exact h.takeCutEntry _ _
  · exact h.takeEntryWithdraw _ _ _
  · exact h.takeListClear _ _
  · exact h.takeTrackClose _ _ _ _
  · exact h.takeTrackOpen _ _ _
  · exact h.takeReleaseOne _ _ _
  · exact h.takeRestartAck _ _ _
  · exact h.takeSlotBlock _ _ _
  · exact h.takeSlotFree _ _ _
  · exact h.takeSlotFlush _ _ _
  · exact h.takeIncidentClear _ _
  · exact h.takeWatchSet _ _ _
  · exact h.takeWatchClear _ _ _
  · exact h.takeStatusQuery _ _
  · exact h.takeNothing _

/-! ### The roster and the owners of frames (sections 5.5, 7.3, 8.6) -/

theorem expireSilence (h : OnlyOffers s u) (station : Nat) : OnlyOffers s (u.expireSilence station) := by
  unfold State.expireSilence
  split
  · exact h
  · split <;> exact h

theorem startReplyTimer (h : OnlyOffers s u) (n : Nat) : OnlyOffers s (u.startReplyTimer n) := by
  unfold State.startReplyTimer
  split
  · exact h
  · split <;> exact h

theorem tellSent (h : OnlyOffers s u) (f : OutFrame) (owner : Option Nat) : OnlyOffers s (u.tellSent f owner) := by
  cases f with
  | handoff x =>
    cases owner with
    | none => exact h
    | some n => exact h.startReplyTimer n
  | _ => exact h

end OnlyOffers

end Sys2Proof.Machine
end

section
/-! SUPPORT. The hold mask after an event (R127, R128, R131). Its HOLD_STATE stands in the queue, or has been displaced
by a full one, and then the capture is frozen; in both cases forming the mask a second time finds it final, so the
mask of `State.settle` is the one its conditions give. -/

namespace Sys2Proof.Machine

/-! ### The offer of a HOLD_STATE -/

/-- R147 to R149: in service an offer first acts on the queue, and what a discard causes offers ordinary frames. -/
theorem State.onlyOffers_offer {s : State} (hs : s.serving = true) (f : OutFrame) (o : Option Nat) :
    OnlyOffers (s.setQueue (enqueue (.offered f o) s.port.queue).1) (s.offer f o) := by
  unfold State.offer
  rw [if_pos hs]
  split
  · rename_i heq
    rw [heq]
    exact .refl _
  · rename_i heq
    rw [heq]
    split
    · exact (OnlyOffers.refl _).captureAlarm _
    · exact ((OnlyOffers.refl _).captureAlarm _).attemptExpired _

/-- R131: a HOLD_STATE that finds a place stands in the queue after all that its offer causes. -/
theorem State.holdsFrame_offer_holdState {s : State} (hs : s.serving = true) {m : HoldMask} {n : NodeState}
    (h : ¬Displaces s.port.queue (.offered (.holdState m n) none)) :
    (s.offer (.holdState m n) none).holdsFrame (.holdState m n) := by
  obtain ⟨x, hx, hf⟩ := (exists_mem_enqueue_or_displaces _ _).resolve_right h
  obtain ⟨-, -, -, -, hq⟩ := State.onlyOffers_offer hs (.holdState m n) none
  have hu : x.urgency = 0 := by unfold TxEntry.urgency; rw [hf]; rfl
  exact List.mem_map.mpr ⟨x, hq.mem_of_urgent hx hu, hf⟩

theorem State.offer_holdState_of_displaces {s : State} (hs : s.serving = true) {m : HoldMask} {n : NodeState}
    (h : Displaces s.port.queue (.offered (.holdState m n) none)) :
    s.offer (.holdState m n) none = s.captureAlarm (overflowIncident (.offered (.holdState m n) none)) := by
  unfold State.offer
  rw [if_pos hs, enqueue_of_displaces h]
  rfl

theorem State.offer_holdState_of_any {s : State} (hs : s.serving = true) (m : HoldMask) (n : NodeState)
    (h : s.port.queue.any TxEntry.isHoldState = true) :
    s.offer (.holdState m n) none = s.setQueue (replaceHoldState (.holdState m n) s.port.queue) := by
  unfold State.offer
  rw [if_pos hs, enqueue_of_holdState rfl h]
  rfl

theorem State.any_isHoldState_of_holdsFrame {s : State} {m : HoldMask} {n : NodeState}
    (h : s.holdsFrame (.holdState m n)) : s.port.queue.any TxEntry.isHoldState = true := by
  obtain ⟨x, hx, hf⟩ := List.mem_map.mp h
  exact List.any_eq_true.mpr ⟨x, hx, by simp [TxEntry.isHoldState, hf, OutFrame.kind]⟩

/-! ### Forming the mask once -/

/-- The mask written from its conditions, with the period timer restarted (R128, R131), before its HOLD_STATE. -/
def State.remasked (s : State) : State :=
  { s with holdMask := s.formMask, periodTimer := some (s.time + Config.periodTime) }

@[simp] theorem State.formMask_remasked (s : State) : s.remasked.formMask = s.formMask :=
  State.formMask_congr rfl rfl rfl rfl rfl

theorem State.updateMask_of_formed {s : State} (h : s.formMask = s.holdMask) : s.updateMask = s := if_pos h

theorem State.updateMask_of_serving {s : State} (h : s.formMask ≠ s.holdMask) (hs : s.serving = true) :
    s.updateMask = s.remasked.offer (.holdState s.formMask s.nodeState) none :=
  (if_neg h).trans (if_pos hs)

theorem State.updateMask_of_not_serving {s : State} (h : s.formMask ≠ s.holdMask) (hs : s.serving ≠ true) :
    s.updateMask = { s with holdMask := s.formMask } :=
  (if_neg h).trans (if_neg hs)

@[simp] theorem State.holdMask_updateMask (s : State) : s.updateMask.holdMask = s.formMask := by
  by_cases hf : s.formMask = s.holdMask
  · rw [State.updateMask_of_formed hf, hf]
  · by_cases hs : s.serving = true
    · rw [State.updateMask_of_serving hf hs]
      obtain ⟨-, hm, -⟩ := State.onlyOffers_offer (s := s.remasked) hs (.holdState s.formMask s.nodeState) none
      exact hm
    · rw [State.updateMask_of_not_serving hf hs]

@[simp] theorem State.nodeState_updateMask (s : State) : s.updateMask.nodeState = s.nodeState :=
  (congrArg State.nodeState s.apartFromReports_updateMask :)

@[simp] theorem State.time_updateMask (s : State) : s.updateMask.time = s.time :=
  (congrArg State.time s.apartFromReports_updateMask :)

theorem State.serving_updateMask (s : State) : s.updateMask.serving = s.serving := by
  unfold State.serving; rw [State.nodeState_updateMask]

/-- R131: a changed mask restarts the period timer. -/
theorem State.periodTimer_updateMask {s : State} (h : s.formMask ≠ s.holdMask) (hs : s.serving = true) :
    s.updateMask.periodTimer = some (s.updateMask.time + 1000) := by
  rw [State.time_updateMask, State.updateMask_of_serving h hs]
  obtain ⟨-, -, hp, -⟩ := State.onlyOffers_offer (s := s.remasked) hs (.holdState s.formMask s.nodeState) none
  exact hp

/-- R131: a changed mask stands in a HOLD_STATE that has found its place. -/
theorem State.holdsFrame_updateMask {s : State} (h : s.formMask ≠ s.holdMask) (hs : s.serving = true)
    (hq : ¬Displaces s.port.queue (.offered (.holdState s.formMask s.nodeState) none)) :
    s.updateMask.holdsFrame (.holdState s.updateMask.holdMask .inService) := by
  rw [State.holdMask_updateMask, ← show s.nodeState = .inService from beq_iff_eq.mp hs,
    State.updateMask_of_serving h hs]
  exact State.holdsFrame_offer_holdState (s := s.remasked) hs hq

/-! ### Forming it again -/

/-- R148: while a HOLD_STATE stands in the queue, a changed mask discards nothing, so its conditions stay. -/
theorem State.formMask_updateMask_of_any {s : State} (h : s.port.queue.any TxEntry.isHoldState = true) :
    s.updateMask.formMask = s.formMask := by
  by_cases hf : s.formMask = s.holdMask
  · rw [State.updateMask_of_formed hf]
  · by_cases hs : s.serving = true
    · rw [State.updateMask_of_serving hf hs, State.offer_holdState_of_any (s := s.remasked) hs _ _ h]
      exact s.formMask_remasked
    · rw [State.updateMask_of_not_serving hf hs]
      exact State.formMask_congr rfl rfl rfl rfl rfl

theorem State.capture_captureAlarm_isSome (s : State) (inc : Incident) :
    (s.captureAlarm inc).capture.isSome = true := by
  unfold State.captureAlarm
  split
  · rfl
  · rename_i h; exact Option.isSome_of_eq_some h

/-- R154: an alarm that a frozen capture counts leaves the conditions of the mask. -/
theorem State.formMask_captureAlarm {s : State} (h : s.capture.isSome = true) (inc : Incident) :
    (s.captureAlarm inc).formMask = s.formMask := by
  obtain ⟨c, hc⟩ := Option.isSome_iff_exists.mp h
  unfold State.captureAlarm
  rw [hc]
  exact State.formMask_congr rfl rfl rfl hc.symm rfl

/-- R149: while a full queue without place for it displaces the HOLD_STATE and the capture is frozen, a changed mask
leaves its conditions. -/
theorem State.formMask_updateMask_of_displaces {s : State} (hs : s.serving = true) (hc : s.capture.isSome = true)
    (h : Displaces s.port.queue (.offered (.holdState s.formMask s.nodeState) none)) :
    s.updateMask.formMask = s.formMask := by
  by_cases hf : s.formMask = s.holdMask
  · rw [State.updateMask_of_formed hf]
  · rw [State.updateMask_of_serving hf hs, State.offer_holdState_of_displaces (s := s.remasked) hs h,
      State.formMask_captureAlarm (s := s.remasked) hc, State.formMask_remasked]

/-- R127, R128: the mask that is formed a second time is final. -/
theorem State.formMask_updateMask_updateMask (s : State) :
    s.updateMask.updateMask.formMask = s.updateMask.updateMask.holdMask := by
  rw [State.holdMask_updateMask]
  by_cases hf : s.formMask = s.holdMask
  · rw [State.updateMask_of_formed hf, State.updateMask_of_formed hf]
  by_cases hs : s.serving = true
  · by_cases hd : Displaces s.port.queue (.offered (.holdState s.formMask s.nodeState) none)
    · have hw : s.updateMask
          = s.remasked.captureAlarm (overflowIncident (.offered (.holdState s.formMask s.nodeState) none)) := by
        rw [State.updateMask_of_serving hf hs, State.offer_holdState_of_displaces (s := s.remasked) hs hd]
      refine State.formMask_updateMask_of_displaces (s.serving_updateMask.trans hs) ?_ ?_
      · rw [hw]; exact State.capture_captureAlarm_isSome _ _
      · rw [hw, State.captureAlarm_port]; exact hd
    · exact State.formMask_updateMask_of_any
        (State.any_isHoldState_of_holdsFrame (State.holdsFrame_updateMask hf hs hd))
  · have hw : s.updateMask.formMask = s.updateMask.holdMask := by
      rw [State.holdMask_updateMask, State.updateMask_of_not_serving hf hs]
      exact State.formMask_congr rfl rfl rfl rfl rfl
    rw [State.updateMask_of_formed hw]

/-! ### What follows an event -/

@[simp] theorem State.formMask_setLines (s : State) : s.setLines.formMask = s.formMask :=
  State.formMask_congr rfl rfl rfl rfl rfl

@[simp] theorem State.nodeState_timeGhosts (b s : State) : (b.timeGhosts s).nodeState = s.nodeState := rfl

@[simp] theorem State.holdMask_timeGhosts (b s : State) : (b.timeGhosts s).holdMask = s.holdMask := rfl

/-- R127: after every event the mask is what its conditions give. -/
theorem State.formMask_settle (b s : State) : (b.settle s).formMask = (b.settle s).holdMask := by
  unfold State.settle
  rw [State.formMask_setLines, State.holdMask_setLines, State.formMask_updateMask_updateMask]

@[simp] theorem State.nodeState_settle (b s : State) : (b.settle s).nodeState = s.nodeState := by
  simp [State.settle]

section
variable {b s : State} (hs : s.nodeState = .inService) (hm : (b.settle s).holdMask ≠ s.holdMask)
include hm

/-- A mask that an event has changed was changed as it was first formed. -/
theorem State.formMask_ne_of_settle : (b.timeGhosts s).formMask ≠ (b.timeGhosts s).holdMask := by
  intro hf
  refine hm ?_
  unfold State.settle
  rw [State.updateMask_of_formed hf, State.updateMask_of_formed hf, State.holdMask_setLines,
    State.holdMask_timeGhosts]

include hs

/-- R131: a mask that an event has changed has restarted the period timer. -/
theorem State.periodTimer_settle : (b.settle s).periodTimer = some ((b.settle s).time + 1000) := by
  have hserving : (b.timeGhosts s).serving = true := beq_iff_eq.mpr hs
  have hfirst := State.periodTimer_updateMask (State.formMask_ne_of_settle hm) hserving
  unfold State.settle
  rw [State.periodTimer_setLines, State.time_setLines]
  by_cases hf : (b.timeGhosts s).updateMask.formMask = (b.timeGhosts s).updateMask.holdMask
  · rw [State.updateMask_of_formed hf]; exact hfirst
  · exact State.periodTimer_updateMask hf ((State.serving_updateMask _).trans hserving)

/-- R131: a mask that an event has changed stands in a HOLD_STATE, if the queue was in order. -/
theorem State.holdsFrame_settle (hq : QueueInOrder s.port.queue) :
    (b.settle s).holdsFrame (.holdState (b.settle s).holdMask .inService) := by
  have hserving : (b.timeGhosts s).serving = true := beq_iff_eq.mpr hs
  have hfirst := State.holdsFrame_updateMask (State.formMask_ne_of_settle hm) hserving (hq.not_displaces rfl)
  unfold State.settle State.holdsFrame
  rw [State.port_setLines, State.holdMask_setLines]
  by_cases hf : (b.timeGhosts s).updateMask.formMask = (b.timeGhosts s).updateMask.holdMask
  · rw [State.updateMask_of_formed hf]; exact hfirst
  · exact State.holdsFrame_updateMask hf ((State.serving_updateMask _).trans hserving)
      fun ⟨hrep, _⟩ => hrep ⟨rfl, State.any_isHoldState_of_holdsFrame hfirst⟩

end

end Sys2Proof.Machine
end

section
/-! SUPPORT. Every command between two states in service leaves the hold mask to what follows it and the transmit
queue in order (`BodyKeepsHold`), so that `State.settle` brings the mask, its HOLD_STATE and the lines of R125, R127,
R131 and R156. -/

namespace Sys2Proof.Machine

/-! ### The port's own commands (sections 8.6 and 8.7) -/

theorem QueueInOrder.offBus {q : List TxEntry} (h : QueueInOrder q) :
    QueueInOrder (q.map (fun e => { e with onBus := false, replaced := false })) :=
  h.map (fun _ => rfl) (fun _ hb => Bool.noConfusion hb)

theorem Port.queue_loseArbitration (p : Port) (now : Nat) : (p.loseArbitration now).queue = p.endAttempt.queue := by
  unfold Port.loseArbitration
  cases p.mode <;> rfl

theorem Port.queue_fail (p : Port) (now : Nat) : (p.fail now).queue = p.endAttempt.queue := by
  unfold Port.fail
  cases p.mode with
  | mute => rfl
  | active => dsimp only; split <;> rfl

/-- R150: an attempt puts the head of a queue on the bus of which no frame is there. -/
theorem QueueInOrder.start {p : Port} (h : QueueInOrder p.queue) (hbus : (p.queue.filter TxEntry.onBus).length = 0) :
    QueueInOrder p.start.queue := by
  unfold Port.start
  cases hq : p.queue with
  | nil => rw [hq] at h; simpa [hq] using h
  | cons e rest =>
    obtain ⟨hsorted, hstart, -⟩ := hq ▸ h
    have hrest : rest.filter TxEntry.onBus = [] := by
      have hall := List.eq_nil_of_length_eq_zero hbus
      rw [hq, List.filter_cons] at hall
      split at hall
      · exact absurd hall (by simp)
      · exact hall
    refine ⟨?_, ?_, ?_⟩
    · obtain ⟨he, hr⟩ := List.pairwise_cons.mp hsorted
      exact List.pairwise_cons.mpr ⟨he, hr⟩
    · simpa only [List.filter_cons, apply_ite List.length, List.length_cons] using hstart
    · rw [List.filter_cons, if_pos rfl, hrest]
      exact Nat.le_refl 1

/-- R147, R150: while no frame is being sent, none is on the bus. -/
theorem TransmitLaw.onBus_of_idle {s : State} (h : TransmitLaw s) (hp : s.port.sending = none) :
    (s.port.queue.filter TxEntry.onBus).length = 0 := by
  obtain ⟨-, -, -, -, hbus, -, -⟩ := h
  rwa [hp] at hbus

/-! ### Every command -/

/-- From `s` the body of a command has come to `u`: where both are in service it has left the hold mask, and the
transmit queue in order. -/
def BodyKeepsHold (s u : State) : Prop :=
  s.nodeState = .inService → u.nodeState = .inService →
    u.holdMask = s.holdMask ∧ (TransmitLaw s → QueueInOrder u.port.queue)

/-- A command is a body that keeps mask and queue, and what follows every event. -/
def KeepsHold (s : State) (o : Host.Outcome State Fault Refusal) : Prop :=
  ∃ u, o = finish s u ∧ BodyKeepsHold s u

theorem OnlyOffers.keepsHold {s u : State} (h : OnlyOffers s u) : KeepsHold s (finish s u) := by
  obtain ⟨-, hm, -, -, hq⟩ := h
  exact ⟨u, rfl, fun _ _ => ⟨hm, fun ht => hq.queueInOrder ht.queueInOrder⟩⟩

/-- A command that changes nothing of its own in service. -/
theorem keepsHold_of_idle {s u : State} (h : s.nodeState = .inService → u = s) : KeepsHold s (finish s u) :=
  ⟨u, rfl, fun hs _ => by rw [h hs]; exact ⟨rfl, TransmitLaw.queueInOrder⟩⟩

/-- A command of the port. -/
theorem keepsHold_setPort {s : State} {p : Port} (h : TransmitLaw s → QueueInOrder p.queue) :
    KeepsHold s (finish s (s.setPort p)) := ⟨_, rfl, fun _ _ => ⟨rfl, h⟩⟩

theorem keepsHold_releaseReset (s : State) : KeepsHold s (finish s s.releaseReset) :=
  keepsHold_of_idle fun hs => if_neg (by rw [hs]; decide)

theorem keepsHold_loadImage (s : State) (memory : List Byte) : KeepsHold s (finish s (s.loadImage memory)) :=
  keepsHold_of_idle fun hs => if_neg (by rw [hs]; decide)

theorem keepsHold_endCensus (s : State) : KeepsHold s (finish s s.endCensus) :=
  keepsHold_of_idle fun hs => if_neg (by rw [hs]; decide)

theorem keepsHold_assertReset (s : State) : KeepsHold s (finish s s.assertReset) :=
  ⟨_, rfl, fun _ hu => NodeState.noConfusion hu⟩

/-- R59, R166: a sensor's axle is a passage's axle in service, and a census axle before it. -/
theorem keepsHold_sensorAxle {s u : State} (k : SlotIx) (x : Sensor) (d : Direction) (hu : OnlyOffers s u) :
    KeepsHold s (if s.slotServing k then finish s u else finish s (s.censusAxle k x d)) := by
  split
  · exact hu.keepsHold
  · exact ((OnlyOffers.refl s).censusAxle k x d).keepsHold

theorem keepsHold_execCrestAxle (s : State) : KeepsHold s (execCrestAxle s) := by
  unfold execCrestAxle
  split
  · exact (OnlyOffers.refl s).crestAxle.keepsHold
  · exact (OnlyOffers.refl s).keepsHold

theorem keepsHold_execThrowDeadline (s : State) (k : SlotIx) : KeepsHold s (execThrowDeadline k s) := by
  unfold execThrowDeadline
  split
  · exact (OnlyOffers.throwExpired (u := s.reach _) (.refl s) k _).keepsHold
  all_goals exact (OnlyOffers.refl s).keepsHold

theorem keepsHold_execPauseEnd (s : State) (k : SlotIx) : KeepsHold s (execPauseEnd k s) := by
  unfold execPauseEnd
  split
  · have hresumed (t : Throw) (d : Nat) : OnlyOffers s ((s.reach d).resumeThrow k t) := .refl s
    exact (hresumed _ _).keepsHold
  all_goals exact (OnlyOffers.refl s).keepsHold

theorem keepsHold_execReplyTimeout (s : State) (place : ContextPlace) : KeepsHold s (execReplyTimeout place s) := by
  unfold execReplyTimeout
  split
  · exact (OnlyOffers.refl s).keepsHold
  · exact ((OnlyOffers.refl s).expireReply _).keepsHold

theorem keepsHold_execReleaseIntervalEnd (s : State) : KeepsHold s (execReleaseIntervalEnd s) := by
  unfold execReleaseIntervalEnd
  split
  · exact (OnlyOffers.refl s).keepsHold
  · have hended (d : Nat) : OnlyOffers s { s.reach d with releaseInterval := none } := .refl s
    exact (hended _).keepsHold

/-- R132: the HOLD_STATE of the period timer carries the mask as it stands. -/
theorem keepsHold_execPeriodTimerExpiry (s : State) : KeepsHold s (execPeriodTimerExpiry s) := by
  unfold execPeriodTimerExpiry
  split
  · exact (OnlyOffers.refl s).keepsHold
  · rename_i d _
    refine ⟨_, rfl, fun hs _ => ?_⟩
    have hserving : (s.reach d).serving = true := beq_iff_eq.mpr hs
    unfold State.offerHoldState
    rw [if_pos hserving]
    obtain ⟨-, hm, -, -, hq⟩ := State.onlyOffers_offer
      (s := { s.reach d with periodTimer := some ((s.reach d).time + Config.periodTime) }) hserving
      (.holdState (s.reach d).holdMask (s.reach d).nodeState) none
    exact ⟨hm, fun ht => hq.queueInOrder (ht.queueInOrder.enqueue FrameKind.noConfusion rfl)⟩

theorem keepsHold_execMuteRetryExpiry (s : State) : KeepsHold s (execMuteRetryExpiry s) := by
  unfold execMuteRetryExpiry
  split
  · exact ⟨_, rfl, fun _ _ => ⟨rfl, fun ht => ht.queueInOrder⟩⟩
  all_goals exact (OnlyOffers.refl s).keepsHold

theorem keepsHold_execTransmitAttempt (s : State) : KeepsHold s (execTransmitAttempt s) := by
  unfold execTransmitAttempt
  split_ifs with hstart
  · obtain ⟨-, hidle, -⟩ := hstart
    exact keepsHold_setPort fun ht => ht.queueInOrder.start (ht.onBus_of_idle hidle)
  · exact keepsHold_setPort fun ht => ht.queueInOrder
  · exact (OnlyOffers.refl s).keepsHold

theorem keepsHold_execArbitrationLost (s : State) : KeepsHold s (execArbitrationLost s) := by
  unfold execArbitrationLost
  split
  · exact (OnlyOffers.refl s).keepsHold
  · exact keepsHold_setPort fun ht => by rw [Port.queue_loseArbitration]; exact ht.queueInOrder.offBus

theorem keepsHold_execTransmitError (s : State) : KeepsHold s (execTransmitError s) := by
  unfold execTransmitError
  split
  · exact (OnlyOffers.refl s).keepsHold
  · exact keepsHold_setPort fun ht => by rw [Port.queue_fail]; exact ht.queueInOrder.offBus

theorem keepsHold_execFrameSent (s : State) : KeepsHold s (execFrameSent s) := by
  unfold execFrameSent
  split
  · exact (OnlyOffers.refl s).keepsHold
  · obtain ⟨-, hm, -, -, hq⟩ := (OnlyOffers.refl (s.setPort s.port.succeed)).tellSent _ s.port.sendingOwner
    exact ⟨_, rfl, fun _ _ => ⟨hm, fun ht =>
      hq.queueInOrder (ht.queueInOrder.sublist List.filter_sublist).offBus⟩⟩

theorem keepsHold_execFrameDiscarded (s : State) (bits : List Bool) : KeepsHold s (execFrameDiscarded bits s) := by
  unfold execFrameDiscarded
  split
  · unfold State.dropFrame
    split
    · exact keepsHold_setPort fun ht => ht.queueInOrder
    · exact (OnlyOffers.refl s).keepsHold
  · exact ((OnlyOffers.refl s).takeFrame _).keepsHold

theorem keepsHold_execBusIdle (s : State) : KeepsHold s (execBusIdle s) := by
  unfold execBusIdle
  split
  · exact keepsHold_setPort fun ht => ht.queueInOrder
  · exact (OnlyOffers.refl s).keepsHold

/-- Every command leaves the mask to what follows it, and the transmit queue in order. -/
theorem keepsHold_exec (s : State) (c : Instr) : KeepsHold s (exec c s) := by
  have h := OnlyOffers.refl s
  cases c with
  | reset => exact keepsHold_assertReset s
  | resetRelease => exact keepsHold_releaseReset s
  | imageRead memory => exact keepsHold_loadImage s memory
  | censusAxle k x d => exact (h.censusAxle k x d).keepsHold
  | censusEnd => exact keepsHold_endCensus s
  | commitAxleForward k => exact keepsHold_sensorAxle k _ _ (h.commitForward k)
  | commitAxleBackward k => exact keepsHold_sensorAxle k _ _ (h.commitBackward k)
  | exitAxleForward k leg => exact keepsHold_sensorAxle k _ _ (h.exitForward k leg)
  | exitAxleBackward k leg => exact keepsHold_sensorAxle k _ _ (h.exitBackward k leg)
  | detectionChange k input b => exact (h.changeDetection k input b).keepsHold
  | foulingOccupied k => exact (h.occupyFouling k).keepsHold
  | foulingClear k => exact (h.clearFouling k).keepsHold
  | crestAxle => exact keepsHold_execCrestAxle s
  | gapExpiry k i => exact (h.expireGap k i).keepsHold
  | stallExpiry k i => exact (h.expireStall k i).keepsHold
  | ghostExpiry k => exact (h.expireGhost k).keepsHold
  | overdueExpiry k seq => exact (h.expireOverdue k seq).keepsHold
  | throwDeadline k => exact keepsHold_execThrowDeadline s k
  | pauseEnd k => exact keepsHold_execPauseEnd s k
  | replyTimeout place => exact keepsHold_execReplyTimeout s place
  | releaseIntervalEnd => exact keepsHold_execReleaseIntervalEnd s
  | periodTimerExpiry => exact keepsHold_execPeriodTimerExpiry s
  | silenceDeadline station => exact (h.expireSilence station).keepsHold
  | muteRetryExpiry => exact keepsHold_execMuteRetryExpiry s
  | transmitAttempt => exact keepsHold_execTransmitAttempt s
  | arbitrationLost => exact keepsHold_execArbitrationLost s
  | transmitError => exact keepsHold_execTransmitError s
  | frameSent => exact keepsHold_execFrameSent s
  | frameDiscarded bits => exact keepsHold_execFrameDiscarded s bits
  | frameNotTaken origin => exact (h.takeNothing origin).keepsHold
  | start origin role slotCount imageSum => exact (h.takeStart origin).keepsHold
  | holdState origin mask nodeState => exact (h.takeHoldState origin mask).keepsHold
  | handoff origin p => exact (h.takeHandoff origin p).keepsHold
  | handoffReply origin p => exact (h.takeHandoffReply origin p).keepsHold
  | cutEntry origin p => exact (h.takeCutEntry origin p).keepsHold
  | entryWithdraw origin target tag => exact (h.takeEntryWithdraw origin target tag).keepsHold
  | listClear origin target => exact (h.takeListClear origin target).keepsHold
  | releaseOne origin target tag => exact (h.takeReleaseOne origin target tag).keepsHold
  | trackClose origin target track substitute => exact (h.takeTrackClose origin target track substitute).keepsHold
  | trackOpen origin target track => exact (h.takeTrackOpen origin target track).keepsHold
  | restartAck origin target station => exact (h.takeRestartAck origin target station).keepsHold
  | slotBlock origin target slot => exact (h.takeSlotBlock origin target slot).keepsHold
  | slotFree origin target slot => exact (h.takeSlotFree origin target slot).keepsHold
  | slotFlush origin target slot => exact (h.takeSlotFlush origin target slot).keepsHold
  | incidentClear origin target => exact (h.takeIncidentClear origin target).keepsHold
  | watchSet origin target tag => exact (h.takeWatchSet origin target tag).keepsHold
  | watchClear origin target tag => exact (h.takeWatchClear origin target tag).keepsHold
  | statusQuery origin target => exact (h.takeStatusQuery origin target).keepsHold
  | busIdle => exact keepsHold_execBusIdle s

/-! ### The conditions (R125, R127, R156) -/

theorem anySlot_iff (f : SlotIx → Bool) : anySlot f = true ↔ ∃ k, f k = true := by
  simp [anySlot, Fin.exists_fin_succ, or_assoc]

theorem State.inState_iff (s : State) (x : ServiceState) (k : SlotIx) :
    s.inState x k = true ↔ (s.slot k).service = x := beq_iff_eq

theorem State.pressed_iff (s : State) (k : SlotIx) :
    s.pressed k = true ↔
      (s.slot k).service ≠ .off ∧ (s.slotCfg k).pressureThreshold ≤ (s.slot k).queue.length := by
  simp [State.pressed]

theorem Slot.hasStall_iff (x : Slot) : x.hasStall = true ↔ ∃ p ∈ x.zone, p.stalled = true := List.any_eq_true

theorem Record.isMarked_iff (r : Record) :
    r.isMarked = true ↔ ∃ timing, r.timing = some timing ∧ timing.marked = true := by
  unfold Record.isMarked
  cases r.timing <;> simp

theorem State.hasOverdue_iff (s : State) (k : SlotIx) :
    s.hasOverdue k = true ↔ ∃ i ∈ (s.slot k).queue, ∃ timing, (s.record i).timing = some timing
      ∧ timing.marked = true := by
  simp only [State.hasOverdue, List.any_eq_true, Record.isMarked_iff]

section
variable (s : State)

theorem State.settling_formMask_iff : s.formMask.settling = true ↔ ∃ k, (s.slot k).service = .settling :=
  (anySlot_iff _).trans (exists_congr fun k => s.inState_iff .settling k)

theorem State.queuePressure_formMask_iff : s.formMask.queuePressure = true ↔ ∃ k, (s.slot k).service ≠ .off
    ∧ (s.slotCfg k).pressureThreshold ≤ (s.slot k).queue.length :=
  (anySlot_iff _).trans (exists_congr fun k => s.pressed_iff k)

theorem State.stall_formMask_iff : s.formMask.stall = true ↔ ∃ k, ∃ p ∈ (s.slot k).zone, p.stalled = true :=
  (anySlot_iff _).trans (exists_congr fun k => (s.slot k).hasStall_iff)

theorem State.overdue_formMask_iff : s.formMask.overdue = true ↔ ∃ k, ∃ i ∈ (s.slot k).queue,
    ∃ timing, (s.record i).timing = some timing ∧ timing.marked = true :=
  (anySlot_iff _).trans (exists_congr fun k => s.hasOverdue_iff k)

theorem State.pointFailed_formMask_iff : s.formMask.pointFailed = true ↔ ∃ k, (s.slot k).service = .failed :=
  (anySlot_iff _).trans (exists_congr fun k => s.inState_iff .failed k)

theorem State.slotBlocked_formMask_iff : s.formMask.slotBlocked = true ↔ ∃ k, (s.slot k).service = .blocked :=
  (anySlot_iff _).trans (exists_congr fun k => s.inState_iff .blocked k)

theorem State.handoffFault_formMask_iff : s.formMask.handoffFault = true ↔ s.faultLatch = true := Iff.rfl

theorem State.incidentFrozen_formMask_iff :
    s.formMask.incidentFrozen = true ↔ s.capture ≠ none ∧ s.cfg.holdOnIncident = true :=
  Bool.and_eq_true_iff.trans (and_congr_left' Option.isSome_iff_ne_none)

end

/-- R140: the roster condition of an entry. -/
theorem RosterEntry.clear_iff (e : RosterEntry) :
    e.clear = true ↔ e.presence = .present ∧ e.restarted = false ∧ e.lastMask = {} := by
  simp [RosterEntry.clear, HoldMask.isZero, and_assoc]

theorem State.headReleasable_iff (s : State) :
    s.headReleasable = true ↔ ∃ r rest, s.cutList = r :: rest ∧ (s.record r).inspect = false := by
  unfold State.headReleasable
  cases s.cutList <;> simp

/-- R125: what the hump signal needs to be other than STOP. -/
def State.mayRelease (s : State) : Prop :=
  s.nodeState = .inService ∧ s.cfg.role = .crest
    ∧ (∀ e ∈ s.roster, e.presence = .present ∧ e.restarted = false ∧ e.lastMask = {})
    ∧ s.holdMask = {} ∧ ∃ r rest, s.cutList = r :: rest ∧ (s.record r).inspect = false

theorem State.mayRelease_iff (s : State) :
    s.mayRelease ↔ (s.crestServing && s.roster.all RosterEntry.clear && s.holdMask.isZero && s.headReleasable)
      = true := by
  simp only [State.mayRelease, State.crestServing, State.serving, HoldMask.isZero, Bool.and_eq_true, beq_iff_eq,
    List.all_eq_true, RosterEntry.clear_iff, State.headReleasable_iff, and_assoc]

theorem State.decideSignal_of_mayRelease {s : State} (h : s.mayRelease) :
    s.decideSignal = if s.releaseInterval.isSome then .slow else .push := if_pos (s.mayRelease_iff.mp h)

theorem State.decideSignal_of_not_mayRelease {s : State} (h : ¬s.mayRelease) : s.decideSignal = .stop :=
  if_neg (mt s.mayRelease_iff.mpr h)

theorem State.decideSignal_ne_stop_iff (s : State) : s.decideSignal ≠ .stop ↔ s.mayRelease := by
  by_cases h : s.mayRelease
  · rw [State.decideSignal_of_mayRelease h]
    split <;> simp [h]
  · simp [State.decideSignal_of_not_mayRelease h, h]

/-- R125: SLOW is shown only while the release interval runs. -/
theorem State.releaseInterval_of_slow {s : State} (h : s.decideSignal = .slow) : s.releaseInterval ≠ none := by
  by_cases hr : s.mayRelease
  · rw [State.decideSignal_of_mayRelease hr] at h
    intro hn
    simp [hn] at h
  · rw [State.decideSignal_of_not_mayRelease hr] at h
    exact Aspect.noConfusion h

/-- R125: PUSH is shown only while no release interval runs. -/
theorem State.releaseInterval_of_push {s : State} (h : s.decideSignal = .push) : s.releaseInterval = none := by
  by_cases hr : s.mayRelease
  · rw [State.decideSignal_of_mayRelease hr] at h
    cases hn : s.releaseInterval with
    | none => rfl
    | some d => simp [hn] at h
  · rw [State.decideSignal_of_not_mayRelease hr] at h
    exact Aspect.noConfusion h

/-- R156: what puts the fault line on. -/
theorem State.decideFaultLine_iff (s : State) :
    s.decideFaultLine = true ↔
      s.capture ≠ none ∨ (∃ k, (s.slot k).service = .failed) ∨ s.nodeState = .configFault := by
  simp [State.decideFaultLine, anySlot_iff, State.inState_iff, Option.isSome_iff_ne_none, or_assoc]

/-! ### The state after every command -/

theorem State.decideSignal_setLines (s : State) : s.setLines.decideSignal = s.decideSignal := rfl

theorem State.decideFaultLine_setLines (s : State) : s.setLines.decideFaultLine = s.decideFaultLine := rfl

theorem State.signal_settle (b s : State) : (b.settle s).signal = (b.settle s).decideSignal := by
  unfold State.settle
  rw [State.signal_setLines, State.decideSignal_setLines]

theorem State.faultLine_settle (b s : State) : (b.settle s).faultLine = (b.settle s).decideFaultLine := by
  unfold State.settle
  rw [State.faultLine_setLines, State.decideFaultLine_setLines]

/-- Settles O52: the mask is the one formed from its conditions (`State.formMask_settle`); a body leaves the mask as
it was (`keepsHold_exec`), so a mask that has changed was changed by `State.settle`, with its timer and its
HOLD_STATE; and the lines are decided last. -/
theorem maskAndLinesFollowEveryCommand : Obligations.MaskAndLinesFollowEveryCommand := by
  unfold Obligations.MaskAndLinesFollowEveryCommand
  refine ⟨⟨rfl, rfl, rfl, rfl, rfl, rfl⟩, fun c s t hc => ?_⟩
  obtain ⟨u, hu, hbody⟩ := keepsHold_exec s c
  obtain rfl : s.settle u = t := Host.Outcome.next.inj (hu.symm.trans hc)
  have hmask := s.formMask_settle u
  have hnode := s.nodeState_settle u
  rw [State.signal_settle, State.faultLine_settle, ← hmask]
  refine ⟨State.settling_formMask_iff _, State.queuePressure_formMask_iff _, State.stall_formMask_iff _,
    State.overdue_formMask_iff _, State.pointFailed_formMask_iff _, State.slotBlocked_formMask_iff _,
    State.handoffFault_formMask_iff _, State.incidentFrozen_formMask_iff _, ?period, ?frame, ?signal,
    State.releaseInterval_of_slow, State.releaseInterval_of_push, State.decideFaultLine_iff _⟩
  all_goals rw [hmask]
  case period =>
    intro hs ht hm
    have hserving := hnode.symm.trans ht
    obtain ⟨hkept, -⟩ := hbody hs hserving
    exact State.periodTimer_settle hserving fun h => hm (h.trans hkept)
  case frame =>
    intro hlaw hs ht hm
    have hserving := hnode.symm.trans ht
    obtain ⟨hkept, hqueue⟩ := hbody hs hserving
    exact State.holdsFrame_settle hserving (fun h => hm (h.trans hkept)) (hqueue hlaw)
  case signal => exact State.decideSignal_ne_stop_iff _

end Sys2Proof.Machine
end

section
/-! SUPPORT. START and HOLD_STATE as the slots and the roster take them (R31, R33, R133, R137, R138): what an emptied
queue leaves, that no report takes a freed record back, and what the roster makes of the two frames. -/

namespace Sys2Proof.Machine

/-! ### Freed records (R14) -/

/-- The record is blank and stands in the free list. -/
def State.hasFreed (s : State) (r : RecIx) : Prop := s.record r = Record.blank ∧ r ∈ s.free

theorem State.record_freeRecord_eq_ite (s : State) (i r : RecIx) :
    (s.freeRecord i).record r = if r = i then Record.blank else s.record r :=
  s.record_setRecord_eq_ite i r Record.blank

theorem State.hasFreed_freeRecord (s : State) (i : RecIx) : (s.freeRecord i).hasFreed i :=
  ⟨s.record_setRecord i Record.blank, by simp⟩

namespace State.hasFreed
variable {s : State} {r : RecIx}

theorem freeRecord (h : s.hasFreed r) (i : RecIx) : (s.freeRecord i).hasFreed r := by
  obtain ⟨hblank, hfree⟩ := h
  refine ⟨?_, List.mem_append_left _ hfree⟩
  rw [State.record_freeRecord_eq_ite]
  split
  · rfl
  · exact hblank

theorem freeRecords (h : s.hasFreed r) (is : List RecIx) : (s.freeRecords is).hasFreed r :=
  List.foldlRecOn (motive := fun u : State => u.hasFreed r) is State.freeRecord h fun _ hu i _ => hu.freeRecord i

theorem captureAlarm (h : s.hasFreed r) (inc : Incident) : (s.captureAlarm inc).hasFreed r := by
  unfold State.captureAlarm
  split <;> exact h

theorem offerReport (h : s.hasFreed r) (f : OutFrame) : (s.offerReport f).hasFreed r := by
  have halarm (q : List TxEntry) (inc : Incident) := captureAlarm (s := s.setQueue q) h inc
  unfold State.offerReport State.noteDiscard
  split
  · split
    · exact h
    · exact halarm _ _
  · exact h

theorem raise (h : s.hasFreed r) (inc : Incident) : (s.raise inc).hasFreed r := by
  unfold State.raise
  split
  · exact (h.captureAlarm inc).offerReport _
  · exact h.offerReport _

theorem resolve (h : s.hasFreed r) (n : Nat) (o : HandoffOutcome) : (s.resolve n o).hasFreed r := by
  unfold State.resolve
  split
  · exact freeRecord (s := State.dropHandoff { s with waitList := s.waitList.eraseP _ } n) h _
  · exact h

theorem lose (h : s.hasFreed r) (n : Nat) : (s.lose n).hasFreed r := by
  unfold State.lose
  split
  · split
    · exact (raise (s := { s with faultLatch := true }) h _).resolve n .lost
    · exact h
  · exact h

theorem secondAttempt (h : s.hasFreed r) (n : Nat) : (s.secondAttempt n).hasFreed r := by
  have halarm (q : List TxEntry) (inc : Incident) :=
    captureAlarm (s := (s.setStatus n (.pending .second none)).setQueue q) h inc
  unfold State.secondAttempt
  split
  · exact h
  · split
    · exact h
    · split
      · exact halarm _ _
      · exact (halarm _ _).lose _

theorem attemptExpired (h : s.hasFreed r) (n : Nat) : (s.attemptExpired n).hasFreed r := by
  unfold State.attemptExpired
  split
  · split
    · exact h.secondAttempt n
    · exact h.lose n
    · exact h
  · exact h

theorem offer (h : s.hasFreed r) (f : OutFrame) (o : Option Nat) : (s.offer f o).hasFreed r := by
  have halarm (q : List TxEntry) (inc : Incident) := captureAlarm (s := s.setQueue q) h inc
  unfold State.offer
  split
  · split
    · exact h
    · split
      · exact halarm _ _
      · exact (halarm _ _).attemptExpired _
  · exact h

theorem updateMask (h : s.hasFreed r) : s.updateMask.hasFreed r := by
  unfold State.updateMask
  split
  · exact h
  · unfold State.offerHoldState
    split
    · exact offer (s := { s with holdMask := s.formMask, periodTimer := some (s.time + Config.periodTime) }) h _ _
    · exact h

theorem setLines (h : s.hasFreed r) : s.setLines.hasFreed r := h

theorem settle (h : s.hasFreed r) (b : State) : (b.settle s).hasFreed r := by
  have hghosts : (b.timeGhosts s).hasFreed r := h
  exact hghosts.updateMask.updateMask.setLines

end State.hasFreed

theorem State.hasFreed_freeRecords {is : List RecIx} {r : RecIx} (hr : r ∈ is) (s : State) :
    (s.freeRecords is).hasFreed r := by
  induction is generalizing s with
  | nil => exact absurd hr List.not_mem_nil
  | cons i is ih =>
    rcases List.mem_cons.mp hr with rfl | hr
    · exact (s.hasFreed_freeRecord r).freeRecords is
    · exact ih hr (s.freeRecord i)

/-! ### An emptied queue (R30, R31) -/

/-- R31: a slot without queue, expected sequence and recent list; its zone list stays. -/
def Slot.unsynced (x : Slot) : Slot := { x with expected := none, queue := [], recent := [] }

/-- Freeing records writes no slot and reads no configuration. -/
theorem State.slots_config_freeRecords (s : State) (is : List RecIx) :
    (s.freeRecords is).slots = s.slots ∧ (s.freeRecords is).config = s.config :=
  List.foldlRecOn (motive := fun u : State => u.slots = s.slots ∧ u.config = s.config) is State.freeRecord
    ⟨rfl, rfl⟩ fun _ hu _ _ => hu

theorem State.slot_freeRecords (s : State) (is : List RecIx) (k : SlotIx) : (s.freeRecords is).slot k = s.slot k := by
  unfold State.slot
  rw [(s.slots_config_freeRecords is).1]

theorem State.slotCfg_freeRecords (s : State) (is : List RecIx) (k : SlotIx) :
    (s.freeRecords is).slotCfg k = s.slotCfg k := by
  unfold State.slotCfg State.cfg
  rw [(s.slots_config_freeRecords is).2]

/-- R44: without a head there is no throw evaluation. -/
theorem State.evaluateThrow_of_empty {s : State} {k : SlotIx} (h : (s.slot k).queue = []) : s.evaluateThrow k = s := by
  unfold State.evaluateThrow
  rw [h]

/-- R30, R44: an emptied queue frees its records, and has no head to throw for. -/
theorem State.emptyQueue_eq (s : State) (k : SlotIx) :
    s.emptyQueue k = (s.setSlot k (s.slot k).unsynced).freeRecords (s.slot k).queue := by
  unfold State.emptyQueue
  dsimp only
  split
  · rfl
  · refine State.evaluateThrow_of_empty ?_
    rw [State.slot_freeRecords, State.slot_setSlot]

/-! ### START at the slots (R31, R33) -/

/-- R31, R33: the station feeds the slot; feed node 0, the crest feed, is no station. -/
def State.feeds (s : State) (origin : Nat) (k : SlotIx) : Prop :=
  (s.slot k).service ≠ .off ∧ (s.slotCfg k).feedNode = origin ∧ (s.slotCfg k).feedNode ≠ 0

theorem State.startSlot_of_feeds {s : State} {origin : Nat} {k : SlotIx} (h : s.feeds origin k) :
    s.startSlot origin k = (s.setSlot k (s.slot k).unsynced).freeRecords (s.slot k).queue :=
  (if_pos h).trans (s.emptyQueue_eq k)

theorem State.startSlot_of_not_feeds {s : State} {origin : Nat} {k : SlotIx} (h : ¬s.feeds origin k) :
    s.startSlot origin k = s := if_neg h

theorem State.slotCfg_startSlot (s : State) (origin : Nat) (k j : SlotIx) :
    (s.startSlot origin k).slotCfg j = s.slotCfg j := by
  by_cases h : s.feeds origin k
  · rw [State.startSlot_of_feeds h, State.slotCfg_freeRecords, State.slotCfg_setSlot]
  · rw [State.startSlot_of_not_feeds h]

theorem State.slot_startSlot_of_ne (s : State) (origin : Nat) {k j : SlotIx} (hj : j ≠ k) :
    (s.startSlot origin k).slot j = s.slot j := by
  by_cases h : s.feeds origin k
  · rw [State.startSlot_of_feeds h, State.slot_freeRecords, State.slot_setSlot_of_ne _ _ _ _ hj]
  · rw [State.startSlot_of_not_feeds h]

theorem State.slot_startSlot_of_feeds {s : State} {origin : Nat} {k : SlotIx} (h : s.feeds origin k) :
    (s.startSlot origin k).slot k = (s.slot k).unsynced := by
  rw [State.startSlot_of_feeds h, State.slot_freeRecords, State.slot_setSlot]

/-- What a START does at one slot leaves what another slot's part reads. -/
theorem State.feeds_startSlot_iff (s : State) (origin : Nat) {k j : SlotIx} (hj : j ≠ k) :
    (s.startSlot origin k).feeds origin j ↔ s.feeds origin j := by
  unfold State.feeds
  rw [State.slot_startSlot_of_ne s origin hj, State.slotCfg_startSlot]

theorem State.hasFreed.startSlot {s : State} {r : RecIx} (h : s.hasFreed r) (origin : Nat) (k : SlotIx) :
    (s.startSlot origin k).hasFreed r := by
  by_cases hk : s.feeds origin k
  · rw [State.startSlot_of_feeds hk]
    exact State.hasFreed.freeRecords (s := s.setSlot k _) h _
  · rwa [State.startSlot_of_not_feeds hk]

theorem mem_slotOrder (k : SlotIx) : k ∈ ([0, 1, 2, 3] : List SlotIx) := by revert k; decide

/-- A START at a list of slots, in its order (log 23). -/
def State.startSlotList (s : State) (origin : Nat) (ks : List SlotIx) : State :=
  ks.foldl (fun u k => u.startSlot origin k) s

theorem State.startSlots_eq (s : State) (origin : Nat) :
    s.startSlots origin = s.startSlotList origin [0, 1, 2, 3] := by
  unfold State.startSlots State.startSlotList
  rw [List.foldl_cons, List.foldl_cons, List.foldl_cons, List.foldl_cons, List.foldl_nil]

/-- A slot outside the list stays as it is. -/
theorem State.slot_startSlotList_of_not_mem {k : SlotIx} (origin : Nat) (ks : List SlotIx) (s : State) (hk : k ∉ ks) :
    (s.startSlotList origin ks).slot k = s.slot k := by
  induction ks generalizing s with
  | nil => rfl
  | cons j ks ih =>
    obtain ⟨hne, hk⟩ := not_or.mp (mt List.mem_cons.mpr hk)
    exact (ih (s.startSlot origin j) hk).trans (State.slot_startSlot_of_ne s origin hne)

/-- R31: a slot that the station feeds is UNSYNCED after its START, and its records are freed. -/
theorem State.startSlotList_of_feeds {k : SlotIx} (origin : Nat) (ks : List SlotIx) (s : State) (hd : ks.Nodup)
    (hk : k ∈ ks) (h : s.feeds origin k) :
    (s.startSlotList origin ks).slot k = (s.slot k).unsynced
      ∧ ∀ r ∈ (s.slot k).queue, (s.startSlotList origin ks).hasFreed r := by
  induction ks generalizing s with
  | nil => exact absurd hk List.not_mem_nil
  | cons j ks ih =>
    obtain ⟨hj, hd⟩ := List.nodup_cons.mp hd
    by_cases hkj : k = j
    · subst hkj
      refine ⟨(State.slot_startSlotList_of_not_mem origin ks _ hj).trans (State.slot_startSlot_of_feeds h), ?_⟩
      intro r hr
      have hfreed : (s.startSlot origin k).hasFreed r := by
        rw [State.startSlot_of_feeds h]
        exact State.hasFreed_freeRecords hr _
      exact List.foldlRecOn (motive := fun u : State => u.hasFreed r) ks _ hfreed
        fun u hu i _ => hu.startSlot origin i
    · have hks := (List.mem_cons.mp hk).resolve_left hkj
      have hslot := State.slot_startSlot_of_ne s origin hkj
      have hrest := ih (s.startSlot origin j) hd hks ((State.feeds_startSlot_iff s origin hkj).mpr h)
      rwa [hslot] at hrest

/-- R31: a slot that the station does not feed stays as it is. -/
theorem State.slot_startSlotList_of_not_feeds {k : SlotIx} (origin : Nat) (ks : List SlotIx) (s : State)
    (h : ¬s.feeds origin k) : (s.startSlotList origin ks).slot k = s.slot k := by
  induction ks generalizing s with
  | nil => rfl
  | cons j ks ih =>
    by_cases hkj : k = j
    · subst hkj
      have hfirst := State.startSlot_of_not_feeds h
      exact (congrArg (fun u : State => (u.startSlotList origin ks).slot k) hfirst).trans (ih s h)
    · exact (ih (s.startSlot origin j) (mt (State.feeds_startSlot_iff s origin hkj).mp h)).trans
        (State.slot_startSlot_of_ne s origin hkj)

/-- Apart from reports, `u` is `s` but for its slots. -/
def State.sameButSlots (s u : State) : Prop :=
  u.apartFromReports = { s.apartFromReports with slots := u.apartFromReports.slots }

theorem State.sameButSlots_startSlot {s u : State} (h : s.sameButSlots u) (origin : Nat) (k : SlotIx) :
    s.sameButSlots (u.startSlot origin k) := by
  by_cases hk : u.feeds origin k
  · unfold State.sameButSlots
    rw [State.startSlot_of_feeds hk, State.freeRecords_apartFromReports, State.apartFromReports_setSlot, h]
    rfl
  · rwa [State.startSlot_of_not_feeds hk]

theorem State.sameButSlots_startSlots (s : State) (origin : Nat) : s.sameButSlots (s.startSlots origin) := by
  have hself : s.sameButSlots s := rfl
  rw [State.startSlots_eq]
  exact List.foldlRecOn (motive := fun u : State => s.sameButSlots u) _ _ hself
    fun u hu k _ => State.sameButSlots_startSlot hu origin k

/-! ### START at the handoff unit touches what reports touch (R97) -/

theorem State.apartFromReports_requeue (s : State) (h : Handoff) :
    (s.requeue h).apartFromReports = s.apartFromReports := by
  unfold State.requeue
  dsimp only
  split_ifs <;> simp

theorem State.apartFromReports_requeueAll (s : State) (origin : Nat) :
    (s.requeueAll origin).apartFromReports = s.apartFromReports :=
  List.foldlRecOn (motive := fun u : State => u.apartFromReports = s.apartFromReports) _ State.requeue rfl
    fun u hu h _ => (u.apartFromReports_requeue h).trans hu

theorem State.hasFreed.requeue {s : State} {r : RecIx} (h : s.hasFreed r) (x : Handoff) :
    (s.requeue x).hasFreed r := by
  unfold State.requeue
  dsimp only
  split_ifs
  · exact h
  · exact h
  · exact State.hasFreed.offer (s := s.setStatus _ _) h _ _

theorem State.hasFreed.requeueAll {s : State} {r : RecIx} (h : s.hasFreed r) (origin : Nat) :
    (s.requeueAll origin).hasFreed r :=
  List.foldlRecOn (motive := fun u : State => u.hasFreed r) _ State.requeue h fun _ hu x _ => hu.requeue x

/-! ### The two frames at the roster (R133, R137, R138) -/

/-- R146: a frame that is heard acts on the state with its roster refreshed. -/
theorem State.hear_of_hears {s : State} {origin : Station} (h : s.hears origin) (act : State → State) :
    s.hear origin act = act (s.refreshed origin) := by
  obtain ⟨hs, hidle, hown⟩ := h
  unfold State.hear
  rw [if_pos ⟨beq_iff_eq.mpr hs, hidle⟩, if_neg hown, State.refreshRoster_of_serving hs]

theorem State.crestServing_iff {s : State} (hs : s.nodeState = .inService) :
    s.crestServing = true ↔ s.cfg.role = .crest := by
  simp [State.crestServing, State.serving, hs]

/-- R138: what a START makes of its sender's entry. -/
theorem RosterEntry.restart_eq (e : RosterEntry) (now : Nat) :
    e.restart now = if e.presence = .unheard then { e with presence := .present, lastHeard := some now }
      else { e with presence := .present, lastHeard := some now, restarted := true, lastMask := {} } := by
  unfold RosterEntry.restart
  cases e.presence <;> rfl

theorem State.roster_rosterStart {s : State} (hs : s.nodeState = .inService) (origin : Nat) :
    (s.rosterStart origin).roster = if s.cfg.role = .crest then
        s.roster.map (fun x => if x.station = origin then
          (if x.presence = .unheard then { x with presence := .present, lastHeard := some s.time }
           else { x with presence := .present, lastHeard := some s.time, restarted := true, lastMask := {} })
          else x)
      else s.roster := by
  unfold State.rosterStart State.atStation
  simp only [State.crestServing_iff hs, RosterEntry.restart_eq]
  split <;> rfl

/-- R137: the last mask is written into the entry that the frame has refreshed. -/
theorem State.rosterMask_refreshed {s : State} {origin : Station} (hs : s.nodeState = .inService)
    (hr : s.cfg.role = .crest) (m : HoldMask) :
    (s.refreshed origin).rosterMask origin.toNat m
      = { s with roster := s.roster.map (fun x => if x.station = origin.toNat then
          { x with presence := .present, lastHeard := some s.time, lastMask := m } else x) } := by
  have hcrest : (s.atStation origin.toNat (fun e => e.refresh s.time)).crestServing = true :=
    (State.crestServing_iff hs).mpr hr
  rw [State.refreshed_of_crest hr, State.rosterMask, if_pos hcrest]
  unfold State.atStation
  rw [List.map_map]
  congr 2
  funext x
  by_cases hx : x.station = origin.toNat <;> simp [hx, RosterEntry.refresh]

/-! ### The claims -/

/-- The state in which a START that is heard has written the roster and emptied the queues. -/
def State.started (s : State) (origin : Nat) : State :=
  State.startSlots { s with roster := (s.rosterStart origin).roster } origin

theorem State.started_of_feeds {s : State} {origin : Nat} {k : SlotIx} (h : s.feeds origin k) :
    (s.started origin).slot k = (s.slot k).unsynced ∧ ∀ r ∈ (s.slot k).queue, (s.started origin).hasFreed r := by
  unfold State.started
  rw [State.startSlots_eq]
  exact State.startSlotList_of_feeds origin [0, 1, 2, 3] { s with roster := (s.rosterStart origin).roster }
    (by decide) (mem_slotOrder k) h

theorem State.slot_started_of_not_feeds {s : State} {origin : Nat} {k : SlotIx} (h : ¬s.feeds origin k) :
    (s.started origin).slot k = s.slot k := by
  unfold State.started
  rw [State.startSlots_eq]
  exact State.slot_startSlotList_of_not_feeds origin [0, 1, 2, 3] { s with roster := (s.rosterStart origin).roster } h

theorem State.takeStart_of_hears {s : State} {origin : Station} (h : s.hears origin) :
    s.takeStart origin = (s.started origin.toNat).requeueAll origin.toNat := by
  unfold State.takeStart State.started
  rw [State.hear_of_hears h]
  unfold State.refreshed
  split <;> rfl

/-- What follows a START that is heard leaves what its parts at roster and slots have left. -/
theorem State.apartFromReports_settle_takeStart {s : State} {origin : Station} (h : s.hears origin) :
    (s.settle (s.takeStart origin)).apartFromReports = (s.started origin.toNat).apartFromReports := by
  rw [State.apartFromReports_settle, State.takeStart_of_hears h, State.apartFromReports_requeueAll]

section
variable {s t : State} {origin : Nat} (ht : t.apartFromReports = (s.started origin).apartFromReports)
include ht

theorem State.apartFromTimer_slot_of_started (k : SlotIx) :
    (t.slot k).apartFromTimer = ((s.started origin).slot k).apartFromTimer := by
  rw [← State.slot_apartFromReports, ht, State.slot_apartFromReports]

theorem State.roster_of_started : t.roster = (s.rosterStart origin).roster := by
  have hslots : (s.started origin).apartFromReports = _ := State.sameButSlots_startSlots _ origin
  show t.apartFromReports.roster = _
  rw [ht, hslots]
  rfl

theorem State.apartFromReports_of_started :
    t.apartFromReports = { s with slots := t.slots, roster := t.roster }.apartFromReports := by
  have hslots : (s.started origin).apartFromReports = _ := State.sameButSlots_startSlots _ origin
  show _ = { s.apartFromReports with slots := t.apartFromReports.slots, roster := t.roster }
  rw [State.roster_of_started ht, ht, hslots]
  rfl

end

/-- R31, R33, R138: a START at the slots and at the roster. -/
theorem start_acts_on_queues_and_roster {s : State} {origin : Station} (h : s.hears origin)
    (role slotCount : Byte) (sum : BitVec 16) :
    ∃ t, exec (.start origin role slotCount sum) s = .next t
      ∧ (∀ k, s.feeds origin.toNat k → (t.slot k).apartFromTimer = (s.slot k).unsynced.apartFromTimer)
      ∧ (∀ k, ¬s.feeds origin.toNat k → (t.slot k).apartFromTimer = (s.slot k).apartFromTimer)
      ∧ (∀ k, s.feeds origin.toNat k → ∀ r ∈ (s.slot k).queue, t.hasFreed r)
      ∧ t.roster = (s.rosterStart origin.toNat).roster
      ∧ t.apartFromReports = { s with slots := t.slots, roster := t.roster }.apartFromReports := by
  have ht := State.apartFromReports_settle_takeStart h
  have hslot (k : SlotIx) := State.apartFromTimer_slot_of_started ht k
  refine ⟨s.settle (s.takeStart origin), rfl, fun k hk => ?_, fun k hk => ?_, fun k hk r hr => ?_,
    State.roster_of_started ht, State.apartFromReports_of_started ht⟩
  · obtain ⟨hunsynced, -⟩ := State.started_of_feeds hk
    rw [hslot k, hunsynced]
  · rw [hslot k, State.slot_started_of_not_feeds hk]
  · obtain ⟨-, hfreed⟩ := State.started_of_feeds hk
    refine State.hasFreed.settle ?_ s
    rw [State.takeStart_of_hears h]
    exact (hfreed r hr).requeueAll _

/-- R133, R137: at a crest node a HOLD_STATE refreshes the sender's entry and writes its last mask. -/
theorem leaves_holdState_of_crest {s : State} {origin : Station} (h : s.hears origin) (hr : s.cfg.role = .crest)
    (mask nodeState : Byte) :
    Leaves (.holdState origin mask nodeState) s
      { s with roster := s.roster.map (fun x => if x.station = origin.toNat then
          { x with presence := .present, lastHeard := some s.time, lastMask := HoldMask.ofByte mask } else x) } [] := by
  have ⟨hs, _, _⟩ := h
  have hbody := (State.hear_of_hears h (fun x => x.rosterMask origin.toNat (HoldMask.ofByte mask))).trans
    (State.rosterMask_refreshed hs hr _)
  exact Leaves.of_finish (congrArg (finish s) hbody) rfl (fun _ => rfl) rfl

/-- R133: at a tree node a HOLD_STATE has no effect. -/
theorem leaves_holdState_of_tree {s : State} {origin : Station} (h : s.hears origin) (hr : s.cfg.role = .tree)
    (mask nodeState : Byte) : Leaves (.holdState origin mask nodeState) s s [] := by
  have ⟨hs, _, _⟩ := h
  have hcrest : ¬s.cfg.role = .crest := by rw [hr]; decide
  have hquiet : s.rosterMask origin.toNat (HoldMask.ofByte mask) = s :=
    if_neg (mt (State.crestServing_iff hs).mp hcrest)
  have hbody : s.takeHoldState origin mask = s := by
    rw [State.takeHoldState, State.hear_of_hears h, State.refreshed, if_neg hcrest, hquiet]
  exact Leaves.of_finish (congrArg (finish s) hbody) rfl (fun _ => rfl) rfl

/-- Settles O36: START by its two parts (`start_acts_on_queues_and_roster`), which free the queued records whether or
not the pool law holds; HOLD_STATE by the role of the node. -/
theorem startAndHoldStateActOnQueuesAndRoster : Obligations.StartAndHoldStateActOnQueuesAndRoster := by
  unfold Obligations.StartAndHoldStateActOnQueuesAndRoster
  refine ⟨fun s origin role slotCount sum h => ?_, fun s origin mask nodeState h => ?_⟩
  · obtain ⟨t, hexec, hfed, hother, hfreed, hroster, hrest⟩ :=
      start_acts_on_queues_and_roster h role slotCount sum
    obtain ⟨hs, -, -⟩ := h
    exact ⟨t, hexec, hfed, hother, fun _ => hfreed, hroster.trans (State.roster_rosterStart hs _), hrest⟩
  · exact ⟨fun hr => leaves_holdState_of_crest h hr mask nodeState,
      fun hr => leaves_holdState_of_tree h hr mask nodeState⟩

end Sys2Proof.Machine
end

section
/-! SUPPORT. The commands of the incident unit (R155, R157, R161): the state each operation leaves and its reply, and
what a cleared capture leaves of the hold mask and the fault line. -/

namespace Sys2Proof.Machine

/-! ### What the refreshed roster leaves (R135) -/

@[simp] theorem State.watches_refreshed (s : State) (origin : Station) :
    (s.refreshed origin).watches = s.watches := by unfold State.refreshed; split <;> rfl

@[simp] theorem State.statusFrame_refreshed (s : State) (origin : Station) :
    (s.refreshed origin).statusFrame = s.statusFrame := by unfold State.refreshed; split <;> rfl

/-! ### A command that every node takes (R146, R160) -/

/-- How a claim `Leaves` is shown of a command of the yard computer that offers one frame, after an operation that
offers nothing. -/
theorem Leaves.of_yardOffer {c : Instr} {s u : State} {origin : Station} {target : Byte} {f : OutFrame}
    {act : State → State} (h : s.takesCommand origin target)
    (hc : exec c s = finish s (s.hearYard origin target act)) (hact : act (s.refreshed origin) = u.offer f none)
    (hport : u.port = s.port) (hnode : u.nodeState = s.nodeState) (hf : f.kind ≠ .holdState) : Leaves c s u [f] := by
  have hbody : s.hearYard origin target act = u.offer f none := (State.hearYard_of_takesCommand h act).trans hact
  obtain ⟨⟨hs, -, -⟩, -, -⟩ := h
  have hserving : u.serving = true := beq_iff_eq.mpr (hnode.trans hs)
  have hquiet : Reported s u u [] := Reported.of_queue (congrArg Port.queue hport)
  exact Leaves.of_reported (hc.trans (congrArg (finish s) hbody)) (hquiet.offer (by simp) hserving f none)
    (List.forall_mem_singleton.mpr hf)

/-- The same of a command with a result: the operation's state, and the one reply. -/
theorem Leaves.of_yardCommand {c : Instr} {s u : State} {origin : Station} {target : Byte} {kind : FrameKind}
    {argument : BitVec 16} {act : State → CommandResult × State} {r : CommandResult}
    (h : s.takesCommand origin target)
    (hc : exec c s = finish s (s.hearYard origin target (fun x => answer kind argument (act x))))
    (hact : act (s.refreshed origin) = (r, u)) (hport : u.port = s.port) (hnode : u.nodeState = s.nodeState) :
    Leaves c s u [replyFrame kind argument r] :=
  Leaves.of_yardOffer h hc (congrArg (answer kind argument) hact) hport hnode FrameKind.noConfusion

/-! ### The watch table (R157) -/

theorem State.setWatch_zero (s : State) : s.setWatch 0 = (.refusedValue, s) := if_pos rfl

theorem State.setWatch_of_mem {s : State} {tag : Tag} (h0 : tag ≠ 0) (h : tag ∈ s.watches) :
    s.setWatch tag = (.done, s) := (if_neg h0).trans (if_pos h)

theorem State.setWatch_of_not_mem {s : State} {tag : Tag} (h0 : tag ≠ 0) (h : tag ∉ s.watches) :
    s.setWatch tag =
      if 4 ≤ s.watches.length then (.refusedFull, s) else (.done, { s with watches := s.watches ++ [tag] }) :=
  (if_neg h0).trans (if_neg h)

theorem State.clearWatch_of_mem {s : State} {tag : Tag} (h : tag ∈ s.watches) :
    s.clearWatch tag = (.done, { s with watches := s.watches.erase tag }) := if_pos h

theorem State.clearWatch_of_not_mem {s : State} {tag : Tag} (h : tag ∉ s.watches) :
    s.clearWatch tag = (.refusedState, s) := if_neg h

/-! ### The fault line (R156) -/

theorem State.decideFaultLine_iff_of_empty_capture {s : State} (hc : s.capture = none)
    (hs : s.nodeState = .inService) : s.decideFaultLine = true ↔ ∃ k, (s.slot k).service = .failed := by
  simp [State.decideFaultLine_iff, hc, hs]

/-! ### The claims -/

section
variable {s : State} {origin : Station} {target : Byte} (h : s.takesCommand origin target)
include h

/-- R161: one STATUS frame, and nothing else. -/
theorem leaves_statusQuery : Leaves (.statusQuery origin target) s (s.refreshed origin) [s.statusFrame] :=
  Leaves.of_yardOffer h rfl (congrArg (fun f => (s.refreshed origin).offer f none) (s.statusFrame_refreshed origin))
    (by simp) (by simp) FrameKind.noConfusion

/-- R155: the capture, its count and the fault latch are cleared in every state of the capture. -/
theorem leaves_incidentClear :
    Leaves (.incidentClear origin target) s
      { s.refreshed origin with capture := none, furtherAlarms := 0, faultLatch := false }
      [replyFrame .incidentClear 0 .done] :=
  Leaves.of_yardCommand h rfl rfl (State.port_refreshed s origin) (State.nodeState_refreshed s origin)

/-- R127, R156: with room for its reply, INCIDENT_CLEAR leaves nothing of the incident in the mask, and the fault line
to the FAILED slots. -/
theorem incidentClear_clears_mask_and_faultLine (hroom : s.hasRoom 2) :
    ∃ t, exec (.incidentClear origin target) s = .next t
      ∧ t.holdMask.handoffFault = false ∧ t.holdMask.incidentFrozen = false
      ∧ (t.faultLine = true ↔ ∃ k, (t.slot k).service = .failed) := by
  obtain ⟨t, hexec, -, hfits⟩ := leaves_incidentClear h
  obtain ⟨hframes, -⟩ := hfits hroom
  have hcapture : t.capture = none := (congrArg State.capture hframes :)
  have hlatch : t.faultLatch = false := (congrArg State.faultLatch hframes :)
  have hserving : t.nodeState = .inService := by
    obtain ⟨⟨hs, -, -⟩, -, -⟩ := h
    exact (congrArg State.nodeState hframes :).trans ((s.nodeState_refreshed origin).trans hs)
  refine ⟨t, hexec, ?_⟩
  obtain ⟨v, hv, -⟩ := keepsHold_exec s (.incidentClear origin target)
  obtain rfl : s.settle v = t := Host.Outcome.next.inj (hv.symm.trans hexec)
  rw [← State.formMask_settle, State.faultLine_settle]
  refine ⟨?latch, ?frozen, ?line⟩
  case latch => exact Bool.eq_false_iff.mpr (mt (State.handoffFault_formMask_iff _).mp (by simp [hlatch]))
  case frozen => exact Bool.eq_false_iff.mpr (mt (State.incidentFrozen_formMask_iff _).mp (by simp [hcapture]))
  case line => exact State.decideFaultLine_iff_of_empty_capture hcapture hserving

/-- R157: tag 0 is not watched for. -/
theorem leaves_watchSet_zero :
    Leaves (.watchSet origin target 0) s (s.refreshed origin) [replyFrame .watchSet 0 .refusedValue] :=
  Leaves.of_yardCommand h rfl (State.setWatch_zero _) (by simp) (by simp)

section
variable {tag : Tag}

/-- R157: a tag already in the table stays there once. -/
theorem leaves_watchSet_of_mem (h0 : tag ≠ 0) (hw : tag ∈ s.watches) :
    Leaves (.watchSet origin target tag) s (s.refreshed origin) [replyFrame .watchSet tag .done] :=
  Leaves.of_yardCommand h rfl (State.setWatch_of_mem h0 (by simpa using hw)) (by simp) (by simp)

/-- R157: a full table takes no tag. -/
theorem leaves_watchSet_of_full (h0 : tag ≠ 0) (hw : tag ∉ s.watches) (hfull : 4 ≤ s.watches.length) :
    Leaves (.watchSet origin target tag) s (s.refreshed origin) [replyFrame .watchSet tag .refusedFull] := by
  refine Leaves.of_yardCommand h rfl ?_ (by simp) (by simp)
  rw [State.setWatch_of_not_mem h0 (by simpa using hw), State.watches_refreshed, if_pos hfull]

/-- R157: a table with room takes the tag at its end. -/
theorem leaves_watchSet_of_room (h0 : tag ≠ 0) (hw : tag ∉ s.watches) (hroom : s.watches.length < 4) :
    Leaves (.watchSet origin target tag) s { s.refreshed origin with watches := s.watches ++ [tag] }
      [replyFrame .watchSet tag .done] := by
  refine Leaves.of_yardCommand h rfl ?_ (State.port_refreshed s origin) (State.nodeState_refreshed s origin)
  rw [State.setWatch_of_not_mem h0 (by simpa using hw), State.watches_refreshed, if_neg (Nat.not_le.mpr hroom)]

/-- R157: a tag in the table leaves it. -/
theorem leaves_watchClear_of_mem (hw : tag ∈ s.watches) :
    Leaves (.watchClear origin target tag) s { s.refreshed origin with watches := s.watches.erase tag }
      [replyFrame .watchClear tag .done] := by
  refine Leaves.of_yardCommand h rfl ?_ (State.port_refreshed s origin) (State.nodeState_refreshed s origin)
  rw [State.clearWatch_of_mem (by simpa using hw), State.watches_refreshed]

/-- R157: a tag that is not in the table cannot leave it. -/
theorem leaves_watchClear_of_not_mem (hw : tag ∉ s.watches) :
    Leaves (.watchClear origin target tag) s (s.refreshed origin) [replyFrame .watchClear tag .refusedState] :=
  Leaves.of_yardCommand h rfl (State.clearWatch_of_not_mem (by simpa using hw)) (by simp) (by simp)

end

end

/-- R161: the STATUS frame of a node in service, its contents written out. -/
theorem State.statusFrame_of_inService {s : State} (hs : s.nodeState = .inService) :
    s.statusFrame = .status s.holdMask .inService
      (match s.capture with
        | none => none
        | some c => some c.incident.kind)
      s.furtherAlarms
      (match s.capture with
        | none => 0
        | some c => min 65535 (c.time / 1000))
      [(s.slot 0).status, (s.slot 1).status, (s.slot 2).status, (s.slot 3).status] := by
  unfold State.statusFrame
  rw [hs]
  cases s.capture <;> rfl

/-- Settles O47: one claim for each answer of the four commands; what INCIDENT_CLEAR leaves of the mask and the fault
line follows from the state it leaves, as after every command. -/
theorem incidentUnitCommandsDoWhatTheirRulesSay : Obligations.IncidentUnitCommandsDoWhatTheirRulesSay := by
  unfold Obligations.IncidentUnitCommandsDoWhatTheirRulesSay
  intro s origin target h
  refine ⟨?status, leaves_incidentClear h, incidentClear_clears_mask_and_faultLine h, fun tag => ⟨?zero,
    leaves_watchSet_of_mem h, leaves_watchSet_of_full h, leaves_watchSet_of_room h, leaves_watchClear_of_mem h,
    leaves_watchClear_of_not_mem h⟩⟩
  case status =>
    have ⟨⟨hs, _, _⟩, _, _⟩ := h
    have hstatus := leaves_statusQuery h
    rw [State.statusFrame_of_inService hs] at hstatus
    exact hstatus
  case zero =>
    rintro rfl
    exact leaves_watchSet_zero h

end Sys2Proof.Machine
end

section
/-! SUPPORT. What the body of a command can do, said once: `Act` lists the single changes, each with the condition under
which the machine makes it, and `Work s held u` says that from `s` the body has come to `u` by such changes, with the
records `held` in hand, taken from their place and not yet put in another. Every law of a run is then a matter of the
changes alone. -/

namespace Sys2Proof.Machine

/-! ### Words for the changes -/

/-- The state with those fields of another that no law of a run reads. -/
def State.withIdle (s v : State) : State :=
  { s with
    time := v.time
    censusStart := v.censusStart
    startSent := v.startSent
    faultLatch := v.faultLatch
    periodTimer := v.periodTimer
    releaseCounter := v.releaseCounter
    crestPassage := v.crestPassage
    releaseInterval := v.releaseInterval
    signal := v.signal
    roster := v.roster
    faultLine := v.faultLine }

/-- The lists of a slot: what the laws of queues, zone lists and records read of it. -/
def Slot.lists (x : Slot) : Option Seq × List RecIx × List RecentEntry × List Passage :=
  (x.expected, x.queue, x.recent, x.zone)

/-- A record stands in a zone list. -/
def State.tracks (s : State) (i : RecIx) : Prop := ∃ k, i ∈ (s.slot k).zone.map Passage.record

/-- A record is in hand, or stands in a zone list: the passage tracker may write it. -/
def State.mayWrite (s : State) (held : List RecIx) (i : RecIx) : Prop := i ∈ held ∨ s.tracks i

/-- A passage written in the place of another: its record stays, and so does its context unless a local handoff ends
it; the axles out stay within the axles in, and those within their limit. -/
def Passage.follows (q p : Passage) : Prop :=
  q.record = p.record ∧ (q.handoff = p.handoff ∨ ∃ r, q.handoff = .local r)
    ∧ (p.out ≤ p.axlesIn ∧ p.axlesIn ≤ Config.axleLimit → q.out ≤ q.axlesIn ∧ q.axlesIn ≤ Config.axleLimit)

/-- A slot after the passage at a place has left its zone list. -/
def Slot.without (x : Slot) (i : Nat) : Slot := { x with zone := x.zone.eraseIdx i }

/-- R21: the state in which a record has entered the approach queue, before the throw evaluation. -/
def State.joined (s : State) (k : SlotIx) (seq : Seq) (r : RecIx) : State :=
  let x := s.slot k
  let e := x.expected.getD seq
  let s1 := s.setRecord r { s.record r with
    feedSeq := some seq, timing := some (queueTiming s.time (s.slotCfg k).overdueTime) }
  s1.setSlot k { x with
    expected := some e, queue := insertByDistance (fun i => distance e (s1.queuedSeq i)) r x.queue }

/-- R98 to R101: a slot takes a record under an announced sequence: it is UNSYNCED, or the sequence is next or ahead,
no other record is queued under it, and it finds room. -/
def State.takesSeq (s : State) (k : SlotIx) (seq : Seq) (r : RecIx) : Prop :=
  (s.slot k).expected = none
    ∨ ∃ e, (s.slot k).expected = some e ∧ distance e seq < Config.behindDistance
        ∧ (∀ i ∈ (s.slot k).queue, i ≠ r → s.queuedSeq i ≠ seq) ∧ (s.slot k).queue.length < Config.queueCapacity

/-- R114, R115: what a command makes of the closure table. -/
inductive ClosureChange (s : State) : List Closure → Prop where
  | replaced (n m : Nat) (h : ¬s.refusesClosure n m) :
      ClosureChange s (s.closures.map (fun c => if c.track = n then ⟨n, m⟩ else c))
  | added (n m : Nat) (h : ¬s.refusesClosure n m) (hn : n ∉ s.closures.map Closure.track)
      (hl : s.closures.length < Config.closureCapacity) : ClosureChange s (s.closures ++ [⟨n, m⟩])
  | removed (n : Nat) : ClosureChange s (s.closures.filter (fun c => c.track != n))

/-- R157, R158: what a command or a passage's end makes of the watch table. -/
inductive WatchChange (s : State) : List Tag → Prop where
  | removed (tag : Tag) : WatchChange s (s.watches.erase tag)
  | added (tag : Tag) (h0 : tag ≠ 0) (hn : tag ∉ s.watches) (hl : s.watches.length < Config.watchCapacity) :
      WatchChange s (s.watches ++ [tag])

/-- R142, R148, R150, R151: what a command makes of the bus port, offers apart. -/
inductive PortChange (s : State) : Port → Prop where
  | footing (b : Bool) : PortChange s { s.port with seenIdle := b }
  | started (hs : s.serving = true) (hi : s.port.sending = none) : PortChange s { s.port.start with seenIdle := true }
  | lost (now : Nat) : PortChange s (s.port.loseArbitration now)
  | failed (now : Nat) : PortChange s (s.port.fail now)
  | succeeded : PortChange s s.port.succeed
  | retrying (d : Nat) (h : s.port.retry = .running d) : PortChange s { s.port with retry := .attemptPending }

/-! ### The changes -/

/-- One change that the body of a command makes, from a state and the records in hand to those afterwards. -/
inductive Act : List RecIx → State → List RecIx → State → Prop where
  /-- The order in which records are in hand says nothing. -/
  | shuffle {held held' : List RecIx} {s : State} (h : held.Perm held') : Act held s held' s
  /-- Fields that no law reads. -/
  | idle {held : List RecIx} {s : State} (v : State) : Act held s held (s.withIdle v)
  /-- A slot is written, its lists as they were. -/
  | slot {held : List RecIx} {s : State} {k : SlotIx} {x : Slot} (h : x.lists = (s.slot k).lists) :
      Act held s held (s.setSlot k x)
  /-- A record in hand or in a zone list is written. -/
  | record {held : List RecIx} {s : State} {i : RecIx} (r : Record) (h : s.mayWrite held i) :
      Act held s held (s.setRecord i r)
  /-- R7, R28: a queued record is written under its feed sequence. -/
  | queued {held : List RecIx} {s : State} {k : SlotIx} {i : RecIx} {r : Record} (hi : i ∈ (s.slot k).queue)
      (hr : r.feedSeq = (s.record i).feedSeq) : Act held s held (s.setRecord i r)
  /-- R112: the inspect hold of a record in the cut list is lifted. -/
  | lifted {held : List RecIx} {s : State} {i : RecIx} (h : i ∈ s.cutList) :
      Act held s held (s.setRecord i { s.record i with inspect := false })
  /-- R13: a record is allocated. -/
  | allocated {held : List RecIx} {s : State} {i : RecIx} {rest : List RecIx} (h : s.free = i :: rest) :
      Act held s (i :: held) { s with free := rest }
  /-- R14: a record in hand is freed. -/
  | freed {held : List RecIx} {s : State} {i : RecIx} : Act (i :: held) s held (s.freeRecord i)
  /-- R30: an approach queue is emptied. -/
  | emptied {held : List RecIx} {s : State} (k : SlotIx) :
      Act held s ((s.slot k).queue ++ held) (s.setSlot k (s.slot k).unsynced)
  /-- R24, R26: the head leaves the queue as a consumed sequence. -/
  | consumed {held : List RecIx} {s : State} {k : SlotIx} {e : Seq} {r : RecIx} {rest : List RecIx} (tag : Tag)
      (he : (s.slot k).expected = some e) (hq : (s.slot k).queue = r :: rest)
      (hd : distance e (s.queuedSeq r) = 0) :
      Act held s (r :: held) (s.setSlot k { (s.slot k).consume e .announced tag with queue := rest })
  /-- R24: a sequence that no queued record has goes by. -/
  | passedBy {held : List RecIx} {s : State} {k : SlotIx} {e : Seq} (he : (s.slot k).expected = some e)
      (hd : ∀ r ∈ (s.slot k).queue.head?, distance e (s.queuedSeq r) ≠ 0) :
      Act held s held (s.setSlot k ((s.slot k).consume e .anonymous 0))
  /-- R21: a record in hand enters an approach queue. -/
  | inserted {held : List RecIx} {s : State} {k : SlotIx} {seq : Seq} {r : RecIx} (h : s.takesSeq k seq r) :
      Act (r :: held) s held (s.joined k seq r)
  /-- R65: a passage joins its zone list with a record in hand. -/
  | begun {held : List RecIx} {s : State} {k : SlotIx} {r : RecIx} {p : Passage} (hr : p.record = r)
      (hl : (s.slot k).zone.length < Config.zoneCapacity) (hp : p.out ≤ p.axlesIn ∧ p.axlesIn ≤ Config.axleLimit)
      (hh : p.handoff = .none) :
      Act (r :: held) s held (s.setSlot k { s.slot k with zone := (s.slot k).zone ++ [p] })
  /-- A passage is written, and with an adoption the recent list (R103). -/
  | passage {held : List RecIx} {s : State} {k : SlotIx} {i : Nat} {p q : Passage} {l : List RecentEntry}
      (hp : s.passage k i = some p) (hq : q.follows p) (hl : l.length = (s.slot k).recent.length) :
      Act held s held (s.setSlot k { s.slot k with zone := (s.slot k).zone.set i q, recent := l })
  /-- R88: a handoff is sent. -/
  | sent {held : List RecIx} {s : State} (k : SlotIx) (i : Nat) (f : HandoffFrame) (hs : s.nodeState = .inService) :
      Act held s held { s.setHandoff k i (.sent s.nextHandoff) with
        handoffs := s.handoffs ++ [({ number := s.nextHandoff, frame := f, status := .pending .first none } : Handoff)]
        nextHandoff := s.nextHandoff + 1 }
  /-- R79, R84: a passage leaves its zone list, its context with it. -/
  | left {held : List RecIx} {s : State} {k : SlotIx} {i : Nat} {p : Passage} (hp : s.passage k i = some p) :
      Act held s (p.record :: held) ((p.discard s).setSlot k ((s.slot k).without i))
  /-- R79, R95: a passage leaves its zone list for the wait list, which has room. -/
  | parked {held : List RecIx} {s : State} {k : SlotIx} {i : Nat} {p : Passage} {n : Nat}
      (hp : s.passage k i = some p) (hh : p.handoff = .sent n) (hn : s.isPending n = true)
      (hroom : s.waitList.length < Config.waitCapacity ∨ ∃ e ∈ s.waitList, s.isPending e.handoff = false) :
      Act held s held ({ s with waitList := s.waitList ++ [(⟨p.record, n⟩ : WaitEntry)] }.setSlot k
        ((s.slot k).without i))
  /-- R79, R96: a passage leaves its zone list for the wait list, whose oldest entry makes room. -/
  | displaced {held : List RecIx} {s : State} {k : SlotIx} {i : Nat} {p : Passage} {n : Nat} {e : WaitEntry}
      {rest : List WaitEntry} (hp : s.passage k i = some p) (hh : p.handoff = .sent n) (hn : s.isPending n = true)
      (hw : s.waitList = e :: rest) :
      Act held s (e.record :: held) (({ s with waitList := rest ++ [(⟨p.record, n⟩ : WaitEntry)] }.dropHandoff
        e.handoff).setSlot k ((s.slot k).without i))
  /-- R94, R95: an entry leaves the wait list with its context. -/
  | unparked {held : List RecIx} {s : State} {n : Nat} {e : WaitEntry}
      (h : s.waitList.find? (fun x => x.handoff == n) = some e) :
      Act held s (e.record :: held)
        ({ s with waitList := s.waitList.eraseP (fun x => x.handoff == n) }.dropHandoff n)
  /-- R94: a context that is not in the wait list resolves. -/
  | resolved {held : List RecIx} {s : State} {n : Nat} (o : HandoffOutcome)
      (h : s.waitList.find? (fun x => x.handoff == n) = none) : Act held s held (s.setStatus n (.resolved o))
  /-- R90, R91, R97: a context comes to another attempt, or its timer starts. -/
  | retried {held : List RecIx} {s : State} (n : Nat) (a : Attempt) (timer : Option Nat) :
      Act held s held (s.setStatus n (.pending a timer))
  /-- R154: an alarm is offered to the capture. -/
  | alarmed {held : List RecIx} {s : State} (inc : Incident) : Act held s held (s.captureAlarm inc)
  /-- R147 to R149: a frame is offered to the transmit queue. -/
  | offered {held : List RecIx} {s : State} {f : OutFrame} (o : Option Nat) (hf : f.isOrdinary = true)
      (hs : s.nodeState = .inService ∨ s.handoffs ≠ []) :
      Act held s held (s.setQueue (enqueue (.offered f o) s.port.queue).1)
  /-- R131, R148: a mask stands, and is offered in a HOLD_STATE. -/
  | masked {held : List RecIx} {s : State} (m : HoldMask) (hs : s.nodeState = .inService) :
      Act held s held ({ s with holdMask := m }.setQueue
        (enqueue (.offered (.holdState m .inService) none) s.port.queue).1)
  /-- R127: before service a mask stands without a HOLD_STATE. -/
  | formed {held : List RecIx} {s : State} (m : HoldMask) (hs : s.nodeState ≠ .inService) :
      Act held s held { s with holdMask := m }
  /-- R157, R158: the watch table. -/
  | watched {held : List RecIx} {s : State} {l : List Tag} (h : WatchChange s l) : Act held s held { s with watches := l }
  /-- R114, R115: the closure table. -/
  | closed {held : List RecIx} {s : State} {l : List Closure} (hs : s.nodeState = .inService)
      (h : ClosureChange s l) : Act held s held { s with closures := l }
  /-- R110, R111, R118: records leave the cut list. -/
  | cut {held : List RecIx} {s : State} {taken l : List RecIx} (hp : s.cutList.Perm (taken ++ l))
      (hl : l.Sublist s.cutList) : Act held s (taken ++ held) { s with cutList := l }
  /-- R109: a record in hand joins the cut list. -/
  | listed {held : List RecIx} {s : State} {r : RecIx} (p : CutEntryPayload) (h0 : p.tag ≠ 0)
      (ht : ∀ i ∈ s.cutList, (s.record i).tag ≠ p.tag) (hl : s.cutList.length < Config.cutListCapacity) :
      Act (r :: held) s held { s.setRecord r (enteredRecord p) with cutList := s.cutList ++ [r] }
  /-- The bus port's own changes. -/
  | ported {held : List RecIx} {s : State} {p : Port} (h : PortChange s p) : Act held s held (s.setPort p)

/-- From `s` the body of a command has come to `u`, with the records `held` in hand. -/
inductive Work (s : State) : List RecIx → State → Prop where
  | start : Work s [] s
  | act {held held' : List RecIx} {u v : State} (h : Work s held u) (ha : Act held u held' v) : Work s held' v

/-- What each change keeps, the body of a command keeps. -/
theorem Work.keeps {s : State} {P : List RecIx → State → Prop}
    (hact : ∀ {held held' : List RecIx} {u v : State}, Act held u held' v → P held u → P held' v)
    {held : List RecIx} {u : State} (h : Work s held u) (hs : P [] s) : P held u := by
  induction h with
  | start => exact hs
  | act _ ha ih => exact hact ha ih

end Sys2Proof.Machine
end

section
/-! SUPPORT. What the body of a command does, for reports, points, queues and the receiver's rules: each operation of
the model is made of the changes of `Act`. One lemma for each operation, in the order of the model. -/

namespace Sys2Proof.Machine

/-! ### What reports leave of a zone list -/

theorem State.zone_of_apartFromReports {u v : State} (h : u.apartFromReports = v.apartFromReports) (k : SlotIx) :
    (u.slot k).zone = (v.slot k).zone := by
  have hk := congrArg (fun x => (State.slot x k).zone) h
  simpa [Slot.apartFromTimer] using hk

@[simp] theorem State.zone_raise (s : State) (inc : Incident) (k : SlotIx) :
    ((s.raise inc).slot k).zone = (s.slot k).zone :=
  State.zone_of_apartFromReports (s.apartFromReports_raise inc) k

@[simp] theorem State.zone_evaluateThrow (s : State) (k j : SlotIx) :
    ((s.evaluateThrow k).slot j).zone = (s.slot j).zone := by
  unfold State.evaluateThrow
  split
  · rfl
  · split
    · rw [State.slot_setSlot_eq_ite]
      split
      · rename_i hj
        rw [hj]; rfl
      · rfl
    · rfl

@[simp] theorem State.zone_lateThrow (s : State) (k j : SlotIx) (r : RecIx) :
    ((s.lateThrow k r).slot j).zone = (s.slot j).zone := by
  unfold State.lateThrow
  split
  · rw [State.slot_setSlot_eq_ite]
    split
    · rename_i hj
      rw [hj]; rfl
    · rfl
  · rfl

@[simp] theorem State.zone_decideStray (s : State) (k j : SlotIx) (r : RecIx) :
    ((s.decideStray k r).slot j).zone = (s.slot j).zone := by
  unfold State.decideStray
  split_ifs
  · rfl
  · rfl
  · rw [State.zone_raise, State.slot_addFlags]

@[simp] theorem State.zone_decideDivert (s : State) (k j : SlotIx) (intended : Option Leg) (r : RecIx) :
    ((s.decideDivert k intended r).slot j).zone = (s.slot j).zone := by
  unfold State.decideDivert
  split
  · rfl
  · split_ifs
    · rfl
    · rw [State.zone_raise, State.slot_addFlags]
    · rfl

/-! ### Records that stand in a zone list -/

theorem State.tracks_congr {u v : State} (h : ∀ k, (u.slot k).zone = (v.slot k).zone) (i : RecIx) :
    u.tracks i ↔ v.tracks i := by
  unfold State.tracks
  simp only [h]

theorem State.tracks_of_passage {s : State} {k : SlotIx} {i : Nat} {p : Passage} (h : s.passage k i = some p) :
    s.tracks p.record :=
  ⟨k, List.mem_map_of_mem (List.mem_of_getElem? h)⟩

theorem State.passage_setPassage {s : State} {k : SlotIx} {i : Nat} {p q : Passage} (h : s.passage k i = some p) :
    (s.setPassage k i q).passage k i = some q := by
  obtain ⟨hi, -⟩ := List.getElem?_eq_some_iff.mp h
  unfold State.passage State.setPassage
  rw [State.slot_setSlot]
  exact List.getElem?_set_self hi

theorem State.tracks_setPassage {s : State} {k : SlotIx} {i : Nat} {p q : Passage} (h : s.passage k i = some p)
    (hq : q.record = p.record) : (s.setPassage k i q).tracks p.record :=
  hq ▸ State.tracks_of_passage (State.passage_setPassage h)

/-! ### The node state -/

theorem State.nodeState_joined (s : State) (k : SlotIx) (seq : Seq) (r : RecIx) :
    (s.joined k seq r).nodeState = s.nodeState := rfl

theorem State.nodeState_setHandoff (s : State) (k : SlotIx) (i : Nat) (x : PassageHandoff) :
    (s.setHandoff k i x).nodeState = s.nodeState := by
  unfold State.setHandoff
  split <;> rfl

theorem State.nodeState_discard (s : State) (p : Passage) : (p.discard s).nodeState = s.nodeState := by
  unfold Passage.discard
  split <;> rfl

theorem Act.nodeState {held held' : List RecIx} {u v : State} (h : Act held u held' v) :
    v.nodeState = u.nodeState := by
  cases h with
  | sent k i f hs => exact State.nodeState_setHandoff _ _ _ _
  | left hp => exact State.nodeState_discard _ _
  | alarmed inc => exact State.nodeState_captureAlarm _ _
  | _ => rfl

theorem Work.nodeState {s u : State} {held : List RecIx} (h : Work s held u) : u.nodeState = s.nodeState :=
  h.keeps (P := fun _ x => x.nodeState = s.nodeState) (fun ha hx => ha.nodeState.trans hx) rfl

/-! ### The lists of a slot that fails -/

theorem Slot.lists_abandon (x : Slot) : x.abandon.lists = x.lists := by
  unfold Slot.abandon
  split <;> rfl

theorem Slot.lists_fail (x : Slot) : x.fail.lists = x.lists := by
  unfold Slot.fail
  split
  · rfl
  · exact x.lists_abandon

namespace Work
variable {s u : State} {held : List RecIx}

theorem shuffle (h : Work s held u) {held' : List RecIx} (hp : held.Perm held') : Work s held' u :=
  .act h (.shuffle hp)

theorem idle (h : Work s held u) (v : State) : Work s held (u.withIdle v) := .act h (.idle v)

theorem reach (h : Work s held u) (d : Nat) : Work s held (u.reach d) := h.idle (u.reach d)

theorem slot (h : Work s held u) {k : SlotIx} {x : Slot} (hx : x.lists = (u.slot k).lists := by rfl) :
    Work s held (u.setSlot k x) := .act h (.slot hx)

theorem record (h : Work s held u) {i : RecIx} (r : Record) (hi : u.mayWrite held i) :
    Work s held (u.setRecord i r) := .act h (.record r hi)

theorem addFlags (h : Work s held u) {i : RecIx} (f : Flags) (hi : u.mayWrite held i) :
    Work s held (u.addFlags i f) := h.record _ hi

theorem freed {i : RecIx} (h : Work s (i :: held) u) : Work s held (u.freeRecord i) := .act h .freed

theorem freeRecords {is : List RecIx} (h : Work s (is ++ held) u) : Work s held (u.freeRecords is) := by
  induction is generalizing u with
  | nil => exact h
  | cons i is ih => exact ih h.freed

theorem allocated (h : Work s held u) {t : State} {i : RecIx} (ha : u.allocate = some (i, t)) :
    Work s (i :: held) t := by
  obtain ⟨rest, hfree, rfl⟩ := State.allocate_eq_some_iff.mp ha
  exact .act h (.allocated hfree)

theorem passage (h : Work s held u) {k : SlotIx} {i : Nat} {p q : Passage} (hp : u.passage k i = some p)
    (hq : q.follows p) : Work s held (u.setPassage k i q) :=
  .act h (.passage (l := (u.slot k).recent) hp hq rfl)

/-! ### Reports (sections 5.5 to 5.7, 8.5, 9.3) -/

theorem captureAlarm (h : Work s held u) (inc : Incident) : Work s held (u.captureAlarm inc) := .act h (.alarmed inc)

theorem enqueue (h : Work s held u) {f : OutFrame} (hf : f.isOrdinary = true) (o : Option Nat)
    (hu : u.nodeState = .inService ∨ u.handoffs ≠ []) :
    Work s held (u.setQueue (Machine.enqueue (.offered f o) u.port.queue).1) := .act h (.offered o hf hu)

theorem offerReport (h : Work s held u) {f : OutFrame} (hf : f.isOrdinary = true) : Work s held (u.offerReport f) := by
  unfold State.offerReport
  split
  · rename_i hs
    have hset := h.enqueue hf none (.inl (beq_iff_eq.mp hs))
    unfold State.noteDiscard
    split
    · exact hset
    · exact hset.captureAlarm _
  · exact h

theorem raise (h : Work s held u) (inc : Incident) : Work s held (u.raise inc) := by
  unfold State.raise
  split
  · exact (h.captureAlarm inc).offerReport rfl
  · exact h.offerReport rfl

theorem resolve (h : Work s held u) (n : Nat) (o : HandoffOutcome) : Work s held (u.resolve n o) := by
  unfold State.resolve
  split
  · rename_i e he
    exact freed (.act h (.unparked he))
  · rename_i hn
    exact .act h (.resolved o hn)

theorem latched (h : Work s held u) : Work s held { u with faultLatch := true } :=
  h.idle { u with faultLatch := true }

theorem refuseHandoff (h : Work s held u) (inc : Incident) : Work s held (u.refuseHandoff inc) := h.latched.raise inc

theorem lose (h : Work s held u) (n : Nat) : Work s held (u.lose n) := by
  unfold State.lose
  split
  · split
    · exact (h.refuseHandoff _).resolve n .lost
    · exact h
  · exact h

theorem secondAttempt (h : Work s held u) (n : Nat) : Work s held (u.secondAttempt n) := by
  unfold State.secondAttempt
  split
  · exact h
  · rename_i x hx
    have hretried : Work s held (u.setStatus n (.pending .second none)) := .act h (.retried n .second none)
    have hsome : (u.setStatus n (.pending .second none)).handoffs ≠ [] := by
      have hne : u.handoffs ≠ [] := List.ne_nil_of_mem (List.mem_of_find?_eq_some hx)
      simpa [State.setStatus] using hne
    have hset := hretried.enqueue (f := .handoff x.frame) rfl (some n) (.inr hsome)
    split
    · rename_i heq
      rwa [show (u.setStatus n (.pending .second none)).port = u.port from rfl, heq] at hset
    · rename_i heq
      rw [show (u.setStatus n (.pending .second none)).port = u.port from rfl, heq] at hset
      split
      · exact hset.captureAlarm _
      · exact (hset.captureAlarm _).lose _

theorem attemptExpired (h : Work s held u) (n : Nat) : Work s held (u.attemptExpired n) := by
  unfold State.attemptExpired
  split
  · split
    · exact h.secondAttempt n
    · exact h.lose n
    · exact h
  · exact h

/-- What a discard causes, once the queue has been written. -/
theorem offer_of_enqueue {f : OutFrame} {o : Option Nat}
    (h : Work s held (u.setQueue (Machine.enqueue (.offered f o) u.port.queue).1)) (hs : u.serving = true) :
    Work s held (u.offer f o) := by
  unfold State.offer
  rw [if_pos hs]
  split
  · rename_i heq
    rwa [heq] at h
  · rename_i heq
    rw [heq] at h
    split
    · exact h.captureAlarm _
    · exact (h.captureAlarm _).attemptExpired _

theorem offer (h : Work s held u) {f : OutFrame} (hf : f.isOrdinary = true) (o : Option Nat) :
    Work s held (u.offer f o) := by
  by_cases hs : u.serving = true
  · exact offer_of_enqueue (h.enqueue hf o (.inl (beq_iff_eq.mp hs))) hs
  · rwa [State.offer, if_neg hs]

theorem offerHoldState (h : Work s held u) (m : HoldMask) (hs : u.nodeState = .inService) :
    Work s held { u with holdMask := m }.offerHoldState := by
  have hserving : u.serving = true := beq_iff_eq.mpr hs
  have hmasked : Work s held _ := .act h (.masked m hs)
  rw [← hs] at hmasked
  unfold State.offerHoldState
  rw [if_pos (show State.serving { u with holdMask := m } = true from hserving)]
  refine offer_of_enqueue ?_ hserving
  exact hmasked.idle { u with periodTimer := some (u.time + Config.periodTime) }

/-! ### What follows an event (chapters 4 and 7) -/

theorem timeGhost (h : Work s held u) (b : State) (k : SlotIx) : Work s held (b.timeGhost u k) := by
  refine h.slot ?_
  unfold Slot.timeGhost
  split
  · split <;> rfl
  · rfl

theorem updateMask (h : Work s held u) : Work s held u.updateMask := by
  unfold State.updateMask
  split
  · exact h
  · by_cases hs : u.nodeState = .inService
    · exact h.offerHoldState _ hs
    · unfold State.offerHoldState
      rw [if_neg (show ¬State.serving { u with holdMask := u.formMask } = true from fun e => hs (beq_iff_eq.mp e))]
      exact .act h (.formed u.formMask hs)

theorem timeGhosts (h : Work s held u) (b : State) : Work s held (b.timeGhosts u) :=
  (((h.timeGhost b 0).timeGhost b 1).timeGhost b 2).timeGhost b 3

theorem setLines (h : Work s held u) : Work s held u.setLines := h.idle u.setLines

theorem settle (h : Work s held u) (b : State) : Work s held (b.settle u) :=
  (h.timeGhosts b).updateMask.updateMask.setLines

/-! ### Point control (chapter 3) -/

theorem evaluateThrow (h : Work s held u) (k : SlotIx) : Work s held (u.evaluateThrow k) := by
  unfold State.evaluateThrow
  split
  · exact h
  · split
    · exact h.slot
    · exact h

theorem lateThrow (h : Work s held u) (k : SlotIx) (r : RecIx) : Work s held (u.lateThrow k r) := by
  unfold State.lateThrow
  split
  · exact h.slot
  · exact h

theorem failSlot (h : Work s held u) (k : SlotIx) (inc : Incident) : Work s held (u.failSlot k inc) :=
  (h.slot (Slot.lists_fail _)).raise inc

theorem decideStray (h : Work s held u) {r : RecIx} (hr : u.mayWrite held r) (k : SlotIx) :
    Work s held (u.decideStray k r) := by
  unfold State.decideStray
  split_ifs
  · exact h
  · exact h
  · exact (h.addFlags _ hr).raise _

end Work
end Sys2Proof.Machine
end

section
/-! SUPPORT. What the body of a command does at a slot's point, at its approach queue, and for the receiver of a handoff
(chapters 2, 3 and 5), in the changes of `Act`. -/

namespace Sys2Proof.Machine

/-! ### Lists that point control leaves -/

theorem Slot.lists_setInput (x : Slot) (input : Leg) (b : Bool) : (x.setInput input b).lists = x.lists := by
  cases input <;> rfl

theorem Slot.lists_advanceFeed (x : Slot) (leg : Leg) : (x.advanceFeed leg).lists = x.lists := by
  cases leg <;> rfl

/-! ### Passages written -/

theorem Passage.follows_refl (p : Passage) : p.follows p := ⟨rfl, .inl rfl, fun h => h⟩

/-- R85: an adoption changes no count of a passage. -/
theorem Passage.adopt_follows (p : Passage) (expected : Nat) : (p.adopt expected).follows p := by
  unfold Passage.adopt
  split_ifs <;> exact p.follows_refl

/-! ### The record in a receipt -/

/-- R100, R101, R120: the record that an announcement offers, unless the slot has taken it. -/
def Announcement.left (a : Announcement) (x : Receipt) : List RecIx := if x = .queued then [] else a.offered.toList

theorem Announcement.left_queued (a : Announcement) : a.left .queued = [] := if_pos rfl

theorem Announcement.left_of_ne (a : Announcement) {x : Receipt} (h : x ≠ .queued) : a.left x = a.offered.toList :=
  if_neg h

theorem Announcement.left_of_none {a : Announcement} (h : a.offered = none) (x : Receipt) : a.left x = [] := by
  unfold Announcement.left
  rw [h]
  exact ite_self _

theorem State.takesSeq.setRecord {u : State} {k : SlotIx} {seq : Seq} {r : RecIx} (h : u.takesSeq k seq r) (x : Record) :
    (u.setRecord r x).takesSeq k seq r := by
  rcases h with h | ⟨e, he, hd, hq, hl⟩
  · exact .inl h
  · refine .inr ⟨e, he, hd, fun i hi hne => ?_, hl⟩
    rw [State.queuedSeq, State.record_setRecord_of_ne _ _ _ _ hne]
    exact hq i hi hne

/-! ### Receipts of a behind handoff -/

theorem State.receipt_receiveAnonymous (u : State) (k : SlotIx) (a : Announcement) :
    (u.receiveAnonymous k a).2 ≠ .queued := by
  unfold State.receiveAnonymous State.refuseLate
  split
  · simp
  · split
    · simp
    · split <;> simp

theorem State.receipt_receiveBehind (u : State) (k : SlotIx) (a : Announcement) : (u.receiveBehind k a).2 ≠ .queued := by
  unfold State.receiveBehind
  split
  · simp [State.refuseLate]
  · split
    · split <;> simp [State.refuseLate]
    · exact u.receipt_receiveAnonymous k a

namespace Work
variable {s u : State} {held : List RecIx}

/-! ### Point control (chapter 3) -/

theorem followDetection (h : Work s held u) (k : SlotIx) : Work s held (u.followDetection k) := by
  unfold State.followDetection
  dsimp only
  split
  · exact h.slot.failSlot k _
  · exact h.slot

theorem throwDetection (h : Work s held u) (k : SlotIx) (t : Throw) : Work s held (u.throwDetection k t) := by
  unfold State.throwDetection
  split
  · exact h.slot.evaluateThrow k
  · exact h

theorem changeDetection (h : Work s held u) (k : SlotIx) (input : Leg) (b : Bool) :
    Work s held (u.changeDetection k input b) := by
  have hset := h.slot ((u.slot k).lists_setInput input b)
  unfold State.changeDetection
  dsimp only
  split
  · split
    · exact hset.throwDetection k _
    · exact hset.followDetection k
    · exact hset.followDetection k
    · exact hset.followDetection k
  · exact hset

theorem stopUnderCut (h : Work s held u) (k : SlotIx) : Work s held (u.stopUnderCut k) := by
  unfold State.stopUnderCut
  split
  · exact h.slot.failSlot k _
  all_goals exact h

theorem occupyFouling (h : Work s held u) (k : SlotIx) : Work s held (u.occupyFouling k) := by
  unfold State.occupyFouling
  dsimp only
  split
  · exact h.slot.stopUnderCut k
  · exact h.slot

theorem throwExpired (h : Work s held u) (k : SlotIx) (t : Throw) : Work s held (u.throwExpired k t) := by
  unfold State.throwExpired
  split
  · exact h.slot.failSlot k _
  · exact h.slot

theorem resumeThrow (h : Work s held u) (k : SlotIx) (t : Throw) : Work s held (u.resumeThrow k t) := h.slot

theorem blockSlot (h : Work s held u) (k : SlotIx) : Work s held (u.blockSlot k).2 := by
  unfold State.blockSlot
  dsimp only
  split
  · exact h.slot (u.slot k).lists_abandon
  · exact h

theorem freeSlot (h : Work s held u) (k : SlotIx) : Work s held (u.freeSlot k).2 := by
  unfold State.freeSlot
  dsimp only
  split_ifs
  · exact h.slot
  · exact h.slot.evaluateThrow k
  · exact h

/-! ### Approach queues (chapter 2) -/

theorem insertRecord {k : SlotIx} {seq : Seq} {r : RecIx} (h : Work s (r :: held) u) (ht : u.takesSeq k seq r) :
    Work s held (u.insertRecord k seq r) := by
  have hjoined : Work s held (u.joined k seq r) := .act h (.inserted ht)
  unfold State.insertRecord
  dsimp only
  split
  · exact hjoined.evaluateThrow k
  · exact hjoined

/-- R24, R26: the head at distance 0 leaves its queue as a consumed sequence. -/
theorem consumed (h : Work s held u) {k : SlotIx} {e : Seq} {r : RecIx} {rest : List RecIx} (tag : Tag)
    (he : (u.slot k).expected = some e) (hq : (u.slot k).queue = r :: rest) (hd : distance e (u.queuedSeq r) = 0) :
    Work s (r :: held) (u.setSlot k { (u.slot k).consume e .announced tag with queue := rest }) :=
  .act h (.consumed tag he hq hd)

theorem consumeHead (h : Work s held u) {k : SlotIx} {e : Seq} {r : RecIx} {rest : List RecIx}
    (he : (u.slot k).expected = some e) (hq : (u.slot k).queue = r :: rest) (hd : distance e (u.queuedSeq r) = 0) :
    Work s (r :: held) (u.consumeHead k e r rest).state := by
  have hmem : r ∈ (u.slot k).queue := hq ▸ List.mem_cons_self
  have hwritten : Work s held (u.setRecord r { u.record r with timing := none }) := .act h (.queued hmem rfl)
  refine hwritten.consumed (u.record r).tag he hq ?_
  rwa [State.queuedSeq, State.record_setRecord]

theorem consumeAnonymous (h : Work s held u) {k : SlotIx} {e : Seq} {c : Consumed}
    (he : (u.slot k).expected = some e) (hd : ∀ r ∈ (u.slot k).queue.head?, distance e (u.queuedSeq r) ≠ 0)
    (hc : u.consumeAnonymous k e = some c) : Work s (c.record :: held) c.state := by
  unfold State.consumeAnonymous at hc
  split at hc
  · exact absurd hc (by simp)
  · rename_i r v hal
    obtain rfl := Option.some.inj hc
    obtain ⟨rest, hfree, rfl⟩ := State.allocate_eq_some_iff.mp hal
    have htaken : Work s (r :: held) { u with free := rest } := .act h (.allocated hfree)
    have hpassed : Work s (r :: held)
        (State.setSlot { u with free := rest } k ((u.slot k).consume e .anonymous 0)) := .act htaken (.passedBy he hd)
    dsimp only
    exact hpassed.raise _

theorem consumeUnsynced (h : Work s held u) {k : SlotIx} {c : Consumed} (hc : u.consumeUnsynced k = some c) :
    Work s (c.record :: held) c.state := by
  unfold State.consumeUnsynced at hc
  split at hc
  · exact absurd hc (by simp)
  · rename_i hal
    obtain rfl := Option.some.inj hc
    dsimp only
    exact (h.allocated hal).raise _

theorem consume (h : Work s held u) {k : SlotIx} {c : Consumed} (hc : u.consume k = some c) :
    Work s (c.record :: held) c.state := by
  unfold State.consume at hc
  split at hc
  · exact h.consumeUnsynced hc
  · rename_i e he
    split at hc
    · rename_i hq
      exact h.consumeAnonymous he (by simp [hq]) hc
    · rename_i r rest hq
      split at hc
      · rename_i hd
        obtain rfl := Option.some.inj hc
        exact h.consumeHead he hq hd
      · rename_i hd
        exact h.consumeAnonymous he (by simpa [hq] using hd) hc

theorem absorbHead (h : Work s held u) {k : SlotIx} {e : Seq} {r : RecIx} {rest : List RecIx}
    (he : (u.slot k).expected = some e) (hq : (u.slot k).queue = r :: rest) (hd : distance e (u.queuedSeq r) = 0) :
    Work s held (u.absorbHead k e r rest) :=
  (h.consumed (u.record r).tag he hq hd).freed.evaluateThrow k

theorem emptyQueue (h : Work s held u) (k : SlotIx) : Work s held (u.emptyQueue k) := by
  rw [State.emptyQueue_eq]
  exact freeRecords (.act h (.emptied k))

theorem markOverdue (h : Work s held u) {k : SlotIx} {i : RecIx} (hi : i ∈ (u.slot k).queue) (t : QueueTiming) :
    Work s held (u.markOverdue k i t) := by
  have hmarked : Work s held ((u.reach t.deadline).setRecord i
      { u.record i with timing := some { t with marked := true } }) :=
    .act (h.reach t.deadline) (.queued (k := k) hi rfl)
  exact hmarked.raise _

theorem expireOverdue (h : Work s held u) (k : SlotIx) (seq : Seq) : Work s held (u.expireOverdue k seq) := by
  unfold State.expireOverdue
  split
  · split
    · exact h
    · rename_i i hi
      split
      · exact h
      · split
        · exact h
        · exact h.markOverdue (List.mem_of_find?_eq_some hi) _
  · exact h

/-! ### The receiver's rules (section 5.9) -/

theorem takeAnnounced {k : SlotIx} {a : Announcement} (h : Work s (a.offered.toList ++ held) u)
    (ht : ∀ r, u.takesSeq k a.seq r) : Work s (a.left (u.takeAnnounced k a).2 ++ held) (u.takeAnnounced k a).1 := by
  unfold State.takeAnnounced
  split
  · rename_i r hr
    rw [hr] at h
    rw [Announcement.left_queued]
    exact insertRecord h (ht r)
  · rename_i hr
    rw [hr] at h
    rw [Announcement.left_of_none hr]
    split
    · exact h
    · rename_i r v hal
      have hwritten := (h.allocated hal).record a.contents.newRecord (.inl List.mem_cons_self)
      obtain ⟨rest, -, rfl⟩ := State.allocate_eq_some_iff.mp hal
      exact hwritten.insertRecord (State.takesSeq.setRecord (ht r) _)

theorem divertAdopted (h : Work s held u) (k : SlotIx) {p : Passage} (hp : u.tracks p.record) :
    Work s held (u.divertAdopted k p) := by
  unfold State.divertAdopted
  split
  · exact h.addFlags _ (.inr hp)
  · exact h

theorem adopt (h : Work s held u) {k : SlotIx} {i : Nat} {p : Passage} (hp : u.passage k i = some p)
    (a : Announcement) : Work s held (u.adopt k i p a) := by
  have hrecord : Work s held (u.setRecord p.record ((u.record p.record).adopt a.seq a.contents)) :=
    h.record _ (.inr (State.tracks_of_passage hp))
  have hwritten : Work s held (u.writeAdoption k i p a) :=
    .act hrecord (.passage (p := p) hp (p.adopt_follows _) (List.length_map _))
  have htracks : (u.writeAdoption k i p a).tracks p.record :=
    (State.tracks_congr (v := u.setPassage k i (p.adopt a.contents.expectedAxles)) (fun j => by
      unfold State.writeAdoption State.setPassage
      rw [State.slot_setSlot_eq_ite, State.slot_setSlot_eq_ite]
      split <;> rfl) _).mpr (State.tracks_setPassage hp (p.adopt_follows _).1)
  have hstrayed : ((u.writeAdoption k i p a).decideStray k p.record).tracks p.record :=
    (State.tracks_congr (fun j => State.zone_decideStray _ k j _) _).mpr htracks
  exact ((hwritten.decideStray (.inr htracks) k).divertAdopted k hstrayed).raise _

theorem refuseLate (h : Work s held u) (k : SlotIx) (a : Announcement) : Work s held (u.refuseLate k a).1 :=
  h.raise (lateIncident k a false)

theorem receiveAnonymous (h : Work s held u) (k : SlotIx) (a : Announcement) :
    Work s held (u.receiveAnonymous k a).1 := by
  unfold State.receiveAnonymous
  split
  · exact h.refuseLate k a
  · split
    · exact h.refuseLate k a
    · rename_i hp
      split
      · exact h.refuseLate k a
      · exact h.adopt hp a

theorem receiveBehind (h : Work s held u) (k : SlotIx) (a : Announcement) :
    Work s held (u.receiveBehind k a).1 := by
  unfold State.receiveBehind
  split
  · exact h.refuseLate k a
  · split
    · split
      · exact h
      · exact h.refuseLate k a
    · exact h.receiveAnonymous k a

theorem receiveAhead {k : SlotIx} {a : Announcement} (h : Work s (a.offered.toList ++ held) u) {e : Seq}
    (he : (u.slot k).expected = some e) (hd : distance e a.seq < Config.behindDistance) :
    Work s (a.left (u.receiveAhead k a).2 ++ held) (u.receiveAhead k a).1 := by
  unfold State.receiveAhead
  split_ifs with hq hl
  · rwa [Announcement.left_of_ne _ (by simp)]
  · rwa [Announcement.left_of_ne _ (by simp)]
  · refine takeAnnounced h fun r => .inr ⟨e, he, hd, fun i hi _ => ?_, Nat.lt_of_not_le hl⟩
    simp only [List.any_eq_true, not_exists, not_and, beq_iff_eq] at hq
    exact hq i hi

theorem receive {k : SlotIx} {a : Announcement} (h : Work s (a.offered.toList ++ held) u) :
    Work s (a.left (u.receive k a).2 ++ held) (u.receive k a).1 := by
  unfold State.receive
  split
  · rwa [Announcement.left_of_ne _ (by simp)]
  · split
    · rwa [Announcement.left_of_ne _ (by simp)]
    · split
      · rename_i he
        exact takeAnnounced h fun _ => .inl he
      · rename_i e he
        split
        · rename_i hd
          exact receiveAhead h he hd
        · rw [Announcement.left_of_ne _ (u.receipt_receiveBehind k a)]
          exact h.receiveBehind k a

/-- A handoff that offers no record of its own leaves none in hand. -/
theorem receive_of_none (h : Work s held u) {a : Announcement} (ha : a.offered = none) (k : SlotIx) :
    Work s held (u.receive k a).1 := by
  have hreceived := receive (k := k) (a := a) (held := held) (by rw [ha]; exact h)
  rwa [Announcement.left_of_none ha] at hreceived

end Work
end Sys2Proof.Machine
end

section
/-! SUPPORT. What the body of a command does when it sends a handoff and when a passage begins, goes on and ends
(chapters 4 and 5), in the changes of `Act`. -/

namespace Sys2Proof.Machine

/-! ### What reports leave of the handoffs -/

@[simp] theorem State.handoffs_captureAlarm (s : State) (inc : Incident) :
    (s.captureAlarm inc).handoffs = s.handoffs := by
  unfold State.captureAlarm; split <;> rfl

@[simp] theorem State.waitList_captureAlarm (s : State) (inc : Incident) :
    (s.captureAlarm inc).waitList = s.waitList := by
  unfold State.captureAlarm; split <;> rfl

@[simp] theorem State.handoffs_offerReport (s : State) (f : OutFrame) :
    (s.offerReport f).handoffs = s.handoffs := by
  unfold State.offerReport State.noteDiscard
  split
  · split
    · rfl
    · exact State.handoffs_captureAlarm _ _
  · rfl

@[simp] theorem State.waitList_offerReport (s : State) (f : OutFrame) :
    (s.offerReport f).waitList = s.waitList := by
  unfold State.offerReport State.noteDiscard
  split
  · split
    · rfl
    · exact State.waitList_captureAlarm _ _
  · rfl

@[simp] theorem State.handoffs_raise (s : State) (inc : Incident) : (s.raise inc).handoffs = s.handoffs := by
  unfold State.raise; split <;> simp

@[simp] theorem State.waitList_raise (s : State) (inc : Incident) : (s.raise inc).waitList = s.waitList := by
  unfold State.raise; split <;> simp

theorem State.isPending_congr {u v : State} (h : u.handoffs = v.handoffs) (n : Nat) : u.isPending n = v.isPending n := by
  unfold State.isPending State.handoff?
  rw [h]

@[simp] theorem State.handoffs_setHandoff (s : State) (k : SlotIx) (i : Nat) (x : PassageHandoff) :
    (s.setHandoff k i x).handoffs = s.handoffs := by
  unfold State.setHandoff; split <;> rfl

/-- R63: a PENDING context is that of a handoff. -/
theorem State.handoff?_of_isPending {s : State} {n : Nat} (h : s.isPending n = true) : ∃ x, s.handoff? n = some x := by
  unfold State.isPending at h
  split at h
  · exact absurd h (by simp)
  · rename_i hx
    exact ⟨_, hx⟩

/-- R95: a wait list whose oldest entry is not displaced has room, or an entry that is not PENDING. -/
theorem State.room_of_displaced_none {s : State} (h : s.displaced = none) :
    s.waitList.length < Config.waitCapacity ∨ ∃ e ∈ s.waitList, s.isPending e.handoff = false := by
  unfold State.displaced at h
  split at h
  · rename_i hw
    rw [hw]
    exact .inl (by decide)
  · rename_i e rest hw
    split at h
    · rename_i hc
      exact hc.imp_right fun he => ⟨e, hw ▸ List.mem_cons_self, he⟩
    · rename_i hc
      obtain ⟨x, hx⟩ := State.handoff?_of_isPending (Bool.eq_true_of_not_eq_false (not_or.mp hc).2)
      rw [hx] at h
      exact absurd h (by simp)

/-- R95: the oldest entry of the wait list resolves. -/
theorem State.resolve_head {s : State} {e : WaitEntry} {rest : List WaitEntry} (h : s.waitList = e :: rest)
    (o : HandoffOutcome) :
    s.resolve e.handoff o = ({ s with waitList := rest }.dropHandoff e.handoff).freeRecord e.record := by
  unfold State.resolve
  simp only [h, List.find?_cons, List.eraseP_cons, beq_self_eq_true]
  rfl

/-! ### What the end of a passage leaves of the zone lists -/

@[simp] theorem State.zone_checkWatch (s : State) (k j : SlotIx) (leg : Leg) (tag : Tag) :
    ((s.checkWatch k leg tag).slot j).zone = (s.slot j).zone := by
  unfold State.checkWatch
  split
  · exact State.zone_of_apartFromReports (State.apartFromReports_offer _ _ _) j
  · rfl

theorem State.zone_reportEnd (s : State) (k j : SlotIx) (p : Passage) :
    ((s.reportEnd k p).slot j).zone = (s.slot j).zone := by
  unfold State.reportEnd
  split
  · rfl
  · rename_i leg _
    have harrived : ((s.reportArrival k leg (s.record p.record)).slot j).zone = (s.slot j).zone := by
      unfold State.reportArrival
      split
      · exact State.zone_of_apartFromReports (State.apartFromReports_offer _ _ _) j
      · rfl
    unfold State.checkWatches
    split <;> simp [harrived]

theorem State.zone_consume {s : State} {k : SlotIx} {c : Consumed} (hc : s.consume k = some c) (j : SlotIx) :
    (c.state.slot j).zone = (s.slot j).zone := by
  have hset (v : State) (x : Slot) (hv : ∀ i, v.slot i = s.slot i) (hx : x.zone = (s.slot k).zone) :
      ((v.setSlot k x).slot j).zone = (s.slot j).zone := by
    rw [State.slot_setSlot_eq_ite]
    split
    · rename_i hj
      rw [hj, hx]
    · rw [hv]
  have hanonymous (e : Seq) (ha : s.consumeAnonymous k e = some c) : (c.state.slot j).zone = (s.slot j).zone := by
    unfold State.consumeAnonymous at ha
    split at ha
    · exact absurd ha (by simp)
    · rename_i hal
      obtain ⟨rest, -, rfl⟩ := State.allocate_eq_some_iff.mp hal
      obtain rfl := Option.some.inj ha
      exact (State.zone_raise _ _ _).trans (hset _ _ (fun _ => rfl) rfl)
  unfold State.consume at hc
  split at hc
  · unfold State.consumeUnsynced at hc
    split at hc
    · exact absurd hc (by simp)
    · rename_i hal
      obtain ⟨rest, -, rfl⟩ := State.allocate_eq_some_iff.mp hal
      obtain rfl := Option.some.inj hc
      exact State.zone_raise _ _ _
  · split at hc
    · exact hanonymous _ hc
    · split at hc
      · obtain rfl := Option.some.inj hc
        exact hset _ _ (fun _ => rfl) rfl
      · exact hanonymous _ hc

/-! ### Passages written -/

theorem Passage.out_countOut (p : Passage) (leg : Leg) : (p.countOut leg).out = p.out + 1 := by
  cases leg
  · exact Nat.add_right_comm p.outNormal 1 p.outReverse
  · rfl

theorem Passage.countOut_follows {p : Passage} (hp : p.isOpen = true) (leg : Leg) (now stallTime : Nat) :
    ((p.countOut leg).restartStall now stallTime).follows p := by
  have hopen : p.out < p.axlesIn := of_decide_eq_true hp
  refine ⟨by cases leg <;> rfl, .inl (by cases leg <;> rfl), fun h => ?_⟩
  have hin : (p.countOut leg).axlesIn = p.axlesIn := by cases leg <;> rfl
  show (p.countOut leg).out ≤ (p.countOut leg).axlesIn ∧ (p.countOut leg).axlesIn ≤ Config.axleLimit
  rw [p.out_countOut leg, hin]
  exact ⟨hopen, h.2⟩

theorem Passage.uncountOut_follows (p : Passage) (leg : Leg) (now stallTime : Nat) :
    ({ (p.setOut leg (p.outOn leg - 1)).restartStall now stallTime with rollbackNoted := true } : Passage).follows p := by
  cases leg
  · refine ⟨rfl, .inl rfl, fun h => ⟨?_, h.2⟩⟩
    have := h.1
    simp only [Passage.out, Passage.restartStall, Passage.setOut, Passage.outOn] at this ⊢
    omega
  · refine ⟨rfl, .inl rfl, fun h => ⟨?_, h.2⟩⟩
    have := h.1
    simp only [Passage.out, Passage.restartStall, Passage.setOut, Passage.outOn] at this ⊢
    omega

/-- R66, R67: an axle counted in below the limit of the counts. -/
theorem Passage.follows_of_axlesIn_succ {p q : Passage} (hl : ¬Config.axleLimit ≤ p.axlesIn)
    (hr : q.record = p.record) (hh : q.handoff = p.handoff) (ho : q.out = p.out) (hi : q.axlesIn = p.axlesIn + 1) :
    q.follows p := by
  refine ⟨hr, .inl hh, fun h => ?_⟩
  rw [ho, hi]
  exact ⟨Nat.le_succ_of_le h.1, Nat.succ_le_of_lt (Nat.lt_of_not_le hl)⟩

theorem Passage.countIn_follows {p : Passage} (hl : ¬Config.axleLimit ≤ p.axlesIn) (now stallTime : Nat) :
    (p.countIn.commitTimers now stallTime).follows p := by
  have hcounted : p.countIn.record = p.record ∧ p.countIn.handoff = p.handoff ∧ p.countIn.out = p.out
      ∧ p.countIn.axlesIn = p.axlesIn + 1 := by
    unfold Passage.countIn
    split
    · exact ⟨rfl, rfl, rfl, rfl⟩
    · exact ⟨rfl, rfl, rfl, rfl⟩
    · split <;> exact ⟨rfl, rfl, rfl, rfl⟩
  obtain ⟨hr, hh, ho, hi⟩ := hcounted
  exact Passage.follows_of_axlesIn_succ hl hr hh ho hi

theorem Passage.countExcess_follows {p : Passage} (hl : ¬Config.axleLimit ≤ p.axlesIn) (now stallTime : Nat) :
    (p.countExcess.commitTimers now stallTime).follows p :=
  Passage.follows_of_axlesIn_succ hl rfl rfl rfl rfl

theorem Passage.uncountIn_follows {p : Passage} (hp : p.isOpen = true) (expected now stallTime : Nat) :
    ((p.uncountIn expected).commitTimers now stallTime).follows p := by
  have hopen : p.out < p.axlesIn := of_decide_eq_true hp
  exact ⟨rfl, .inl rfl, fun h => ⟨Nat.le_sub_one_of_lt hopen, (Nat.sub_le _ _).trans h.2⟩⟩

/-- R64, R76: the youngest passage stands at the last place. -/
theorem State.passage_of_getLast? {s : State} {k : SlotIx} {p : Passage} (h : (s.slot k).zone.getLast? = some p) :
    s.passage k ((s.slot k).zone.length - 1) = some p := by
  rwa [State.passage, ← List.getLast?_eq_getElem?]

theorem State.of_findIdx?_passage {s : State} {k : SlotIx} {i : Nat} {p : Passage} {f : Passage → Bool}
    (h : (s.slot k).zone.findIdx? f = some i) (hp : s.passage k i = some p) : f p = true := by
  obtain ⟨hi, hf, -⟩ := List.findIdx?_eq_some_iff_getElem.mp h
  obtain ⟨-, rfl⟩ := List.getElem?_eq_some_iff.mp hp
  exact hf

/-! ### A flushed zone list (R84) -/

theorem Passage.discard_setSlot (p : Passage) (u : State) (k : SlotIx) (x : Slot) :
    p.discard (u.setSlot k x) = (p.discard u).setSlot k x := by
  unfold Passage.discard
  split <;> rfl

theorem State.foldl_discard_setSlot (ps : List Passage) (u : State) (k : SlotIx) (x : Slot) :
    ps.foldl Passage.discard (u.setSlot k x) = (ps.foldl Passage.discard u).setSlot k x := by
  induction ps generalizing u with
  | nil => rfl
  | cons p ps ih => rw [List.foldl_cons, show Passage.discard (u.setSlot k x) p = _ from p.discard_setSlot u k x, ih]; rfl

namespace Work
variable {s u : State} {held : List RecIx}

/-! ### Sending (sections 5.1 to 5.4) -/

theorem sendHandoff (h : Work s held u) (hs : u.nodeState = .inService) (k : SlotIx) (i : Nat) (f : HandoffFrame) :
    Work s held (u.sendHandoff k i f) := by
  have hsent : Work s held _ := .act h (.sent k i f hs)
  unfold State.sendHandoff
  dsimp only
  rw [State.handoffs_setHandoff]
  exact hsent.offer rfl _

theorem setHandoff_local (h : Work s held u) (k : SlotIx) (i : Nat) (r : HandoffResult) :
    Work s held (u.setHandoff k i (.local r)) := by
  unfold State.setHandoff
  split
  · exact h
  · rename_i hp
    exact h.passage hp ⟨rfl, .inr ⟨r, rfl⟩, fun hc => hc⟩

theorem localOutcome (h : Work s held u) (k : SlotIx) (r : RecIx) (target : Nat) (seq : Seq)
    (result : HandoffResult) : Work s held (u.localOutcome k r target seq result) := by
  unfold State.localOutcome
  split
  · exact h.refuseHandoff _
  · exact h

theorem receiveLocal (h : Work s held u) (target : Nat) {a : Announcement} (ha : a.offered = none) :
    Work s held (u.receiveLocal target a).1 := by
  unfold State.receiveLocal
  split
  · exact h
  · exact h.receive_of_none ha _

theorem handOffLocally (h : Work s held u) (k : SlotIx) (i : Nat) (r : RecIx) (target : Nat) {a : Announcement}
    (ha : a.offered = none) : Work s held (u.handOffLocally k i r target a) :=
  ((h.receiveLocal target ha).setHandoff_local k i _).localOutcome k r target a.seq _

theorem beginHandoff (h : Work s held u) (hs : u.nodeState = .inService) (k : SlotIx) (i : Nat) (p : Passage)
    (leg : Leg) : Work s held (u.beginHandoff k i p leg) := by
  have hfeed : Work s held (u.setSlot k ((u.slot k).advanceFeed leg)) := h.slot (Slot.lists_advanceFeed _ leg)
  unfold State.beginHandoff
  dsimp only
  split
  · exact h
  · split
    · exact hfeed.handOffLocally k i _ _ rfl
    · exact hfeed.sendHandoff hs k i _

theorem expireReply (h : Work s held u) (n : Nat) : Work s held (u.expireReply n) := by
  unfold State.expireReply
  split
  · exact h
  · split
    · exact (h.reach _).secondAttempt n
    · exact (h.reach _).lose n
    · exact h
    · exact h

/-! ### Passage begin and commit axles (sections 4.2 to 4.5) -/

theorem strayAxle (h : Work s held u) (k : SlotIx) (x : Sensor) (d : Direction) :
    Work s held (u.strayAxle k x d) := h.raise _

theorem censusAxle (h : Work s held u) (k : SlotIx) (x : Sensor) (d : Direction) :
    Work s held (u.censusAxle k x d) := by
  unfold State.censusAxle
  split
  · exact h.raise _
  · exact h

theorem decideDivert (h : Work s held u) {r : RecIx} (hr : u.mayWrite held r) (k : SlotIx) (intended : Option Leg) :
    Work s held (u.decideDivert k intended r) := by
  unfold State.decideDivert
  split
  · exact h
  · split_ifs
    · exact h
    · exact (h.addFlags _ hr).raise _
    · exact h.addFlags _ hr

theorem openPassage {k : SlotIx} {r : RecIx} (h : Work s (r :: held) u)
    (hl : (u.slot k).zone.length < Config.zoneCapacity) (consumed : Option Seq) :
    Work s held (u.openPassage k r consumed) := by
  have hhand : r ∈ r :: held := List.mem_cons_self
  have hdecided := ((h.lateThrow k r).decideStray (.inl hhand) k).decideDivert (.inl hhand) k
    ((u.lateThrow k r).slot k).intendedLeg
  refine evaluateThrow (.act hdecided (.begun rfl ?_ ?_ rfl)) k
  · simpa using hl
  · exact ⟨Nat.zero_le _, show 1 ≤ Config.axleLimit by decide⟩

theorem beginPassage (h : Work s held u) {k : SlotIx} (hl : (u.slot k).zone.length < Config.zoneCapacity) :
    Work s held (u.beginPassage k) := by
  unfold State.beginPassage
  split
  · exact h
  · rename_i hc
    exact (h.consume hc).openPassage (by rwa [State.zone_consume hc]) _

theorem countCommitAxle (h : Work s held u) {k : SlotIx} {i : Nat} {p : Passage} (hp : u.passage k i = some p) :
    Work s held (u.countCommitAxle k i p) := by
  unfold State.countCommitAxle
  split
  · exact h.strayAxle k _ _
  · rename_i hl
    exact h.passage hp (Passage.countIn_follows hl _ _)

theorem countExcessAxle (h : Work s held u) {k : SlotIx} {i : Nat} {p : Passage} (hp : u.passage k i = some p) :
    Work s held (u.countExcessAxle k i p) := by
  unfold State.countExcessAxle
  dsimp only
  split
  · exact h.strayAxle k _ _
  · rename_i hl
    have hcounted := (h.passage hp (Passage.countExcess_follows hl u.time (u.slotCfg k).stallTime)).addFlags
      { long := true } (.inr (State.tracks_setPassage hp rfl))
    split
    · exact hcounted
    · exact hcounted.raise _

theorem commitForward (h : Work s held u) (k : SlotIx) : Work s held (u.commitForward k) := by
  unfold State.commitForward
  split
  · rename_i hz
    refine h.beginPassage ?_
    rw [List.getLast?_eq_none_iff.mp hz]
    decide
  · rename_i hz
    have hp := State.passage_of_getLast? hz
    split
    · split
      · exact h.countExcessAxle hp
      · rename_i hc
        exact h.beginPassage (Nat.lt_of_not_le (not_or.mp hc).2)
    · exact h.countCommitAxle hp

theorem noteRollback (h : Work s held u) {p : Passage} (hp : u.tracks p.record) (k : SlotIx) (x : Sensor) :
    Work s held (u.noteRollback k p x) := by
  have hflagged := h.addFlags { rollback := true } (.inr hp)
  unfold State.noteRollback
  dsimp only
  split
  · exact hflagged
  · exact hflagged.raise _

theorem commitBackward (h : Work s held u) (k : SlotIx) : Work s held (u.commitBackward k) := by
  unfold State.commitBackward
  split
  · exact h.strayAxle k _ _
  · rename_i hz
    have hp := State.passage_of_getLast? hz
    split
    · rename_i hopen
      exact (h.passage hp (Passage.uncountIn_follows hopen _ _ _)).noteRollback (State.tracks_setPassage hp rfl) k _
    · exact h.strayAxle k _ _

/-! ### Passage end (R78, R79, R95, R96) -/

theorem checkWatch (h : Work s held u) (k : SlotIx) (leg : Leg) (tag : Tag) :
    Work s held (u.checkWatch k leg tag) := by
  unfold State.checkWatch
  split
  · have herased : Work s held { u with watches := u.watches.erase tag } := .act h (.watched (.removed tag))
    exact herased.offer rfl none
  · exact h

theorem reportArrival (h : Work s held u) (k : SlotIx) (leg : Leg) (r : Record) :
    Work s held (u.reportArrival k leg r) := by
  unfold State.reportArrival
  split
  · exact h.offer rfl none
  · exact h

theorem reportEnd (h : Work s held u) (k : SlotIx) (p : Passage) : Work s held (u.reportEnd k p) := by
  unfold State.reportEnd
  split
  · exact h
  · rename_i leg _
    have harrived := h.reportArrival k leg (u.record p.record)
    unfold State.checkWatches
    split
    · exact harrived.checkWatch k _ _
    · exact (harrived.checkWatch k _ _).checkWatch k _ _

/-- A passage leaves its zone list, its context with it, and its record is freed. -/
theorem leaveFreed (h : Work s held u) {k : SlotIx} {i : Nat} {p : Passage} (hp : u.passage k i = some p) :
    Work s held (((p.discard u).freeRecord p.record).setSlot k ((u.slot k).without i)) :=
  freed (.act h (.left hp))

/-- R95, R96: a passage leaves its zone list for the wait list. -/
theorem leaveToWait (h : Work s held u) {k : SlotIx} {i : Nat} {p : Passage} {n : Nat}
    (hp : u.passage k i = some p) (hh : p.handoff = .sent n) (hn : u.isPending n = true) :
    Work s held ((u.joinWaitList p.record n).setSlot k (((u.joinWaitList p.record n).slot k).without i)) := by
  unfold State.joinWaitList
  cases hd : u.displaced with
  | none =>
    rw [u.makeRoom_of_displaced_none hd]
    exact .act h (.parked hp hh hn (State.room_of_displaced_none hd))
  | some x =>
    obtain ⟨e, y⟩ := x
    obtain ⟨⟨rest, hw⟩, hroom, hy, he⟩ := u.makeRoom_of_displaced e y hd
    rw [hroom, u.lose_of_pending e.handoff y hy he]
    have hraised := h.refuseHandoff (u.lostIncident y)
    unfold State.refuseHandoff at hraised
    generalize hv : ({ u with faultLatch := true }.raise (u.lostIncident y)) = v at hraised ⊢
    have hwv : v.waitList = e :: rest := by rw [← hv, State.waitList_raise]; exact hw
    have hpv : v.passage k i = some p := by rw [← hv, State.passage, State.zone_raise]; exact hp
    have hnv : v.isPending n = true := by rw [← hv, State.isPending_congr (State.handoffs_raise _ _)]; exact hn
    have hleft : Work s held _ := freed (.act hraised (.displaced hpv hh hnv hwv))
    rw [State.resolve_head hwv]
    exact hleft

end Work
end Sys2Proof.Machine
end

section
/-! SUPPORT. What the body of a command does when passages end, merge, stall or are flushed (chapter 4), at the crest
(chapter 6), and on each frame that is heard (chapters 5 to 9), in the changes of `Act`. -/

namespace Sys2Proof.Machine

/-! ### Zone lists and queues that a merge leaves -/

theorem State.zone_absorbHead (s : State) (k : SlotIx) (e : Seq) (r : RecIx) (rest : List RecIx) :
    ((s.absorbHead k e r rest).slot k).zone = (s.slot k).zone := by
  unfold State.absorbHead
  rw [State.zone_evaluateThrow, State.slot_freeRecord, State.slot_setSlot]
  rfl

/-- R70: the head of a recognised merge stands at distance 0. -/
theorem State.distance_of_merges {s : State} {p : Passage} {e : Seq} {r : RecIx} (h : s.merges p e r = true) :
    distance e (s.queuedSeq r) = 0 := by
  unfold State.merges at h
  simp only [Bool.and_eq_true, decide_eq_true_eq] at h
  obtain ⟨⟨⟨hd, -⟩, -⟩, -⟩ := h
  exact hd

namespace Work
variable {s u : State} {held : List RecIx}

/-! ### Passage end (R78, R79) -/

theorem endPassage (h : Work s held u) (k : SlotIx) (i : Nat) : Work s held (u.endPassage k i) := by
  unfold State.endPassage
  split
  · exact h
  · rename_i p hp
    have hreported := h.reportEnd k p
    have hplace : (u.reportEnd k p).passage k i = some p := by rw [State.passage, State.zone_reportEnd]; exact hp
    generalize u.reportEnd k p = v at hreported hplace ⊢
    have hleft : Work s held ((v.placeRecord p.record p.handoff).setSlot k
        (((v.placeRecord p.record p.handoff).slot k).without i)) := by
      have hfreed := hreported.leaveFreed hplace
      unfold Passage.discard at hfreed
      unfold State.placeRecord
      split
      · rename_i hh
        rw [hh] at hfreed
        exact hfreed
      · rename_i hh
        rw [hh] at hfreed
        exact hfreed
      · rename_i n hh
        rw [hh] at hfreed
        split
        · rename_i hn
          exact hreported.leaveToWait hplace hh hn
        · exact hfreed
    dsimp only
    split
    · exact hleft.evaluateThrow k
    · exact hleft

theorem checkEnds (k : SlotIx) (n : Nat) (h : Work s held u) : Work s held (State.checkEnds k n u) := by
  induction n generalizing u with
  | zero => exact h
  | succ n ih =>
    unfold State.checkEnds
    split
    · exact h
    · split
      · exact ih (h.endPassage k 0)
      · exact h

theorem checkEnd (h : Work s held u) (k : SlotIx) : Work s held (u.checkEnd k) := checkEnds k _ h

/-! ### Exit axles (R72 to R75) -/

theorem exitEffects (h : Work s held u) (hs : u.nodeState = .inService) (k : SlotIx) (i : Nat) (p : Passage)
    (leg : Leg) : Work s held (u.exitEffects k i p leg) := by
  unfold State.exitEffects
  split
  · unfold State.checkLeg
    split
    · have hfailed := h.failSlot k (mismatchIncident u k p leg)
      exact hfailed.beginHandoff (by rw [hfailed.nodeState, ← h.nodeState]; exact hs) k i p leg
    · exact h.beginHandoff hs k i p leg
  · unfold State.checkSplit
    split
    · exact h.failSlot k _
    · exact h

theorem exitForward (h : Work s held u) (hs : u.nodeState = .inService) (k : SlotIx) (leg : Leg) :
    Work s held (u.exitForward k leg) := by
  unfold State.exitForward
  split
  · exact h.strayAxle k _ _
  · rename_i i hi
    split
    · exact h
    · rename_i p hp
      have hcounted := h.passage hp (Passage.countOut_follows (State.of_findIdx?_passage hi hp) leg u.time
        (u.slotCfg k).stallTime)
      exact (hcounted.exitEffects hs k i p leg).checkEnd k

theorem exitBackward (h : Work s held u) (k : SlotIx) (leg : Leg) : Work s held (u.exitBackward k leg) := by
  unfold State.exitBackward
  split
  · exact h.strayAxle k _ _
  · split
    · exact h
    · rename_i p hp
      have hfollows := p.uncountOut_follows leg u.time (u.slotCfg k).stallTime
      exact ((h.passage hp hfollows).noteRollback (State.tracks_setPassage hp hfollows.1) k _).checkEnd k

/-! ### Gap, stall and ghost timers (R68 to R71, R81, R82) -/

theorem judgeShort (h : Work s held u) (k : SlotIx) {p : Passage} (hp : u.tracks p.record) :
    Work s held (u.judgeShort k p) := by
  unfold State.judgeShort
  split
  · exact h
  · exact (h.addFlags _ (.inr hp)).raise _

theorem merge (h : Work s held u) {k : SlotIx} {i : Nat} {p : Passage} {e : Seq} {r : RecIx} {rest : List RecIx}
    (hp : u.passage k i = some p) (he : (u.slot k).expected = some e) (hq : (u.slot k).queue = r :: rest)
    (hd : distance e (u.queuedSeq r) = 0) : Work s held (u.merge k i p e r rest) := by
  have habsorbed := h.absorbHead he hq hd
  have hplace : (u.absorbHead k e r rest).passage k i = some p := by
    rw [State.passage, State.zone_absorbHead]; exact hp
  have hjoined := habsorbed.record (((u.absorbHead k e r rest).record p.record).joinCompanion
    ⟨(u.record r).tag, (u.record r).destination⟩) (.inr (State.tracks_of_passage hplace))
  exact (hjoined.passage (i := i) (p := p) (q := { p with excess := 0 }) hplace p.follows_refl).raise
    (mergeIncident u k p r)

theorem recogniseMerge (h : Work s held u) {k : SlotIx} {i : Nat} {p : Passage} (hp : u.passage k i = some p) :
    Work s held (u.recogniseMerge k i p) := by
  have hlong := (h.addFlags { long := true } (.inr (State.tracks_of_passage hp))).raise (longIncident u k p)
  unfold State.recogniseMerge
  split
  · rename_i he hq
    split
    · rename_i hm
      exact h.merge hp he hq (State.distance_of_merges hm)
    · exact hlong
  · exact hlong
  · exact hlong

theorem gapExpired (h : Work s held u) {k : SlotIx} {i : Nat} {p : Passage} (hp : u.passage k i = some p) :
    Work s held (u.gapExpired k i p) := by
  have hcommitted : Work s held (u.setPassage k i p.commit) := h.passage hp p.follows_refl
  have hstopped : Work s held (u.setPassage k i { p with gapRunning := false }) := h.passage hp p.follows_refl
  unfold State.gapExpired
  split
  · exact hstopped
  · split
    · exact hstopped
    · exact (hcommitted.judgeShort k (State.tracks_setPassage hp rfl)).checkEnd k
  · split
    · exact hcommitted.checkEnd k
    · exact (hcommitted.recogniseMerge (State.passage_setPassage hp)).checkEnd k

theorem expireGap (h : Work s held u) (k : SlotIx) (i : Nat) : Work s held (u.expireGap k i) := by
  unfold State.expireGap
  split
  · exact h
  · rename_i p hp
    split
    · exact (h.reach _).gapExpired hp
    · exact h

theorem expireStall (h : Work s held u) (k : SlotIx) (i : Nat) : Work s held (u.expireStall k i) := by
  unfold State.expireStall
  split
  · exact h
  · rename_i p hp
    split
    · exact h
    · rename_i d _
      have hstalled := (h.reach d).passage (q := { p with stallTimer := none, stalled := true }) hp p.follows_refl
      exact hstalled.raise _

theorem expireGhost (h : Work s held u) (k : SlotIx) : Work s held (u.expireGhost k) := by
  unfold State.expireGhost
  dsimp only
  split
  · exact h
  · rename_i d _
    split
    · exact (h.reach d).slot
    · exact (h.reach d).slot.raise _

/-! ### Reconciliation (R36, R80) -/

theorem reconcileOne (h : Work s held u) (k : SlotIx) (i : Nat) : Work s held (u.reconcileOne k i) := by
  unfold State.reconcileOne
  split
  · exact h
  · rename_i p hp
    exact (((h.addFlags _ (.inr (State.tracks_of_passage hp))).raise _).endPassage k i).checkEnd k

theorem reconcileAll (k : SlotIx) (n : Nat) (h : Work s held u) : Work s held (State.reconcileAll k n u) := by
  induction n generalizing u with
  | zero => exact h
  | succ n ih =>
    unfold State.reconcileAll
    split
    · exact h
    · exact ih (h.reconcileOne k _)

theorem endSettling (h : Work s held u) (k : SlotIx) : Work s held (u.endSettling k) := by
  unfold State.endSettling
  split
  · exact h.slot
  · exact h

theorem clearFouling (h : Work s held u) (k : SlotIx) : Work s held (u.clearFouling k) := by
  have hclear : Work s held (u.setSlot k { u.slot k with foulingOccupied := false }) := h.slot
  unfold State.clearFouling
  dsimp only
  split
  · exact ((reconcileAll k _ hclear).endSettling k).evaluateThrow k
  · exact hclear

/-! ### SLOT_FLUSH (R30, R84) -/

/-- R84: all passages of a zone list leave it, with their contexts. -/
theorem leaveAll (ps : List Passage) {u : State} {held : List RecIx} (h : Work s held u) {k : SlotIx}
    (hz : (u.slot k).zone = ps) :
    Work s (ps.map Passage.record ++ held)
      ((ps.foldl Passage.discard u).setSlot k { u.slot k with zone := [] }) := by
  induction ps generalizing u held with
  | nil =>
    have hself : ({ u.slot k with zone := [] } : Slot) = u.slot k := by rw [← hz]
    rw [hself]
    exact (State.setSlot_self u k).symm ▸ h
  | cons p ps ih =>
    have hp : u.passage k 0 = some p := by rw [State.passage, hz]; rfl
    have hleft : Work s (p.record :: held) ((p.discard u).setSlot k ((u.slot k).without 0)) := .act h (.left hp)
    have hrest := ih hleft (by rw [State.slot_setSlot, Slot.without, hz]; rfl)
    rw [State.foldl_discard_setSlot, State.setSlot_setSlot, State.slot_setSlot] at hrest
    exact hrest.shuffle List.perm_middle

theorem flushZone (h : Work s held u) (k : SlotIx) : Work s held (u.flushZone k) := by
  have hleft := h.leaveAll _ (k := k) rfl
  rw [← State.foldl_discard_setSlot] at hleft
  exact hleft.freeRecords.evaluateThrow k

theorem flushSlot (h : Work s held u) (k : SlotIx) : Work s held (u.flushSlot k).2 := by
  have hempty := h.emptyQueue k
  unfold State.flushSlot
  dsimp only
  split
  · exact hempty
  · exact hempty.flushZone k

/-! ### The crest unit (chapter 6) -/

theorem enterCut (h : Work s held u) (p : CutEntryPayload) : Work s held (u.enterCut p).2 := by
  unfold State.enterCut
  split
  · exact h
  · rename_i h0
    split
    · exact h
    · split
      · exact h
      · split
        · exact h
        · split
          · exact h
          · rename_i hplace
            split
            · exact h
            · rename_i hl
              unfold State.appendEntry
              split
              · exact h
              · rename_i r v hal
                have hallocated := h.allocated hal
                obtain ⟨rest, -, rfl⟩ := State.allocate_eq_some_iff.mp hal
                refine .act hallocated (.listed p h0 (fun i hi ht => hplace ?_) (Nat.lt_of_not_le hl))
                exact List.findIdx?_isSome ▸ List.any_eq_true.mpr ⟨i, hi, beq_iff_eq.mpr ht⟩

theorem withdrawCut (h : Work s held u) (tag : Tag) : Work s held (u.withdrawCut tag).2 := by
  unfold State.withdrawCut
  split
  · exact h
  · rename_i i _
    split
    · exact h
    · rename_i r hr
      split
      · exact h
      · obtain ⟨hi, rfl⟩ := List.getElem?_eq_some_iff.mp hr
        have hcut : Work s _ { u with cutList := u.cutList.eraseIdx i } :=
          .act h (.cut (taken := [u.cutList[i]]) (List.getElem_cons_eraseIdx_perm hi).symm (List.eraseIdx_sublist _ _))
        exact hcut.freed

theorem clearCuts (h : Work s held u) : Work s held u.clearCuts.2 := by
  have hcut : Work s (u.cutList ++ held) { u with cutList := [] } :=
    .act h (.cut (by rw [List.append_nil]) (List.nil_sublist _))
  exact hcut.freeRecords

theorem releaseHead (h : Work s held u) (tag : Tag) : Work s held (u.releaseHead tag).2 := by
  unfold State.releaseHead
  split
  · exact h
  · rename_i r rest hcut
    split
    · exact .act h (.lifted (hcut ▸ List.mem_cons_self))
    · exact h

theorem closeTrack (h : Work s held u) (hs : u.nodeState = .inService) (track substitute : Nat) :
    Work s held (u.closeTrack track substitute).2 := by
  by_cases hr : u.refusesClosure track substitute
  · rw [State.closeTrack_of_refuses hr]
    exact h
  · rw [State.closeTrack_of_not_refuses hr]
    split
    · exact .act h (.closed hs (.replaced track substitute hr))
    · rename_i hc
      split
      · rename_i hl
        exact .act h (.closed hs (.added track substitute hr (mt (u.isClosed_iff track).mpr hc) hl))
      · exact h

theorem openTrack (h : Work s held u) (hs : u.nodeState = .inService) (track : Nat) :
    Work s held (u.openTrack track).2 := by
  unfold State.openTrack
  split
  · exact h
  · split
    · exact .act h (.closed hs (.removed track))
    · exact h

theorem noteOverrun (h : Work s held u) {r : RecIx} (hr : r ∈ held) (listEmpty : Bool) :
    Work s held (u.noteOverrun r listEmpty) := by
  unfold State.noteOverrun
  split
  · exact (h.addFlags _ (.inl hr)).raise _
  · exact h

theorem endRelease {r : RecIx} {seq : Seq} {y : Record} {x : Receipt}
    (h : Work s ((crestAnnouncement r seq y).left x ++ held) u) : Work s held (u.endRelease r x) := by
  cases x with
  | queued => exact h
  | _ => exact h.freed

theorem offerRelease {r : RecIx} (h : Work s (r :: held) u) (seq : Seq) :
    Work s ((crestAnnouncement r seq (u.record r)).left (u.offerRelease r seq).2 ++ held)
      (u.offerRelease r seq).1 := by
  have hreceived := receive (k := 0) (a := crestAnnouncement r seq (u.record r)) h
  unfold State.offerRelease
  dsimp only
  split
  · dsimp only
    exact hreceived.refuseHandoff _
  · exact hreceived

theorem sendRelease {r : RecIx} (h : Work s (r :: held) u) : Work s held (u.sendRelease r) := by
  have hwritten := h.record { u.record r with feedSeq := some u.releaseCounter } (.inl List.mem_cons_self)
  have hnumbered : Work s (r :: held) (u.numberRelease r) := hwritten.idle (u.numberRelease r)
  exact endRelease ((hnumbered.offerRelease u.releaseCounter).offer rfl none)

/-- R118: the record in hand is under no inspect hold. -/
theorem uninspected {r : RecIx} (h : Work s (r :: held) u) :
    Work s (r :: held) (u.setRecord r { u.record r with inspect := false }) := h.record _ (.inl List.mem_cons_self)

theorem releaseCut (h : Work s held u) {r : RecIx} {rest : List RecIx} (hc : u.cutList = r :: rest) :
    Work s held (u.releaseCut r rest) := by
  have hcut : Work s (r :: held) { u with cutList := rest } :=
    .act h (.cut (taken := [r]) (hc ▸ List.Perm.refl _) (hc ▸ List.sublist_cons_self r rest))
  have hhand : r ∈ r :: held := List.mem_cons_self
  have htranslated := hcut.record (u.translate (u.record r)) (.inl hhand)
  have hnoted := htranslated.noteOverrun hhand false
  exact hnoted.uninspected.sendRelease.idle (u.releaseCut r rest)

theorem completeRelease (h : Work s held u) (cutClass : Nat) : Work s held (u.completeRelease cutClass) :=
  h.idle (u.completeRelease cutClass)

theorem releaseAnonymous (h : Work s held u) : Work s held u.releaseAnonymous := by
  unfold State.releaseAnonymous
  split
  · exact h
  · rename_i hal
    exact ((h.allocated hal).noteOverrun List.mem_cons_self true).sendRelease.completeRelease 0

theorem countCrestAxle (h : Work s held u) : Work s held u.countCrestAxle := by
  unfold State.countCrestAxle
  split
  · exact h.completeRelease _
  · exact h.idle { u with crestPassage := { u.crestPassage with countdown := u.crestPassage.countdown - 1 } }

theorem crestAxle (h : Work s held u) : Work s held u.crestAxle := by
  unfold State.crestAxle
  split
  · exact h.countCrestAxle
  · split
    · exact h.releaseAnonymous
    · rename_i hc
      exact h.releaseCut hc

end Work
end Sys2Proof.Machine
end

section
/-! SUPPORT. Every command in the changes of `Act`. A command begins at its state (`Starts`), which for RESET, the two
ends of loading, CENSUS_END and INCIDENT_CLEAR is a new one, and goes on by `Work`. -/

namespace Sys2Proof.Machine

/-- R146: a command frame that is not taken only refreshes the roster. -/
theorem State.hearYard_of_not_takesCommand {s : State} {origin : Station} {target : Byte}
    (h : ¬s.takesCommand origin target) (act : State → State) :
    s.hearYard origin target act = s.takeNothing origin := by
  unfold State.hearYard State.hearTarget State.takeNothing State.hear
  split
  · rename_i hhear
    have hs : s.nodeState = .inService := beq_iff_eq.mp hhear.1
    split
    · rfl
    · rename_i hown
      rw [State.refreshRoster_of_serving hs]
      dsimp only
      split
      · rename_i htarget
        split
        · rename_i hyard
          rw [State.cfg_refreshed] at htarget hyard
          exact absurd ⟨⟨hs, hhear.2, hown⟩, htarget, hyard⟩ h
        · rfl
      · rfl
  · rfl

namespace Work
variable {s u : State} {held : List RecIx}

/-! ### The roster (section 7.3) -/

theorem roster (h : Work s held u) (l : List RosterEntry) : Work s held { u with roster := l } :=
  h.idle { u with roster := l }

theorem refreshRoster (h : Work s held u) (origin : Nat) : Work s held (u.refreshRoster origin) := by
  unfold State.refreshRoster
  split
  · exact h.roster _
  · exact h

theorem rosterMask (h : Work s held u) (origin : Nat) (m : HoldMask) : Work s held (u.rosterMask origin m) := by
  unfold State.rosterMask
  split
  · exact h.roster _
  · exact h

theorem acknowledge (h : Work s held u) (station : Nat) : Work s held (u.acknowledge station).2 := by
  unfold State.acknowledge
  split
  · exact h
  · split
    · exact h.roster _
    · exact h

theorem expireSilence (h : Work s held u) (station : Nat) : Work s held (u.expireSilence station) := by
  unfold State.expireSilence
  split
  · exact h
  · split
    · exact (h.reach _).roster _
    all_goals exact h

/-! ### Frames heard (R146, R159, R160) -/

/-- A frame that is heard acts in service. -/
theorem hear (h : Work s held u) (origin : Station) {act : State → State}
    (hact : ∀ x, x.nodeState = .inService → Work s held x → Work s held (act x)) :
    Work s held (u.hear origin act) := by
  have hfresh := h.refreshRoster origin.toNat
  unfold State.hear
  split
  · rename_i hhear
    split
    · exact hfresh
    · refine hact _ ?_ hfresh
      rw [hfresh.nodeState, ← h.nodeState]
      exact beq_iff_eq.mp hhear.1
  · exact h

theorem hearTarget (h : Work s held u) (origin : Station) (target : Byte) {act : State → State}
    (hact : ∀ x, x.nodeState = .inService → Work s held x → Work s held (act x)) :
    Work s held (u.hearTarget origin target act) := by
  refine h.hear origin fun x hs hx => ?_
  split
  · exact hact x hs hx
  · exact hx

theorem hearYard (h : Work s held u) (origin : Station) (target : Byte) {act : State → State}
    (hact : ∀ x, x.nodeState = .inService → Work s held x → Work s held (act x)) :
    Work s held (u.hearYard origin target act) := by
  refine h.hearTarget origin target fun x hs hx => ?_
  split
  · exact hact x hs hx
  · exact hx

theorem hearCommand (h : Work s held u) (origin : Station) (target : Byte) (kind : FrameKind)
    (argument : BitVec 16) {act : State → CommandResult × State}
    (hact : ∀ x, x.nodeState = .inService → Work s held x → Work s held (act x).2) :
    Work s held (u.hearYard origin target (fun x => answer kind argument (act x))) :=
  h.hearYard origin target fun x hs hx => (hact x hs hx).offer rfl none

theorem hearCrestCommand (h : Work s held u) (origin : Station) (target : Byte) (kind : FrameKind)
    (argument : BitVec 16) {act : State → CommandResult × State}
    (hact : ∀ x, x.nodeState = .inService → Work s held x → Work s held (act x).2) :
    Work s held (u.hearYard origin target (fun x => answer kind argument (crestOnly x act))) := by
  refine h.hearCommand origin target kind argument fun x hs hx => ?_
  unfold crestOnly
  split
  · exact hact x hs hx
  · exact hx

theorem hearSlotCommand (h : Work s held u) (origin : Station) (target slot : Byte)
    (kind : FrameKind) {act : State → SlotIx → CommandResult × State}
    (hact : ∀ x k, Work s held x → Work s held (act x k).2) :
    Work s held (u.hearYard origin target (fun x => answer kind (byteArgument slot) (slotArgument x slot act))) := by
  refine h.hearCommand origin target kind _ fun x _ hx => ?_
  unfold slotArgument
  split
  · exact hx
  · split
    · exact hx
    · exact hact x _ hx

/-! ### The watch table (R157) -/

theorem setWatch (h : Work s held u) (tag : Tag) : Work s held (u.setWatch tag).2 := by
  unfold State.setWatch
  split
  · exact h
  · rename_i h0
    split
    · exact h
    · rename_i hn
      split
      · exact h
      · rename_i hl
        exact .act h (.watched (.added tag h0 hn (Nat.lt_of_not_le hl)))

theorem clearWatch (h : Work s held u) (tag : Tag) : Work s held (u.clearWatch tag).2 := by
  unfold State.clearWatch
  split
  · exact .act h (.watched (.removed tag))
  · exact h

/-! ### START, HANDOFF and HANDOFF_REPLY (chapter 5) -/

theorem startSlot (h : Work s held u) (origin : Nat) (k : SlotIx) : Work s held (u.startSlot origin k) := by
  unfold State.startSlot
  split
  · exact h.emptyQueue k
  · exact h

theorem requeue (h : Work s held u) (x : Handoff) : Work s held (u.requeue x) := by
  have hretried : Work s held (u.setStatus x.number (.pending .first none)) := .act h (.retried _ .first none)
  unfold State.requeue
  dsimp only
  split
  · exact h
  · split
    · exact hretried
    · exact hretried.offer rfl _

theorem takeStart (h : Work s held u) (origin : Station) : Work s held (u.takeStart origin) := by
  refine h.hear origin fun x _ hx => ?_
  have hslots := ((((hx.roster (u.rosterStart origin.toNat).roster).startSlot origin.toNat 0).startSlot
    origin.toNat 1).startSlot origin.toNat 2).startSlot origin.toNat 3
  exact List.foldlRecOn _ _ hslots fun v hv y _ => hv.requeue y

theorem takeHandoff (h : Work s held u) (origin : Station) (p : HandoffPayload) :
    Work s held (u.takeHandoff origin p) := by
  refine h.hearTarget origin p.target fun x _ hx => offer ?_ rfl none
  unfold State.receiveFrame
  split
  · exact hx
  · split
    · exact hx.receive_of_none rfl _
    · exact hx

theorem takeResult (h : Work s held u) (x : Handoff) (r : HandoffResult) : Work s held (u.takeResult x r) := by
  unfold State.takeResult
  split
  · exact (h.refuseHandoff _).resolve _ _
  · exact h.resolve _ _

theorem takeHandoffReply (h : Work s held u) (origin : Station) (p : ReplyPayload) :
    Work s held (u.takeHandoffReply origin p) := by
  refine h.hearTarget origin p.target fun x _ hx => ?_
  unfold State.matchReply
  split
  · exact hx
  · split
    · exact hx
    · exact hx.takeResult _ _

theorem takeNothing (h : Work s held u) (origin : Station) : Work s held (u.takeNothing origin) :=
  h.hear origin fun _ _ hx => hx

/-! ### The owners of frames (R90, R150) -/

theorem startReplyTimer (h : Work s held u) (n : Nat) : Work s held (u.startReplyTimer n) := by
  unfold State.startReplyTimer
  split
  · exact h
  · split
    · exact .act h (.retried n _ _)
    · exact h

theorem tellSent (h : Work s held u) (f : OutFrame) (owner : Option Nat) : Work s held (u.tellSent f owner) := by
  cases f with
  | start => exact h.idle { u with startSent := true }
  | handoff x =>
    cases owner with
    | none => exact h
    | some n => exact h.startReplyTimer n
  | _ => exact h

/-! ### The census (R167) -/

theorem enterSlot (h : Work s held u) (k : SlotIx) : Work s held (u.enterSlot k) := by
  unfold State.enterSlot
  split
  · exact h.slot
  · exact h

theorem enterSlots (h : Work s held u) : Work s held u.enterSlots :=
  (((h.enterSlot 0).enterSlot 1).enterSlot 2).enterSlot 3

theorem reportCapture (h : Work s held u) : Work s held u.reportCapture := by
  unfold State.reportCapture
  split
  · exact h
  · exact h.offerReport rfl

end Work

/-! ### Where a command begins -/

/-- R162 to R167: the node enters service, its START offered. -/
def State.inServiceAfter (u : State) : State :=
  { u with nodeState := .inService }.setQueue (enqueue (.offered u.startFrame none) u.port.queue).1

/-- The state from which a command goes on by `Work`: its own, or the one that RESET, RESET_RELEASE, the ends of
loading, CENSUS_END or an INCIDENT_CLEAR first makes of it. -/
inductive Starts (c : Instr) (s : State) : State → Prop where
  | same : Starts c s s
  | reset (hc : c = .reset) : Starts c s s.assertReset
  | released (hc : c = .resetRelease) (hs : s.nodeState = .reset) : Starts c s { s with nodeState := .loading }
  | census {memory : List Byte} (hc : c = .imageRead memory) (hs : s.nodeState = .loading) (cfg : NodeConfig) :
      Starts c s { s with nodeState := .census, config := some cfg }
  | configFault {memory : List Byte} (hc : c = .imageRead memory) (hs : s.nodeState = .loading) :
      Starts c s { s with nodeState := .configFault }
  | service {u : State} (hc : c = .censusEnd) (hs : s.nodeState = .census) (hu : Work s [] u) :
      Starts c s u.inServiceAfter
  | cleared {origin : Station} {target : Byte} (ht : s.takesCommand origin target)
      (he : exec c s = exec (.incidentClear origin target) s)
      (hc : c = .incidentClear origin target ∨ ∃ bits, c = .frameDiscarded bits) :
      Starts c s { s with capture := none, furtherAlarms := 0 }

/-- What a command does: it begins at a state, goes on by `Work`, and settles. -/
def Runs (c : Instr) (s : State) (o : Host.Outcome State Fault Refusal) : Prop :=
  ∃ b u, Starts c s b ∧ Work b [] u ∧ o = finish s u

theorem Work.runs {c : Instr} {s u : State} (h : Work s [] u) : Runs c s (finish s u) := ⟨s, u, .same, h, rfl⟩

namespace Runs
variable {c : Instr} {s : State}

theorem idle : Runs c s (finish s s) := Work.start.runs

theorem sensorAxle {u : State} (k : SlotIx) (x : Sensor) (d : Direction)
    (hu : s.nodeState = .inService → Work s [] u) :
    Runs c s (if s.slotServing k then finish s u else finish s (s.censusAxle k x d)) := by
  split
  · rename_i hs
    refine (hu ?_).runs
    unfold State.slotServing at hs
    exact beq_iff_eq.mp (Bool.and_eq_true_iff.mp hs).1
  · exact (Work.start.censusAxle k x d).runs

theorem releaseReset (s : State) : Runs .resetRelease s (finish s s.releaseReset) := by
  unfold State.releaseReset
  split
  · rename_i hs
    exact ⟨_, _, .released rfl hs, Work.start.idle { s with time := 0 }, rfl⟩
  · exact idle

theorem loadImage (s : State) (memory : List Byte) : Runs (.imageRead memory) s (finish s (s.loadImage memory)) := by
  unfold State.loadImage
  split
  · rename_i hs
    split
    · rename_i cfg _
      exact ⟨_, _, .census rfl hs cfg, Work.start.idle (s.beginCensus cfg), rfl⟩
    · exact ⟨_, _, .configFault rfl hs, .start, rfl⟩
  · exact idle

/-- R167, steps 3 to 5: what follows the offer of the START. -/
theorem work_inServiceAfter (u : State) : Work u.inServiceAfter []
    (({ u with nodeState := .inService }.offer u.startFrame none).firstHoldState.reportCapture) := by
  have hstart : Work u.inServiceAfter [] ({ u with nodeState := .inService }.offer u.startFrame none) :=
    Work.start.offer_of_enqueue rfl
  exact (hstart.offerHoldState _ hstart.nodeState).reportCapture

theorem endCensus (s : State) : Runs .censusEnd s (finish s s.endCensus) := by
  unfold State.endCensus
  split
  · rename_i hs
    split
    · exact idle
    · rename_i t _
      have hentered := (Work.start (s := s)).reach (t + Config.censusTime) |>.enterSlots
      have hu := hentered.idle { s.reach (t + Config.censusTime) |>.enterSlots with censusStart := none }
      exact ⟨_, _, .service rfl hs hu, work_inServiceAfter _, rfl⟩
  · exact idle

/-- R155: an INCIDENT_CLEAR that is taken clears the capture and goes on with its reply. -/
theorem takeIncidentClear {origin : Station} {target : Byte}
    (he : exec c s = exec (.incidentClear origin target) s)
    (hc : c = .incidentClear origin target ∨ ∃ bits, c = .frameDiscarded bits) :
    Runs c s (finish s (s.takeIncidentClear origin target)) := by
  unfold State.takeIncidentClear
  by_cases ht : s.takesCommand origin target
  · rw [State.hearYard_of_takesCommand ht]
    refine ⟨_, _, .cleared ht he hc, ?_, rfl⟩
    have hcleared : Work { s with capture := none, furtherAlarms := 0 } []
        { s.refreshed origin with capture := none, furtherAlarms := 0, faultLatch := false } := by
      unfold State.refreshed
      split
      · exact (Work.start.idle { s with faultLatch := false }).roster _
      · exact Work.start.idle { s with faultLatch := false }
    exact hcleared.offer rfl none
  · rw [State.hearYard_of_not_takesCommand ht]
    exact (Work.start.takeNothing origin).runs

theorem crestAxle (s : State) : Runs c s (execCrestAxle s) := by
  unfold execCrestAxle
  split
  · exact Work.start.crestAxle.runs
  · exact idle

theorem throwDeadline (s : State) (k : SlotIx) : Runs c s (execThrowDeadline k s) := by
  unfold execThrowDeadline
  split
  · exact ((Work.start.reach _).throwExpired k _).runs
  all_goals exact idle

theorem pauseEnd (s : State) (k : SlotIx) : Runs c s (execPauseEnd k s) := by
  unfold execPauseEnd
  split
  · exact ((Work.start.reach _).resumeThrow k _).runs
  all_goals exact idle

theorem replyTimeout (s : State) (place : ContextPlace) : Runs c s (execReplyTimeout place s) := by
  unfold execReplyTimeout
  split
  · exact idle
  · exact (Work.start.expireReply _).runs

theorem releaseIntervalEnd (s : State) : Runs c s (execReleaseIntervalEnd s) := by
  unfold execReleaseIntervalEnd
  split
  · exact idle
  · rename_i d _
    exact (Work.start.idle { s.reach d with releaseInterval := none }).runs

theorem periodTimerExpiry (s : State) : Runs c s (execPeriodTimerExpiry s) := by
  unfold execPeriodTimerExpiry
  split
  · exact idle
  · rename_i d _
    have hreached := (Work.start (s := s)).reach d
    by_cases hs : s.nodeState = .inService
    · exact (hreached.offerHoldState s.holdMask hs).runs
    · rw [State.offerHoldState, if_neg (show ¬(s.reach d).serving = true from fun e => hs (beq_iff_eq.mp e))]
      exact hreached.runs

theorem setPort {p : Port} (h : PortChange s p) : Runs c s (finish s (s.setPort p)) := (Work.act .start (.ported h)).runs

theorem muteRetryExpiry (s : State) : Runs c s (execMuteRetryExpiry s) := by
  unfold execMuteRetryExpiry
  split
  · rename_i d hd
    exact (Work.act (Work.start.reach d) (.ported (.retrying d hd))).runs
  all_goals exact idle

theorem transmitAttempt (s : State) : Runs c s (execTransmitAttempt s) := by
  unfold execTransmitAttempt
  split_ifs with hstart
  · obtain ⟨hs, hidle, -⟩ := hstart
    exact setPort (.started hs hidle)
  · exact setPort (.footing true)
  · exact idle

theorem arbitrationLost (s : State) : Runs c s (execArbitrationLost s) := by
  unfold execArbitrationLost
  split
  · exact idle
  · exact setPort (.lost s.time)

theorem transmitError (s : State) : Runs c s (execTransmitError s) := by
  unfold execTransmitError
  split
  · exact idle
  · exact setPort (.failed s.time)

theorem frameSent (s : State) : Runs c s (execFrameSent s) := by
  unfold execFrameSent
  split
  · exact idle
  · exact ((Work.act .start (.ported .succeeded)).tellSent _ _).runs

theorem busIdle (s : State) : Runs c s (execBusIdle s) := by
  unfold execBusIdle
  split
  · exact setPort (.footing true)
  · exact idle

theorem takeFrame (f : RawFrame) {bits : List Bool}
    (he : exec (.frameDiscarded bits) s = finish s (Machine.takeFrame f s)) :
    Runs (.frameDiscarded bits) s (finish s (Machine.takeFrame f s)) := by
  have h := Work.start (s := s)
  unfold Machine.takeFrame at he ⊢
  split
  · exact (h.takeStart _).runs
  · exact (h.hear _ fun _ _ hx => hx.rosterMask _ _).runs
  · exact (h.takeHandoff _ _).runs
  · exact (h.takeHandoffReply _ _).runs
  · exact (h.hearCrestCommand _ _ _ _ fun _ _ hx => hx.enterCut _).runs
  · exact (h.hearCrestCommand _ _ _ _ fun _ _ hx => hx.withdrawCut _).runs
  · exact (h.hearCrestCommand _ _ _ _ fun _ _ hx => hx.clearCuts).runs
  · exact (h.hearCrestCommand _ _ _ _ fun _ hs hx => hx.closeTrack hs _ _).runs
  · exact (h.hearCrestCommand _ _ _ _ fun _ hs hx => hx.openTrack hs _).runs
  · exact (h.hearCrestCommand _ _ _ _ fun _ _ hx => hx.releaseHead _).runs
  · exact (h.hearCrestCommand _ _ _ _ fun _ _ hx => hx.acknowledge _).runs
  · exact (h.hearSlotCommand _ _ _ _ fun _ k hx => hx.blockSlot k).runs
  · exact (h.hearSlotCommand _ _ _ _ fun _ k hx => hx.freeSlot k).runs
  · exact (h.hearSlotCommand _ _ _ _ fun _ k hx => hx.flushSlot k).runs
  · rename_i hkind hpayload
    rw [hkind, hpayload] at he
    exact takeIncidentClear he (.inr ⟨bits, rfl⟩)
  · exact (h.hearCommand _ _ _ _ fun _ _ hx => hx.setWatch _).runs
  · exact (h.hearCommand _ _ _ _ fun _ _ hx => hx.clearWatch _).runs
  · exact (h.hearYard _ _ fun _ _ hx => hx.offer rfl none).runs
  · exact (h.takeNothing _).runs

theorem frameDiscarded (s : State) (bits : List Bool) : Runs (.frameDiscarded bits) s (exec (.frameDiscarded bits) s) := by
  have he : exec (.frameDiscarded bits) s = execFrameDiscarded bits s := rfl
  rw [he]
  unfold execFrameDiscarded at he ⊢
  split
  · unfold State.dropFrame
    split
    · exact setPort (.footing false)
    · exact idle
  · rename_i hf
    rw [hf] at he
    exact takeFrame _ he

end Runs

/-- Every command begins at a state, goes on by `Work`, and settles. -/
theorem runs_exec (c : Instr) (s : State) : Runs c s (exec c s) := by
  have h := Work.start (s := s)
  cases c with
  | reset => exact ⟨_, _, .reset rfl, .start, rfl⟩
  | resetRelease => exact Runs.releaseReset s
  | imageRead memory => exact Runs.loadImage s memory
  | censusAxle k x d => exact (h.censusAxle k x d).runs
  | censusEnd => exact Runs.endCensus s
  | commitAxleForward k => exact Runs.sensorAxle k _ _ fun _ => h.commitForward k
  | commitAxleBackward k => exact Runs.sensorAxle k _ _ fun _ => h.commitBackward k
  | exitAxleForward k leg => exact Runs.sensorAxle k _ _ fun hs => h.exitForward hs k leg
  | exitAxleBackward k leg => exact Runs.sensorAxle k _ _ fun _ => h.exitBackward k leg
  | detectionChange k input b => exact (h.changeDetection k input b).runs
  | foulingOccupied k => exact (h.occupyFouling k).runs
  | foulingClear k => exact (h.clearFouling k).runs
  | crestAxle => exact Runs.crestAxle s
  | gapExpiry k i => exact (h.expireGap k i).runs
  | stallExpiry k i => exact (h.expireStall k i).runs
  | ghostExpiry k => exact (h.expireGhost k).runs
  | overdueExpiry k seq => exact (h.expireOverdue k seq).runs
  | throwDeadline k => exact Runs.throwDeadline s k
  | pauseEnd k => exact Runs.pauseEnd s k
  | replyTimeout place => exact Runs.replyTimeout s place
  | releaseIntervalEnd => exact Runs.releaseIntervalEnd s
  | periodTimerExpiry => exact Runs.periodTimerExpiry s
  | silenceDeadline station => exact (h.expireSilence station).runs
  | muteRetryExpiry => exact Runs.muteRetryExpiry s
  | transmitAttempt => exact Runs.transmitAttempt s
  | arbitrationLost => exact Runs.arbitrationLost s
  | transmitError => exact Runs.transmitError s
  | frameSent => exact Runs.frameSent s
  | frameDiscarded bits => exact Runs.frameDiscarded s bits
  | frameNotTaken origin => exact (h.takeNothing origin).runs
  | start origin role slotCount imageSum => exact (h.takeStart origin).runs
  | holdState origin mask nodeState => exact (h.hear origin fun _ _ hx => hx.rosterMask _ _).runs
  | handoff origin p => exact (h.takeHandoff origin p).runs
  | handoffReply origin p => exact (h.takeHandoffReply origin p).runs
  | cutEntry origin p => exact (h.hearCrestCommand origin p.target _ _ fun _ _ hx => hx.enterCut p).runs
  | entryWithdraw origin target tag =>
    exact (h.hearCrestCommand origin target _ _ fun _ _ hx => hx.withdrawCut tag).runs
  | listClear origin target => exact (h.hearCrestCommand origin target _ _ fun _ _ hx => hx.clearCuts).runs
  | releaseOne origin target tag =>
    exact (h.hearCrestCommand origin target _ _ fun _ _ hx => hx.releaseHead tag).runs
  | trackClose origin target track substitute =>
    exact (h.hearCrestCommand origin target _ _ fun _ hs hx => hx.closeTrack hs _ _).runs
  | trackOpen origin target track =>
    exact (h.hearCrestCommand origin target _ _ fun _ hs hx => hx.openTrack hs _).runs
  | restartAck origin target station =>
    exact (h.hearCrestCommand origin target _ _ fun _ _ hx => hx.acknowledge _).runs
  | slotBlock origin target slot => exact (h.hearSlotCommand origin target slot _ fun _ k hx => hx.blockSlot k).runs
  | slotFree origin target slot => exact (h.hearSlotCommand origin target slot _ fun _ k hx => hx.freeSlot k).runs
  | slotFlush origin target slot => exact (h.hearSlotCommand origin target slot _ fun _ k hx => hx.flushSlot k).runs
  | incidentClear origin target => exact Runs.takeIncidentClear rfl (.inl rfl)
  | watchSet origin target tag => exact (h.hearCommand origin target _ _ fun _ _ hx => hx.setWatch tag).runs
  | watchClear origin target tag => exact (h.hearCommand origin target _ _ fun _ _ hx => hx.clearWatch tag).runs
  | statusQuery origin target => exact (h.hearYard origin target fun _ _ hx => hx.offer rfl none).runs
  | busIdle => exact Runs.busIdle s

/-- Every command completes, from where it begins, by changes of `Act`. -/
theorem exec_runs (c : Instr) (s : State) : ∃ b t, exec c s = .next t ∧ Starts c s b ∧ Work b [] t := by
  obtain ⟨b, u, hb, hu, he⟩ := runs_exec c s
  exact ⟨b, s.settle u, he, hb, hu.settle s⟩

/-- What the beginning of each command and each change keep, every step keeps: a command's, and the millisecond of an
empty queue. -/
theorem step_keeps {P : List RecIx → State → Prop}
    (hstart : ∀ {c : Instr} {s b : State}, Starts c s b → P [] s → P [] b)
    (hact : ∀ {held held' : List RecIx} {u v : State}, Act held u held' v → P held u → P held' v)
    (hpending : ∀ (s : State) (l : List Instr), P [] s → P [] { s with pending := l })
    {s t : State} (hs : P [] s) (h : step s = .next t) : P [] t := by
  unfold step at h
  split at h
  · obtain rfl := Host.Outcome.next.inj h
    unfold State.tick
    split
    · exact hs
    · exact hact (.idle { s with time := s.time + 1 }) hs
  · rename_i c rest _
    obtain ⟨b, u, he, hb, hu⟩ := exec_runs c { s with pending := rest }
    obtain rfl : u = t := Host.Outcome.next.inj (he.symm.trans h)
    exact hu.keeps hact (hstart hb (hpending s rest hs))

end Sys2Proof.Machine
end

section
/-! SUPPORT. The pool (R12, R14) and the approach queues (R18 to R23): what each change keeps of where records stand, of
blank records, of the capacities and of the order of the queues. -/

namespace Sys2Proof.Machine

/-! ### Where records stand -/

/-- R12 within a command: each record is in exactly one place, or in hand. -/
def Pooled (held : List RecIx) (s : State) : Prop := (held ++ s.places).Perm (List.finRange 64)

theorem pooled_nil (s : State) : Pooled [] s ↔ PoolLaw s := Iff.rfl

theorem State.count_places_setSlot (s : State) (k : SlotIx) (x : Slot) (a : RecIx) :
    (s.slot k).records.count a + (s.setSlot k x).places.count a = x.records.count a + s.places.count a := by
  simpa only [List.count_append] using (s.places_setSlot k x).count_eq a

/-- A slot that is written gives records to the hand, or takes them from it. -/
theorem State.places_setSlot_moves {s : State} {k : SlotIx} {x : Slot} {held held' : List RecIx}
    (h : (held' ++ x.records).Perm (held ++ (s.slot k).records)) :
    (held' ++ (s.setSlot k x).places).Perm (held ++ s.places) := by
  refine List.perm_iff_count.mpr fun a => ?_
  have hset := s.count_places_setSlot k x a
  have hmoved := h.count_eq a
  simp only [List.count_append] at hmoved ⊢
  omega

theorem State.count_places_waitList (s : State) (l : List WaitEntry) (a : RecIx) :
    ({ s with waitList := l } : State).places.count a + (s.waitList.map WaitEntry.record).count a
      = s.places.count a + (l.map WaitEntry.record).count a := by
  simp only [State.places, List.count_append]
  omega

theorem State.count_places_cutList (s : State) (l : List RecIx) (a : RecIx) :
    ({ s with cutList := l } : State).places.count a + s.cutList.count a = s.places.count a + l.count a := by
  simp only [State.places, List.count_append]
  omega

theorem Slot.records_of_lists {x y : Slot} (h : x.lists = y.lists) : x.records = y.records := by
  simp only [Slot.lists, Prod.mk.injEq] at h
  obtain ⟨-, hq, -, hz⟩ := h
  rw [Slot.records, Slot.records, hq, hz]

theorem Slot.records_without {x : Slot} {i : Nat} {p : Passage} (hp : x.zone[i]? = some p) :
    (p.record :: (x.without i).records).Perm x.records := by
  obtain ⟨hi, rfl⟩ := List.getElem?_eq_some_iff.mp hp
  have hzone := (List.getElem_cons_eraseIdx_perm hi).map Passage.record
  exact List.perm_middle.symm.trans (hzone.append_left x.queue)

theorem map_record_set {l : List Passage} {i : Nat} {p q : Passage} (hp : l[i]? = some p) (hq : q.record = p.record) :
    (l.set i q).map Passage.record = l.map Passage.record := by
  obtain ⟨hi, rfl⟩ := List.getElem?_eq_some_iff.mp hp
  rw [List.map_set, hq]
  exact List.set_getElem_self (as := l.map Passage.record) (by simpa using hi) ▸ by simp

theorem Passage.places_discard (p : Passage) (s : State) : (p.discard s).places = s.places := by
  unfold Passage.discard
  split <;> rfl

theorem State.places_setHandoff (s : State) (k : SlotIx) (i : Nat) (x : PassageHandoff) :
    (s.setHandoff k i x).places.Perm s.places := by
  unfold State.setHandoff
  split
  · exact List.Perm.refl _
  · rename_i p hp
    refine s.places_setSlot_of_records k _ ?_
    rw [Slot.records, Slot.records, map_record_set (q := { p with handoff := x }) hp rfl]

theorem perm_of_find? {α : Type} {f : α → Bool} {l : List α} {a : α} (h : l.find? f = some a) :
    (a :: l.eraseP f).Perm l := by
  induction l with
  | nil => exact absurd h (by simp)
  | cons x l ih =>
    rw [List.find?_cons] at h
    split at h
    · rename_i hx
      obtain rfl := Option.some.inj h
      rw [List.eraseP_cons_of_pos hx]
    · rename_i hx
      rw [List.eraseP_cons_of_neg (by simpa using hx)]
      exact (List.Perm.swap x a _).trans ((ih h).cons x)

/-- R12: no change loses a record or gives it two places. -/
theorem Act.places {held held' : List RecIx} {u v : State} (h : Act held u held' v) :
    (held' ++ v.places).Perm (held ++ u.places) := by
  cases h with
  | shuffle h => exact h.symm.append_right _
  | slot h => exact (u.places_setSlot_of_records _ _ (Slot.records_of_lists h)).append_left _
  | allocated h =>
    rw [State.places_allocate (State.allocate_eq_some_iff.mpr ⟨_, h, rfl⟩)]
    exact List.perm_middle.symm
  | freed => exact ((u.places_freeRecord _).append_left _).trans List.perm_middle
  | emptied k =>
    refine State.places_setSlot_moves (List.perm_iff_count.mpr fun a => ?_)
    simp only [Slot.unsynced, Slot.records, List.nil_append, List.count_append]
    omega
  | consumed tag he hq hd =>
    refine State.places_setSlot_moves ?_
    simp only [Slot.records, hq, Slot.consume]
    exact List.perm_middle.symm
  | passedBy he hd =>
    exact (u.places_setSlot_of_records _ ((u.slot _).consume _ .anonymous 0) rfl).append_left held
  | inserted h =>
    refine State.places_setSlot_moves (s := State.setRecord _ _ _) ?_
    refine (((insertByDistance_perm _ _ _).append_right _).append_left _).trans ?_
    exact List.perm_middle
  | begun hr hl hp hh =>
    refine State.places_setSlot_moves (List.perm_iff_count.mpr fun a => ?_)
    simp only [Slot.records, List.map_append, List.count_append, List.map_cons, List.map_nil, List.count_cons,
      List.count_nil, hr]
    omega
  | passage hp hq hl =>
    refine (u.places_setSlot_of_records _ _ ?_).append_left _
    rw [Slot.records, Slot.records, map_record_set hp hq.1]
  | sent k i f hs => exact (u.places_setHandoff k i _).append_left _
  | @left _ _ k i p hp =>
    rw [← Passage.places_discard p u]
    refine State.places_setSlot_moves ?_
    have hslot : (p.discard u).slot k = u.slot k := by unfold Passage.discard; split <;> rfl
    rw [hslot]
    exact List.perm_middle.symm.trans ((Slot.records_without hp).append_left held)
  | @parked _ _ k i p n hp hh hn hroom =>
    refine List.perm_iff_count.mpr fun a => ?_
    have hset := State.count_places_setSlot { u with waitList := u.waitList ++ [(⟨p.record, n⟩ : WaitEntry)] } k
      ((u.slot k).without i) a
    have hwait := u.count_places_waitList (u.waitList ++ [(⟨p.record, n⟩ : WaitEntry)]) a
    have hzone := (Slot.records_without hp).count_eq a
    have hslot : State.slot { u with waitList := u.waitList ++ [(⟨p.record, n⟩ : WaitEntry)] } k = u.slot k := rfl
    simp only [List.count_append, List.count_cons, List.map_append, List.map_cons, List.map_nil, List.count_nil,
      hslot] at hset hwait hzone ⊢
    omega
  | @displaced _ _ k i p n e rest hp hh hn hw =>
    refine List.perm_iff_count.mpr fun a => ?_
    have hset := State.count_places_setSlot
      ({ u with waitList := rest ++ [(⟨p.record, n⟩ : WaitEntry)] }.dropHandoff e.handoff) k ((u.slot k).without i) a
    have hwait := u.count_places_waitList (rest ++ [(⟨p.record, n⟩ : WaitEntry)]) a
    have hzone := (Slot.records_without hp).count_eq a
    have hslot : State.slot ({ u with waitList := rest ++ [(⟨p.record, n⟩ : WaitEntry)] }.dropHandoff e.handoff) k
        = u.slot k := rfl
    have hplaces : ({ u with waitList := rest ++ [(⟨p.record, n⟩ : WaitEntry)] }.dropHandoff e.handoff).places
        = ({ u with waitList := rest ++ [(⟨p.record, n⟩ : WaitEntry)] } : State).places := rfl
    simp only [List.count_append, List.count_cons, List.map_append, List.map_cons, List.map_nil, List.count_nil,
      hslot, hplaces, hw] at hset hwait hzone ⊢
    omega
  | @unparked _ _ n e h =>
    refine List.perm_iff_count.mpr fun a => ?_
    have hwait := u.count_places_waitList (u.waitList.eraseP fun x => x.handoff == n) a
    have herased := ((perm_of_find? h).map WaitEntry.record).count_eq a
    simp only [List.count_append, List.count_cons, List.map_cons] at hwait herased ⊢
    have hplaces : ({ u with waitList := u.waitList.eraseP fun x => x.handoff == n }.dropHandoff n).places
        = ({ u with waitList := u.waitList.eraseP fun x => x.handoff == n } : State).places := rfl
    rw [hplaces]
    omega
  | alarmed inc =>
    unfold State.captureAlarm
    split <;> exact List.Perm.refl _
  | @cut _ _ taken l hp hl =>
    refine List.perm_iff_count.mpr fun a => ?_
    have hcut := u.count_places_cutList l a
    have hperm := hp.count_eq a
    simp only [List.count_append] at hperm ⊢
    omega
  | @listed _ _ r p h0 ht hl =>
    refine List.perm_iff_count.mpr fun a => ?_
    have hcut := (u.setRecord r (enteredRecord p)).count_places_cutList (u.cutList ++ [r]) a
    simp only [List.count_append, List.count_cons, List.count_nil, State.cutList_setRecord,
      State.places_setRecord] at hcut ⊢
    omega
  | _ => exact List.Perm.refl _

theorem Act.pooled {held held' : List RecIx} {u v : State} (h : Act held u held' v) (hu : Pooled held u) :
    Pooled held' v := h.places.trans hu

end Sys2Proof.Machine
end

section
/-! SUPPORT. Records in one place: a record in hand, in a zone list, in an approach queue or in the cut list is in no
other place (R12), so that what is written of it touches neither a blank record nor another list; with this every step
conserves the pool. -/

namespace Sys2Proof.Machine

/-! ### One place for each record -/

/-- The records in the approach queues. -/
def State.queuedRecords (s : State) : List RecIx := s.slots.toList.flatMap Slot.queue

/-- The records in the zone lists. -/
def State.zoneRecords (s : State) : List RecIx := s.slots.toList.flatMap (fun x => x.zone.map Passage.record)

theorem State.slot_mem_slots (s : State) (k : SlotIx) : s.slot k ∈ s.slots.toList := by
  simp [State.slot]

theorem State.mem_queuedRecords {s : State} {k : SlotIx} {i : RecIx} (h : i ∈ (s.slot k).queue) :
    i ∈ s.queuedRecords := List.mem_flatMap.mpr ⟨_, s.slot_mem_slots k, h⟩

theorem State.mem_zoneRecords {s : State} {i : RecIx} (h : s.tracks i) : i ∈ s.zoneRecords := by
  obtain ⟨k, hk⟩ := h
  exact List.mem_flatMap.mpr ⟨_, s.slot_mem_slots k, hk⟩

namespace Pooled
variable {held : List RecIx} {s : State} {i : RecIx} {k : SlotIx}

/-- R12, counted. -/
theorem count (h : Pooled held s) (i : RecIx) :
    held.count i + s.free.count i + s.cutList.count i + s.queuedRecords.count i + s.zoneRecords.count i
      + (s.waitList.map WaitEntry.record).count i = 1 := by
  have hone : (List.finRange 64).count i = 1 := List.count_eq_one_of_mem (List.nodup_finRange 64) (List.mem_finRange i)
  have hall := (h.count_eq i).trans hone
  have hslots := (List.flatMap_append_perm s.slots.toList Slot.queue fun x => x.zone.map Passage.record).count_eq i
  simp only [State.places, List.count_append] at hall hslots
  unfold State.queuedRecords State.zoneRecords
  omega

theorem apart_of_mayWrite (h : Pooled held s) (hi : s.mayWrite held i) :
    i ∉ s.free ∧ i ∉ s.cutList ∧ ∀ k, i ∉ (s.slot k).queue := by
  have hone := h.count i
  have hhere : 1 ≤ held.count i + s.zoneRecords.count i := by
    rcases hi with hi | hi
    · exact (List.one_le_count_iff.mpr hi).trans (Nat.le_add_right _ _)
    · exact (List.one_le_count_iff.mpr (State.mem_zoneRecords hi)).trans (Nat.le_add_left _ _)
  refine ⟨fun hmem => ?_, fun hmem => ?_, fun k hmem => ?_⟩
  · have := List.one_le_count_iff.mpr hmem
    omega
  · have := List.one_le_count_iff.mpr hmem
    omega
  · have := List.one_le_count_iff.mpr (State.mem_queuedRecords hmem)
    omega

theorem apart_of_queued (h : Pooled held s) (hi : i ∈ (s.slot k).queue) : i ∉ s.free ∧ i ∉ s.cutList := by
  have hone := h.count i
  have hhere := List.one_le_count_iff.mpr (State.mem_queuedRecords hi)
  refine ⟨fun hmem => ?_, fun hmem => ?_⟩
  · have := List.one_le_count_iff.mpr hmem
    omega
  · have := List.one_le_count_iff.mpr hmem
    omega

theorem apart_of_listed (h : Pooled held s) (hi : i ∈ s.cutList) : i ∉ s.free ∧ ∀ k, i ∉ (s.slot k).queue := by
  have hone := h.count i
  have hhere := List.one_le_count_iff.mpr hi
  refine ⟨fun hmem => ?_, fun k hmem => ?_⟩
  · have := List.one_le_count_iff.mpr hmem
    omega
  · have := List.one_le_count_iff.mpr (State.mem_queuedRecords hmem)
    omega

end Pooled

theorem State.mayWrite_of_hand {s : State} {i : RecIx} {held : List RecIx} : s.mayWrite (i :: held) i :=
  .inl List.mem_cons_self

/-! ### Where a command begins -/

theorem State.slot_assertReset (s : State) (k : SlotIx) : s.assertReset.slot k = (s.slot k).reset := by
  simp [State.assertReset, State.slot]

theorem State.places_assertReset (s : State) : s.assertReset.places = List.finRange 64 := by
  have hslots : s.assertReset.slots.toList.flatMap (fun x => x.queue ++ x.zone.map Passage.record) = [] := by
    refine List.flatMap_eq_nil_iff.mpr fun x hx => ?_
    simp only [State.assertReset, Vector.toList_map, List.mem_map] at hx
    obtain ⟨y, -, rfl⟩ := hx
    rfl
  rw [State.places, hslots]
  simp [State.assertReset, State.reset]

theorem Starts.pooled {c : Instr} {s b : State} (h : Starts c s b) (hs : Pooled [] s) : Pooled [] b := by
  cases h with
  | reset =>
    unfold Pooled
    rw [State.places_assertReset, List.nil_append]
  | service _ _ hu => exact hu.keeps (P := Pooled) Act.pooled hs
  | _ => exact hs

/-! ### Blank records -/

theorem BlankLaw.setRecord {s : State} (h : BlankLaw s) {i : RecIx} (hi : i ∉ s.free) (r : Record) :
    BlankLaw (s.setRecord i r) := by
  intro j hj
  have hne : j ≠ i := fun e => hi (e ▸ hj)
  rw [State.record_setRecord_of_ne _ _ _ _ hne]
  exact h j hj

theorem BlankLaw.freeRecord {s : State} (h : BlankLaw s) (i : RecIx) : BlankLaw (s.freeRecord i) := by
  intro j hj
  rw [State.record_freeRecord_eq_ite]
  split
  · rfl
  · rename_i hne
    rcases List.mem_append.mp hj with hj | hj
    · exact h j hj
    · exact absurd (List.mem_singleton.mp hj) hne

theorem blankLaw_congr {s u : State} (hr : u.records = s.records) (hf : u.free = s.free) :
    BlankLaw u ↔ BlankLaw s := by
  unfold BlankLaw State.record
  rw [hr, hf]

theorem Passage.pool_discard (p : Passage) (s : State) :
    (p.discard s).records = s.records ∧ (p.discard s).free = s.free := by
  unfold Passage.discard
  split <;> exact ⟨rfl, rfl⟩

theorem State.pool_setHandoff (s : State) (k : SlotIx) (i : Nat) (x : PassageHandoff) :
    (s.setHandoff k i x).records = s.records ∧ (s.setHandoff k i x).free = s.free := by
  unfold State.setHandoff
  split <;> exact ⟨rfl, rfl⟩

theorem State.pool_captureAlarm (s : State) (inc : Incident) :
    (s.captureAlarm inc).records = s.records ∧ (s.captureAlarm inc).free = s.free := by
  unfold State.captureAlarm
  split <;> exact ⟨rfl, rfl⟩

theorem Act.blankLaw {held held' : List RecIx} {u v : State} (h : Act held u held' v) (hu : Pooled held u)
    (hb : BlankLaw u) : BlankLaw v := by
  cases h with
  | record r hi => exact hb.setRecord (hu.apart_of_mayWrite hi).1 r
  | queued hi hr => exact hb.setRecord (hu.apart_of_queued hi).1 _
  | lifted hi => exact hb.setRecord (hu.apart_of_listed hi).1 _
  | allocated hf => exact fun j hj => hb j (hf ▸ List.mem_cons_of_mem _ hj)
  | freed => exact hb.freeRecord _
  | inserted ht => exact hb.setRecord (hu.apart_of_mayWrite State.mayWrite_of_hand).1 _
  | listed p h0 ht hl => exact hb.setRecord (hu.apart_of_mayWrite State.mayWrite_of_hand).1 _
  | sent k i f hs =>
    obtain ⟨hr, hf⟩ := u.pool_setHandoff k i (.sent u.nextHandoff)
    exact (blankLaw_congr hr hf).mpr hb
  | @left _ _ k i p hp =>
    obtain ⟨hr, hf⟩ := p.pool_discard u
    exact (blankLaw_congr hr hf).mpr hb
  | alarmed inc =>
    obtain ⟨hr, hf⟩ := u.pool_captureAlarm inc
    exact (blankLaw_congr hr hf).mpr hb
  | _ => exact hb

theorem State.blankLaw_assertReset (s : State) : BlankLaw s.assertReset := by
  intro i _
  simp [State.assertReset, State.reset, State.record]

theorem Act.pooledBlank {held held' : List RecIx} {u v : State} (h : Act held u held' v)
    (hu : Pooled held u ∧ BlankLaw u) : Pooled held' v ∧ BlankLaw v := ⟨h.pooled hu.1, h.blankLaw hu.1 hu.2⟩

theorem Starts.pooledBlank {c : Instr} {s b : State} (h : Starts c s b) (hs : Pooled [] s ∧ BlankLaw s) :
    Pooled [] b ∧ BlankLaw b := by
  refine ⟨h.pooled hs.1, ?_⟩
  cases h with
  | reset => exact s.blankLaw_assertReset
  | service _ _ hu => exact (hu.keeps (P := fun held x => Pooled held x ∧ BlankLaw x) Act.pooledBlank hs).2
  | _ => exact hs.2

/-- Settles O53: no change loses a record or gives it two places, and none writes a record of the free list. -/
theorem everyStepConservesThePool : Obligations.EveryStepConservesThePool := by
  unfold Obligations.EveryStepConservesThePool
  intro s t hs h
  refine ⟨step_keeps (P := Pooled) Starts.pooled Act.pooled (fun _ _ hx => hx) hs h, fun hb => ?_⟩
  exact (step_keeps (P := fun held x => Pooled held x ∧ BlankLaw x) Starts.pooledBlank Act.pooledBlank
    (fun _ _ hx => hx) ⟨hs, hb⟩ h).2

end Sys2Proof.Machine
end

section
/-! SUPPORT. The lists of the slots (R18 to R23, R61): each change keeps zone lists, approach queues and recent lists
within their capacities, and the approach queues in the order of their feed sequences. -/

namespace Sys2Proof.Machine

/-! ### What a change makes of a slot -/

theorem State.forall_slot_setSlot {P : Slot → Prop} {s : State} (h : ∀ j, P (s.slot j)) {k : SlotIx} {x : Slot}
    (hx : P x) (j : SlotIx) : P ((s.setSlot k x).slot j) := by
  rw [State.slot_setSlot_eq_ite]
  split
  · exact hx
  · exact h j

theorem Passage.slot_discard (p : Passage) (s : State) (k : SlotIx) : (p.discard s).slot k = s.slot k := by
  unfold Passage.discard
  split <;> rfl

/-! ### Capacities (R18, R20, R23, R61) -/

/-- R61: a zone list within its capacity, and its counts within theirs. -/
def zoneWithin (zone : List Passage) : Prop :=
  zone.length ≤ Config.zoneCapacity ∧ ∀ p ∈ zone, p.out ≤ p.axlesIn ∧ p.axlesIn ≤ Config.axleLimit

/-- R18, R20, R23: the lists of an approach queue within their capacities. -/
def Slot.queueWithin (x : Slot) : Prop :=
  x.queue.length ≤ Config.queueCapacity ∧ x.recent.length ≤ Config.recentCapacity
    ∧ (x.expected = none → x.queue = [] ∧ x.recent = [])

theorem queueLaw_iff (s : State) : QueueLaw s ↔ ∀ k, (s.slot k).queueWithin := Iff.rfl

theorem zoneLaw_iff (s : State) : ZoneLaw s ↔ ∀ k, zoneWithin (s.slot k).zone := Iff.rfl

theorem zoneWithin_set {l : List Passage} (h : zoneWithin l) {i : Nat} {p q : Passage} (hp : l[i]? = some p)
    (hcounts : p.out ≤ p.axlesIn ∧ p.axlesIn ≤ Config.axleLimit → q.out ≤ q.axlesIn ∧ q.axlesIn ≤ Config.axleLimit) :
    zoneWithin (l.set i q) := by
  obtain ⟨hl, hc⟩ := h
  refine ⟨(List.length_set ..).trans_le hl, fun x hx => ?_⟩
  rcases List.mem_or_eq_of_mem_set hx with hx | rfl
  · exact hc x hx
  · exact hcounts (hc p (List.mem_of_getElem? hp))

theorem zoneWithin_eraseIdx {l : List Passage} (h : zoneWithin l) (i : Nat) : zoneWithin (l.eraseIdx i) :=
  ⟨(List.length_eraseIdx_le ..).trans h.1, fun x hx => h.2 x (List.mem_of_mem_eraseIdx hx)⟩

theorem Slot.queueWithin.consume {x : Slot} (h : x.queueWithin) (seq : Seq) (kind : RecentKind) (tag : Tag)
    {q : List RecIx} (hq : q.length ≤ x.queue.length) :
    ({ x.consume seq kind tag with queue := q } : Slot).queueWithin := by
  obtain ⟨hl, hr, -⟩ := h
  exact ⟨hq.trans hl, length_pushRecent_le _ _ hr, fun he => absurd he (by simp [Slot.consume])⟩

theorem Slot.queueWithin.passage {x : Slot} (h : x.queueWithin) {l : List RecentEntry} {zone : List Passage}
    (hl : l.length = x.recent.length) : ({ x with zone := zone, recent := l } : Slot).queueWithin := by
  obtain ⟨hqueue, hr, hempty⟩ := h
  refine ⟨hqueue, hl.trans_le hr, fun he => ⟨(hempty he).1, ?_⟩⟩
  rw [← List.length_eq_zero_iff, hl, (hempty he).2]
  rfl

theorem State.forall_slot_setHandoff {P : Slot → Prop} {s : State} (h : ∀ j, P (s.slot j)) {k : SlotIx} {i n : Nat}
    (hp : ∀ p, s.passage k i = some p →
      P { s.slot k with zone := (s.slot k).zone.set i { p with handoff := .sent n } }) (j : SlotIx) :
    P ((s.setHandoff k i (.sent n)).slot j) := by
  unfold State.setHandoff
  split
  · exact h j
  · rename_i p hpassage
    exact State.forall_slot_setSlot h (hp p hpassage) j

theorem Act.queueLaw {held held' : List RecIx} {u v : State} (h : Act held u held' v) (hu : QueueLaw u) :
    QueueLaw v := by
  rw [queueLaw_iff] at hu ⊢
  cases h with
  | @slot _ _ k x hx =>
    simp only [Slot.lists, Prod.mk.injEq] at hx
    obtain ⟨he, hq, hr, -⟩ := hx
    refine State.forall_slot_setSlot hu ?_
    rw [Slot.queueWithin, he, hq, hr]
    exact hu k
  | emptied k => exact State.forall_slot_setSlot hu ⟨Nat.zero_le _, Nat.zero_le _, fun _ => ⟨rfl, rfl⟩⟩
  | consumed tag he hq hd =>
    exact State.forall_slot_setSlot hu ((hu _).consume _ _ _ (by rw [hq]; exact Nat.le_succ _))
  | passedBy he hd => exact State.forall_slot_setSlot hu ((hu _).consume _ _ _ le_rfl)
  | @inserted _ _ k seq r ht =>
    obtain ⟨hqueue, hr, hempty⟩ := hu k
    refine State.forall_slot_setSlot (s := State.setRecord _ _ _) hu
      ⟨?_, hr, fun he => absurd he (Option.some_ne_none _)⟩
    refine (length_insertByDistance _ _ _).trans_le ?_
    rcases ht with he | ⟨e, -, -, -, hl⟩
    · rw [(hempty he).1]
      decide
    · exact hl
  | @begun _ _ k r p hr hl hp hh => exact State.forall_slot_setSlot hu (x := { u.slot k with zone := _ }) (hu k)
  | passage hp hq hl => exact State.forall_slot_setSlot hu ((hu _).passage hl)
  | sent k i f hs => exact State.forall_slot_setHandoff hu fun _ _ => (hu k).passage rfl
  | @left _ _ k i p hp =>
    refine State.forall_slot_setSlot (fun j => ?_) (x := (u.slot k).without i) (hu k)
    rw [Passage.slot_discard]
    exact hu j
  | @parked _ _ k i p n hp hh hn hroom =>
    exact State.forall_slot_setSlot (s := { u with waitList := _ }) hu (x := (u.slot k).without i) (hu k)
  | @displaced _ _ k i p n e rest hp hh hn hw =>
    exact State.forall_slot_setSlot (s := State.dropHandoff { u with waitList := _ } _) hu
      (x := (u.slot k).without i) (hu k)
  | alarmed inc =>
    intro j
    rw [State.slot_captureAlarm]
    exact hu j
  | _ => exact hu

theorem Act.zoneLaw {held held' : List RecIx} {u v : State} (h : Act held u held' v) (hu : ZoneLaw u) :
    ZoneLaw v := by
  rw [zoneLaw_iff] at hu ⊢
  have hset {s : State} (hs : ∀ j, zoneWithin (s.slot j).zone) {k : SlotIx} {x : Slot} (hx : zoneWithin x.zone) :
      ∀ j, zoneWithin ((s.setSlot k x).slot j).zone :=
    State.forall_slot_setSlot (P := fun x => zoneWithin x.zone) hs hx
  cases h with
  | @slot _ _ k x hx =>
    simp only [Slot.lists, Prod.mk.injEq] at hx
    obtain ⟨-, -, -, hz⟩ := hx
    exact hset hu (hz ▸ hu k)
  | @emptied _ _ k => exact hset hu (hu k)
  | @consumed _ _ k e r rest tag he hq hd => exact hset hu (hu k)
  | @passedBy _ _ k e he hd => exact hset hu (hu k)
  | @inserted _ _ k seq r ht => exact hset (s := State.setRecord _ _ _) hu (hu k)
  | @begun _ _ k r p hr hl hp hh =>
    refine hset hu ⟨(List.length_append ..).trans_le hl, fun x hx => ?_⟩
    rcases List.mem_append.mp hx with hx | hx
    · exact (hu k).2 x hx
    · exact List.mem_singleton.mp hx ▸ hp
  | @passage _ _ k i p q l hp hq hl => exact hset hu (zoneWithin_set (hu k) hp hq.2.2)
  | sent k i f hs =>
    exact State.forall_slot_setHandoff (P := fun x => zoneWithin x.zone) hu fun p hp =>
      zoneWithin_set (hu k) hp fun hc => hc
  | @left _ _ k i p hp =>
    refine hset (fun j => ?_) (zoneWithin_eraseIdx (hu k) i)
    rw [Passage.slot_discard]
    exact hu j
  | @parked _ _ k i p n hp hh hn hroom =>
    exact hset (s := { u with waitList := _ }) hu (zoneWithin_eraseIdx (hu k) i)
  | @displaced _ _ k i p n e rest hp hh hn hw =>
    exact hset (s := State.dropHandoff { u with waitList := _ } _) hu (zoneWithin_eraseIdx (hu k) i)
  | alarmed inc =>
    intro j
    rw [State.slot_captureAlarm]
    exact hu j
  | _ => exact hu

theorem Slot.queueWithin_reset (x : Slot) : x.reset.queueWithin :=
  ⟨Nat.zero_le _, Nat.zero_le _, fun _ => ⟨rfl, rfl⟩⟩

theorem State.queueLaw_assertReset (s : State) : QueueLaw s.assertReset := by
  rw [queueLaw_iff]
  intro j
  rw [State.slot_assertReset]
  exact (s.slot j).queueWithin_reset

theorem State.zoneLaw_assertReset (s : State) : ZoneLaw s.assertReset := by
  rw [zoneLaw_iff]
  intro j
  rw [State.slot_assertReset]
  exact ⟨Nat.zero_le _, fun _ hp => absurd hp List.not_mem_nil⟩

theorem Starts.queueLaw {c : Instr} {s b : State} (h : Starts c s b) (hs : QueueLaw s) : QueueLaw b := by
  cases h with
  | reset => exact s.queueLaw_assertReset
  | service _ _ hu => exact hu.keeps (P := fun _ x => QueueLaw x) Act.queueLaw hs
  | _ => exact hs

theorem Starts.zoneLaw {c : Instr} {s b : State} (h : Starts c s b) (hs : ZoneLaw s) : ZoneLaw b := by
  cases h with
  | reset => exact s.zoneLaw_assertReset
  | service _ _ hu => exact hu.keeps (P := fun _ x => ZoneLaw x) Act.zoneLaw hs
  | _ => exact hs

/-- Settles O58: no change takes a list of a slot above its capacity, or a passage's axles out above its axles in. -/
theorem everyStepKeepsTheSlotCapacities : Obligations.EveryStepKeepsTheSlotCapacities := by
  unfold Obligations.EveryStepKeepsTheSlotCapacities
  intro s t hz hq h
  exact ⟨step_keeps (P := fun _ x => ZoneLaw x) Starts.zoneLaw Act.zoneLaw (fun _ _ hx => hx) hz h,
    step_keeps (P := fun _ x => QueueLaw x) Starts.queueLaw Act.queueLaw (fun _ _ hx => hx) hq h⟩

/-! ### The order of the queues (R19 to R21) -/

/-- R20: the queue of a slot is in ascending distance, by the records as they stand. -/
def State.orders (s : State) (x : Slot) : Prop :=
  ∀ e, x.expected = some e →
    x.queue.Pairwise (fun i j => distance e (s.queuedSeq i) < distance e (s.queuedSeq j))
    ∧ ∀ i ∈ x.queue, (s.record i).feedSeq.isSome = true ∧ distance e (s.queuedSeq i) < Config.behindDistance

/-- The order of a queue depends on the feed sequences of its records alone. -/
theorem State.orders.of_feedSeq {u v : State} {x y : Slot} (h : u.orders x) (he : y.expected = x.expected)
    (hq : y.queue = x.queue) (hf : ∀ i ∈ x.queue, (v.record i).feedSeq = (u.record i).feedSeq) : v.orders y := by
  intro e hy
  obtain ⟨hpair, hall⟩ := h e (he ▸ hy)
  have hseq (i : RecIx) (hi : i ∈ x.queue) : v.queuedSeq i = u.queuedSeq i := by
    unfold State.queuedSeq
    rw [hf i hi]
  rw [hq]
  refine ⟨hpair.imp_of_mem fun hi hj hlt => ?_, fun i hi => ?_⟩
  · rw [hseq _ hi, hseq _ hj]
    exact hlt
  · rw [hf i hi, hseq i hi]
    exact hall i hi

theorem distance_succ {e q : Seq} (h : distance e q ≠ 0) : distance (e + 1) q = distance e q - 1 := by
  unfold distance at *
  bv_omega

theorem distance_self (q : Seq) : distance q q = 0 := by
  unfold distance
  bv_omega

theorem distance_inj {e q q' : Seq} (h : distance e q = distance e q') : q = q' := by
  unfold distance at h
  bv_omega

/-- R18: the expected sequence advances past a sequence that no record of the queue has. -/
theorem State.orders.advance {s : State} {x y : Slot} {e : Seq} (h : s.orders x) (he : x.expected = some e)
    (hy : y.expected = some (e + 1)) (hq : y.queue.Sublist x.queue)
    (hd : ∀ i ∈ y.queue, distance e (s.queuedSeq i) ≠ 0) : s.orders y := by
  intro e' he'
  obtain rfl : e + 1 = e' := Option.some.inj (hy.symm.trans he')
  obtain ⟨hpair, hall⟩ := h e he
  refine ⟨(hpair.sublist hq).imp_of_mem fun hi hj hlt => ?_, fun i hi => ?_⟩
  · have h1 := hd _ hi
    rw [distance_succ h1, distance_succ (hd _ hj)]
    omega
  · obtain ⟨hsome, hlt⟩ := hall i (hq.subset hi)
    rw [distance_succ (hd i hi)]
    exact ⟨hsome, (Nat.sub_le _ _).trans_lt hlt⟩

/-- Every approach queue is in ascending distance. -/
def State.inOrder (s : State) : Prop := ∀ k, s.orders (s.slot k)

theorem State.inOrder.of_apart {u v : State} (h : u.inOrder) {i : RecIx} (hi : ∀ k, i ∉ (u.slot k).queue)
    (hs : ∀ k, v.slot k = u.slot k) (hr : ∀ j, j ≠ i → v.record j = u.record j) : v.inOrder := by
  intro k
  refine (h k).of_feedSeq (by rw [hs]) (by rw [hs]) fun j hj => ?_
  have hne : j ≠ i := fun e => hi k (e ▸ hj)
  rw [hr j hne]

/-- R21: an insertion keeps the order of its queue. -/
theorem State.orders_joined {u : State} {k : SlotIx} {seq : Seq} {r : RecIx} (h : u.orders (u.slot k))
    (hempty : (u.slot k).expected = none → (u.slot k).queue = []) (ht : u.takesSeq k seq r)
    (hr : r ∉ (u.slot k).queue) : (u.joined k seq r).orders ((u.joined k seq r).slot k) := by
  intro e he
  unfold State.joined at he ⊢
  rw [State.slot_setSlot] at he ⊢
  obtain rfl : (u.slot k).expected.getD seq = e := Option.some.inj he
  have hne {i : RecIx} (hi : i ∈ (u.slot k).queue) : i ≠ r := fun e => hr (e ▸ hi)
  set s1 := u.setRecord r { u.record r with
    feedSeq := some seq, timing := some (queueTiming u.time (u.slotCfg k).overdueTime) } with hs1
  have hself : s1.queuedSeq r = seq := by rw [State.queuedSeq, hs1, State.record_setRecord]; rfl
  have hother {i : RecIx} (hi : i ∈ (u.slot k).queue) : s1.record i = u.record i := by
    rw [hs1, State.record_setRecord_of_ne _ _ _ _ (hne hi)]
  have hseq {i : RecIx} (hi : i ∈ (u.slot k).queue) : s1.queuedSeq i = u.queuedSeq i := by
    rw [State.queuedSeq, hother hi, State.queuedSeq]
  show (insertByDistance _ r (u.slot k).queue).Pairwise (fun i j => distance _ (s1.queuedSeq i) < distance _ (s1.queuedSeq j))
    ∧ ∀ i ∈ insertByDistance _ r (u.slot k).queue, (s1.record i).feedSeq.isSome = true
        ∧ distance _ (s1.queuedSeq i) < Config.behindDistance
  have hmem {i : RecIx} (hi : i ∈ insertByDistance (fun i => distance ((u.slot k).expected.getD seq) (s1.queuedSeq i)) r
      (u.slot k).queue) : i = r ∨ i ∈ (u.slot k).queue := List.mem_cons.mp ((insertByDistance_perm _ _ _).mem_iff.mp hi)
  have hsome : (s1.record r).feedSeq.isSome = true := by rw [hs1, State.record_setRecord]; rfl
  rcases ht with hnone | ⟨e, hexp, hd, hqueued, -⟩
  · rw [hempty hnone, hnone]
    refine ⟨List.pairwise_singleton _ _, fun i hi => ?_⟩
    obtain rfl := List.mem_singleton.mp hi
    rw [hself]
    exact ⟨hsome, (distance_self seq).symm ▸ (by decide)⟩
  · obtain ⟨hpair, hall⟩ := h e hexp
    rw [hexp, Option.getD_some] at hmem ⊢
    refine ⟨insertByDistance_pairwise _ r _ (hpair.imp_of_mem fun hi hj hlt => ?_) fun i hi => ?_, fun i hi => ?_⟩
    · rw [hseq hi, hseq hj]
      exact hlt
    · rw [hself, hseq hi]
      exact fun he => hqueued i hi (hne hi) (distance_inj he)
    · rcases hmem hi with rfl | hi
      · rw [hself]
        exact ⟨hsome, hd⟩
      · rw [hother hi, hseq hi]
        exact hall i hi

/-- R20 within a command: the order of the queues, with the capacities and the one place of each record on which it
rests. -/
def Ordered (held : List RecIx) (s : State) : Prop := Pooled held s ∧ QueueLaw s ∧ s.inOrder

theorem State.queue_setHandoff (s : State) (k j : SlotIx) (i : Nat) (x : PassageHandoff) :
    ((s.setHandoff k i x).slot j).queue = (s.slot j).queue
      ∧ ((s.setHandoff k i x).slot j).expected = (s.slot j).expected := by
  unfold State.setHandoff
  split
  · exact ⟨rfl, rfl⟩
  · unfold State.setPassage
    rw [State.slot_setSlot_eq_ite]
    split
    · rename_i hj
      rw [hj]
      exact ⟨rfl, rfl⟩
    · exact ⟨rfl, rfl⟩

theorem State.record_setHandoff (s : State) (k : SlotIx) (i : Nat) (x : PassageHandoff) (r : RecIx) :
    (s.setHandoff k i x).record r = s.record r := by
  unfold State.record
  rw [(s.pool_setHandoff k i x).1]

theorem Act.inOrder {held held' : List RecIx} {u v : State} (h : Act held u held' v) (hp : Pooled held u)
    (hempty : ∀ k, (u.slot k).expected = none → (u.slot k).queue = []) (ho : u.inOrder) : v.inOrder := by
  have hset {k : SlotIx} {x : Slot} (hx : u.orders x) : ∀ j, u.orders ((u.setSlot k x).slot j) :=
    State.forall_slot_setSlot (P := u.orders) ho hx
  cases h with
  | @slot _ _ k x hx =>
    simp only [Slot.lists, Prod.mk.injEq] at hx
    exact hset ((ho k).of_feedSeq hx.1 hx.2.1 fun _ _ => rfl)
  | record r hi =>
    exact ho.of_apart (hp.apart_of_mayWrite hi).2.2 (fun _ => rfl) fun j hj => State.record_setRecord_of_ne _ _ _ _ hj
  | @queued _ _ k i r hi hr =>
    intro j
    refine (ho j).of_feedSeq rfl rfl fun n _ => ?_
    rw [State.record_setRecord_eq_ite]
    split
    · rename_i hn
      rw [hr, hn]
    · rfl
  | lifted hi =>
    exact ho.of_apart (hp.apart_of_listed hi).2 (fun _ => rfl) fun j hj => State.record_setRecord_of_ne _ _ _ _ hj
  | freed =>
    exact ho.of_apart (hp.apart_of_mayWrite State.mayWrite_of_hand).2.2 (fun _ => rfl) fun j hj =>
      State.record_setRecord_of_ne _ _ _ _ hj
  | emptied k => exact hset fun e he => absurd he (by simp [Slot.unsynced])
  | @consumed _ _ k e r rest tag he hq hd =>
    refine hset ((ho k).advance he rfl (by rw [hq]; exact List.sublist_cons_self r rest) fun i hi => ?_)
    have hfirst := (ho k e he).1
    rw [hq, List.pairwise_cons] at hfirst
    exact Nat.ne_of_gt ((Nat.zero_le _).trans_lt (hfirst.1 i hi))
  | @passedBy _ _ k e he hd =>
    refine hset ((ho k).advance he rfl (List.Sublist.refl _) fun i hi => ?_)
    change i ∈ (u.slot k).queue at hi
    have hpair := (ho k e he).1
    cases hq : (u.slot k).queue with
    | nil => rw [hq] at hi; exact absurd hi List.not_mem_nil
    | cons r rest =>
      rw [hq, List.pairwise_cons] at hpair
      rcases List.mem_cons.mp (hq ▸ hi) with rfl | hi
      · exact hd i (by rw [hq]; rfl)
      · exact Nat.ne_of_gt ((Nat.zero_le _).trans_lt (hpair.1 i hi))
  | @inserted _ _ k seq r ht =>
    have hapart := (hp.apart_of_mayWrite State.mayWrite_of_hand).2.2
    intro j
    by_cases hj : j = k
    · subst hj
      exact State.orders_joined (ho j) (hempty j) ht (hapart j)
    · have hslot : (u.joined k seq r).slot j = u.slot j := State.slot_setSlot_of_ne _ _ _ _ hj
      refine (ho j).of_feedSeq (by rw [hslot]) (by rw [hslot]) fun i hi => ?_
      have hne : i ≠ r := fun e => hapart j (e ▸ hi)
      exact congrArg Record.feedSeq (State.record_setRecord_of_ne _ _ _ _ hne)
  | begun hr hl hp hh => exact hset ((ho _).of_feedSeq rfl rfl fun _ _ => rfl)
  | passage hp hq hl => exact hset ((ho _).of_feedSeq rfl rfl fun _ _ => rfl)
  | sent k i f hs =>
    intro j
    obtain ⟨hq, he⟩ := u.queue_setHandoff k j i (.sent u.nextHandoff)
    exact (ho j).of_feedSeq he hq fun n _ => congrArg Record.feedSeq (u.record_setHandoff k i _ n)
  | @left _ _ k i p hp =>
    intro j
    have hleft : u.orders (((p.discard u).setSlot k ((u.slot k).without i)).slot j) :=
      State.forall_slot_setSlot (P := u.orders) (fun n => by rw [Passage.slot_discard]; exact ho n)
        (x := (u.slot k).without i) ((ho k).of_feedSeq rfl rfl fun _ _ => rfl) j
    refine hleft.of_feedSeq rfl rfl fun n _ => ?_
    unfold State.record State.setSlot
    rw [(p.pool_discard u).1]
  | parked hp hh hn hroom => exact hset ((ho _).of_feedSeq rfl rfl fun _ _ => rfl)
  | displaced hp hh hn hw => exact hset ((ho _).of_feedSeq rfl rfl fun _ _ => rfl)
  | alarmed inc =>
    intro j
    refine (ho j).of_feedSeq (by rw [State.slot_captureAlarm]) (by rw [State.slot_captureAlarm]) fun n _ => ?_
    unfold State.record
    rw [(u.pool_captureAlarm inc).1]
  | listed p h0 ht hl =>
    exact ho.of_apart (hp.apart_of_mayWrite State.mayWrite_of_hand).2.2 (fun _ => rfl) fun j hj =>
      State.record_setRecord_of_ne _ _ _ _ hj
  | _ => exact ho

theorem Act.ordered {held held' : List RecIx} {u v : State} (h : Act held u held' v) (hu : Ordered held u) :
    Ordered held' v := by
  obtain ⟨hp, hq, ho⟩ := hu
  exact ⟨h.pooled hp, h.queueLaw hq, h.inOrder hp (fun k he => ((hq k).2.2 he).1) ho⟩

theorem State.inOrder_assertReset (s : State) : s.assertReset.inOrder := by
  intro k e he
  rw [State.slot_assertReset] at he
  exact absurd he (by simp [Slot.reset, Slot.afterReset])

theorem Starts.ordered {c : Instr} {s b : State} (h : Starts c s b) (hs : Ordered [] s) : Ordered [] b := by
  cases h with
  | reset hc => exact ⟨(Starts.reset hc).pooled hs.1, s.queueLaw_assertReset, s.inOrder_assertReset⟩
  | service _ _ hu => exact hu.keeps (P := Ordered) Act.ordered hs
  | _ => exact hs

/-- Settles O54: an insertion goes to the place of its distance, and the expected sequence advances only past sequences
that no queued record has. -/
theorem everyStepKeepsTheQueueOrder : Obligations.EveryStepKeepsTheQueueOrder := by
  unfold Obligations.EveryStepKeepsTheQueueOrder
  intro s t hp hq ho h
  exact (step_keeps (P := Ordered) Starts.ordered Act.ordered (fun _ _ hx => hx) ⟨hp, hq, ho⟩ h).2.2

end Sys2Proof.Machine
end

section
/-! SUPPORT. Handoff contexts (R63, R90 to R96): each change keeps a context in one place, known by its number, and the
wait list within its capacity, each entry with a PENDING handoff. -/

namespace Sys2Proof.Machine

/-! ### The handoff of a number -/

theorem State.number_of_handoff? {s : State} {n : Nat} {x : Handoff} (h : s.handoff? n = some x) : x.number = n :=
  beq_iff_eq.mp (List.find?_some (p := fun y : Handoff => y.number == n) h)

theorem State.mem_of_handoff? {s : State} {n : Nat} {x : Handoff} (h : s.handoff? n = some x) : x ∈ s.handoffs :=
  List.mem_of_find?_eq_some h

theorem State.handoff?_dropHandoff_of_ne (s : State) {n m : Nat} (h : m ≠ n) :
    (s.dropHandoff n).handoff? m = s.handoff? m := by
  show (s.handoffs.filter _).find? _ = s.handoffs.find? _
  rw [List.find?_filter]
  refine congrArg (fun f => s.handoffs.find? f) (funext fun x => ?_)
  by_cases hx : x.number = m
  · simp [hx, h]
  · simp [hx]

theorem State.isPending_dropHandoff_of_ne (s : State) {n m : Nat} (h : m ≠ n) :
    (s.dropHandoff n).isPending m = s.isPending m := by
  unfold State.isPending
  rw [s.handoff?_dropHandoff_of_ne h]

theorem State.handoff?_setStatus (s : State) (n m : Nat) (st : HandoffStatus) :
    (s.setStatus n st).handoff? m
      = (s.handoff? m).map (fun x => if x.number = n then { x with status := st } else x) := by
  show (s.handoffs.map _).find? _ = _
  rw [List.find?_map]
  refine congrArg (Option.map _) (congrArg (fun f => s.handoffs.find? f) (funext fun x => ?_))
  simp only [Function.comp]
  split <;> rfl

theorem State.isPending_setStatus_of_ne (s : State) {n m : Nat} (h : m ≠ n) (st : HandoffStatus) :
    (s.setStatus n st).isPending m = s.isPending m := by
  unfold State.isPending
  rw [s.handoff?_setStatus]
  cases hx : s.handoff? m with
  | none => rfl
  | some x =>
    have hn : x.number ≠ n := fun e => h ((State.number_of_handoff? hx).symm.trans e)
    rw [Option.map_some, if_neg hn]

theorem State.isPending_setStatus_pending {s : State} {m : Nat} (h : s.isPending m = true) (n : Nat) (a : Attempt)
    (timer : Option Nat) : (s.setStatus n (.pending a timer)).isPending m = true := by
  by_cases hm : m = n
  · obtain ⟨x, hx⟩ := State.handoff?_of_isPending h
    unfold State.isPending
    rw [s.handoff?_setStatus, hx, Option.map_some, if_pos ((State.number_of_handoff? hx).trans hm)]
  · rw [s.isPending_setStatus_of_ne hm]
    exact h

@[simp] theorem State.numbers_setStatus (s : State) (n : Nat) (st : HandoffStatus) :
    (s.setStatus n st).handoffs.map Handoff.number = s.handoffs.map Handoff.number := by
  show (s.handoffs.map _).map _ = _
  rw [List.map_map]
  refine congrArg (fun f => s.handoffs.map f) (funext fun x => ?_)
  simp only [Function.comp]
  split <;> rfl

/-- A handoff that joins the list changes no other. -/
theorem State.isPending_of_append {u v : State} {x : Handoff} (h : v.handoffs = u.handoffs ++ [x]) {m : Nat}
    (hm : u.isPending m = true) : v.isPending m = true := by
  obtain ⟨y, hy⟩ := State.handoff?_of_isPending hm
  have hv : v.handoff? m = some y := by
    unfold State.handoff? at hy ⊢
    rw [h, List.find?_append, hy]
    rfl
  unfold State.isPending at hm ⊢
  rw [hy] at hm
  rw [hv]
  exact hm

/-! ### Where contexts stand -/

/-- R63: the number of the handoff whose context stands in a passage. -/
def Passage.sentNumber (p : Passage) : Option Nat :=
  match p.handoff with
  | .sent n => some n
  | .none => none
  | .local _ => none

theorem Slot.sentNumbers_eq (x : Slot) : x.sentNumbers = x.zone.filterMap Passage.sentNumber := rfl

theorem Passage.sentNumber_of_sent {p : Passage} {n : Nat} (h : p.handoff = .sent n) : p.sentNumber = some n := by
  unfold Passage.sentNumber
  rw [h]

theorem Slot.sentNumbers_without {x : Slot} {i : Nat} {p : Passage} (hp : x.zone[i]? = some p) (a : Nat) :
    x.sentNumbers.count a = p.sentNumber.toList.count a + (x.without i).sentNumbers.count a := by
  obtain ⟨hi, rfl⟩ := List.getElem?_eq_some_iff.mp hp
  have hperm := ((List.getElem_cons_eraseIdx_perm hi).filterMap Passage.sentNumber).count_eq a
  rw [List.filterMap_cons] at hperm
  rw [Slot.sentNumbers_eq, Slot.sentNumbers_eq, ← hperm]
  cases (x.zone[i]).sentNumber with
  | none => exact (Nat.zero_add _).symm
  | some n =>
    simp only [List.count_cons, Option.toList, List.count_nil]
    exact Nat.add_comm _ _ |>.trans (by simp [Slot.without])

theorem Slot.sentNumbers_set {x y : Slot} {i : Nat} {p q : Passage} (hp : x.zone[i]? = some p)
    (hy : y.zone = x.zone.set i q) (a : Nat) :
    y.sentNumbers.count a + p.sentNumber.toList.count a = q.sentNumber.toList.count a + x.sentNumbers.count a := by
  obtain ⟨hi, -⟩ := List.getElem?_eq_some_iff.mp hp
  have hset : y.zone[i]? = some q := by rw [hy, List.getElem?_set_self hi]
  have herased : (y.without i).sentNumbers = (x.without i).sentNumbers := by
    rw [Slot.sentNumbers_eq, Slot.sentNumbers_eq, Slot.without, Slot.without, hy, List.eraseIdx_set_eq]
  rw [Slot.sentNumbers_without hp, Slot.sentNumbers_without hset, herased]
  omega

theorem State.count_contextNumbers_setSlot (s : State) (k : SlotIx) (x : Slot) (a : Nat) :
    (s.setSlot k x).contextNumbers.count a + (s.slot k).sentNumbers.count a
      = s.contextNumbers.count a + x.sentNumbers.count a := by
  have h := (flatMap_set_perm Slot.sentNumbers x s.slots.toList k.val (by simp)).count_eq a
  have hk : s.slots.toList[k.val]'(by simp) = s.slot k := by simp [State.slot]
  have hs : (s.setSlot k x).slots.toList = s.slots.toList.set k.val x := Vector.toList_set (h := k.isLt)
  rw [hk] at h
  simp only [State.contextNumbers, List.count_append, hs, State.waitList_setSlot] at h ⊢
  omega

theorem State.count_contextNumbers_waitList (s : State) (l : List WaitEntry) (a : Nat) :
    ({ s with waitList := l } : State).contextNumbers.count a + (s.waitList.map WaitEntry.handoff).count a
      = s.contextNumbers.count a + (l.map WaitEntry.handoff).count a := by
  simp only [State.contextNumbers, List.count_append]
  omega

/-! ### What keeps the wait list's law -/

namespace WaitLaw
variable {u v : State}

/-- A change that ends no handoff and gives no context a place. -/
theorem of_fewer (hu : WaitLaw u) (hctx : ∀ a, v.contextNumbers.count a ≤ u.contextNumbers.count a)
    (hl : v.waitList.length ≤ Config.waitCapacity)
    (hn : v.handoffs.map Handoff.number = u.handoffs.map Handoff.number) (hnext : v.nextHandoff = u.nextHandoff)
    (hp : ∀ e ∈ v.waitList, v.isPending e.handoff = true) : WaitLaw v := by
  obtain ⟨-, -, hnodup, hnumbers, hin, hlt⟩ := hu
  refine ⟨hl, hp, ?_, hn ▸ hnumbers, fun m hm => ?_, fun m hm => ?_⟩
  · exact List.nodup_iff_count_le_one.mpr fun a => (hctx a).trans (List.nodup_iff_count_le_one.mp hnodup a)
  · rw [hn]
    exact hin m (List.one_le_count_iff.mp ((List.one_le_count_iff.mpr hm).trans (hctx m)))
  · rw [hnext]
    exact hlt m (hn ▸ hm)

/-- The handoff unit and the passages' contexts stay as they are. -/
theorem of_same (hu : WaitLaw u) (hs : v.slots = u.slots) (hw : v.waitList = u.waitList)
    (hh : v.handoffs = u.handoffs) (hnext : v.nextHandoff = u.nextHandoff) : WaitLaw v := by
  refine hu.of_fewer (fun a => ?_) (hw ▸ hu.1) (by rw [hh]) hnext fun e he => ?_
  · rw [State.contextNumbers, State.contextNumbers, hs, hw]
  · rw [State.isPending_congr hh]
    exact hu.2.1 e (hw ▸ he)

/-- A slot is written with the contexts it had, or fewer. -/
theorem setSlot (hu : WaitLaw u) {k : SlotIx} {x : Slot}
    (hx : ∀ a, x.sentNumbers.count a ≤ (u.slot k).sentNumbers.count a) : WaitLaw (u.setSlot k x) := by
  refine hu.of_fewer (fun a => ?_) hu.1 rfl rfl hu.2.1
  have hcount := u.count_contextNumbers_setSlot k x a
  have := hx a
  omega

/-- A context ends with its place. -/
theorem of_dropped (hu : WaitLaw u) {n : Nat} (hh : v.handoffs = (u.dropHandoff n).handoffs)
    (hctx : ∀ a, v.contextNumbers.count a + [n].count a = u.contextNumbers.count a)
    (hl : v.waitList.length ≤ Config.waitCapacity) (hnext : v.nextHandoff = u.nextHandoff)
    (hp : ∀ e ∈ v.waitList, u.isPending e.handoff = true) : WaitLaw v := by
  obtain ⟨-, -, hnodup, hnumbers, hin, hlt⟩ := hu
  have hone (a : Nat) := List.nodup_iff_count_le_one.mp hnodup a
  have hne {m : Nat} (hm : m ∈ v.contextNumbers) : m ≠ n := by
    rintro rfl
    have h1 := List.one_le_count_iff.mpr hm
    have h2 := hctx m
    rw [List.count_singleton_self] at h2
    have h3 := hone m
    omega
  have hsub : (v.handoffs.map Handoff.number).Sublist (u.handoffs.map Handoff.number) := by
    rw [hh]
    exact List.filter_sublist.map _
  refine ⟨hl, fun e he => ?_, ?_, hnumbers.sublist hsub, fun m hm => ?_, fun m hm => ?_⟩
  · have hmem : e.handoff ∈ v.contextNumbers := List.mem_append_right _ (List.mem_map_of_mem he)
    rw [State.isPending_congr hh, u.isPending_dropHandoff_of_ne (hne hmem)]
    exact hp e he
  · exact List.nodup_iff_count_le_one.mpr fun a => by
      have h1 := hone a
      have h2 := hctx a
      omega
  · have hmem : m ∈ u.contextNumbers := by
      have h1 := List.one_le_count_iff.mpr hm
      have h2 := hctx m
      exact List.one_le_count_iff.mp (by omega)
    obtain ⟨x, hx, rfl⟩ := List.mem_map.mp (hin m hmem)
    rw [hh]
    exact List.mem_map_of_mem (List.mem_filter.mpr ⟨hx, by simpa using hne hm⟩)
  · rw [hnext]
    exact hlt m (hsub.subset hm)

/-- R88: a handoff is made under a number of its own. -/
theorem of_sent (hu : WaitLaw u) {x : Handoff} (hx : x.number = u.nextHandoff)
    (hctx : ∀ a, v.contextNumbers.count a ≤ [u.nextHandoff].count a + u.contextNumbers.count a)
    (hw : v.waitList = u.waitList) (hh : v.handoffs = u.handoffs ++ [x]) (hnext : v.nextHandoff = u.nextHandoff + 1) :
    WaitLaw v := by
  obtain ⟨hl, hp, hnodup, hnumbers, hin, hlt⟩ := hu
  have hmap : v.handoffs.map Handoff.number = u.handoffs.map Handoff.number ++ [u.nextHandoff] := by
    rw [hh, List.map_append, List.map_singleton, hx]
  have hfresh : u.nextHandoff ∉ u.handoffs.map Handoff.number := fun hm => Nat.lt_irrefl _ (hlt _ hm)
  have hunplaced : u.contextNumbers.count u.nextHandoff = 0 :=
    List.count_eq_zero.mpr fun hm => hfresh (hin _ hm)
  refine ⟨hw ▸ hl, fun e he => State.isPending_of_append hh (hp e (hw ▸ he)), ?_, ?_, fun m hm => ?_, fun m hm => ?_⟩
  · refine List.nodup_iff_count_le_one.mpr fun a => ?_
    have h1 := hctx a
    by_cases ha : a = u.nextHandoff
    · rw [ha, List.count_singleton_self, hunplaced] at h1
      rwa [ha]
    · have hother : [u.nextHandoff].count a = 0 := List.count_eq_zero.mpr (by simpa using ha)
      rw [hother, Nat.zero_add] at h1
      exact h1.trans (List.nodup_iff_count_le_one.mp hnodup a)
  · rw [hmap]
    exact List.nodup_append.mpr ⟨hnumbers, List.nodup_singleton _, fun a ha b hb he =>
      hfresh (List.mem_singleton.mp hb ▸ he ▸ ha)⟩
  · rw [hmap]
    have h1 := (List.one_le_count_iff.mpr hm).trans (hctx m)
    by_cases ha : m = u.nextHandoff
    · exact List.mem_append_right _ (List.mem_singleton.mpr ha)
    · have hother : [u.nextHandoff].count m = 0 := List.count_eq_zero.mpr (by simpa using ha)
      rw [hother, Nat.zero_add] at h1
      exact List.mem_append_left _ (hin m (List.one_le_count_iff.mp h1))
  · rw [hnext]
    rcases List.mem_append.mp (hmap ▸ hm) with hm | hm
    · exact Nat.lt_succ_of_lt (hlt m hm)
    · exact List.mem_singleton.mp hm ▸ Nat.lt_succ_self _

end WaitLaw

/-! ### The changes -/

theorem Passage.count_sentNumber_follows {p q : Passage} (h : q.follows p) (a : Nat) :
    q.sentNumber.toList.count a ≤ p.sentNumber.toList.count a := by
  obtain ⟨-, hh, -⟩ := h
  unfold Passage.sentNumber
  rcases hh with hh | ⟨r, hh⟩
  · rw [hh]
  · rw [hh]
    exact Nat.zero_le _

theorem Slot.sentNumbers_of_lists {x y : Slot} (h : x.lists = y.lists) : x.sentNumbers = y.sentNumbers := by
  simp only [Slot.lists, Prod.mk.injEq] at h
  obtain ⟨-, -, -, hz⟩ := h
  rw [Slot.sentNumbers_eq, Slot.sentNumbers_eq, hz]

theorem State.count_contextNumbers_setHandoff (s : State) (k : SlotIx) (i n : Nat) (a : Nat) :
    (s.setHandoff k i (.sent n)).contextNumbers.count a ≤ [n].count a + s.contextNumbers.count a := by
  unfold State.setHandoff
  split
  · exact Nat.le_add_left _ _
  · rename_i p hp
    have hset := s.count_contextNumbers_setSlot k
      { s.slot k with zone := (s.slot k).zone.set i { p with handoff := .sent n } } a
    have hzone := Slot.sentNumbers_set (x := s.slot k)
      (y := { s.slot k with zone := (s.slot k).zone.set i { p with handoff := .sent n } }) hp rfl a
    have hsent : ({ p with handoff := .sent n } : Passage).sentNumber = some n := rfl
    rw [hsent, Option.toList_some] at hzone
    unfold State.setPassage
    omega

theorem State.handoffUnit_setHandoff (s : State) (k : SlotIx) (i : Nat) (x : PassageHandoff) :
    (s.setHandoff k i x).waitList = s.waitList ∧ (s.setHandoff k i x).nextHandoff = s.nextHandoff := by
  unfold State.setHandoff
  split <;> exact ⟨rfl, rfl⟩

/-- R84: a passage without a handoff to another node has no context to discard. -/
theorem Passage.discard_of_not_sent (u : State) {p : Passage} (h : ∀ n, p.handoff ≠ .sent n) : p.discard u = u := by
  unfold Passage.discard
  split
  · rfl
  · rfl
  · next n hh => exact absurd hh (h n)

/-- R79, R84: a passage leaves its zone list, and its context ends. -/
theorem WaitLaw.left {u : State} (hu : WaitLaw u) {k : SlotIx} {i : Nat} {p : Passage} (hp : u.passage k i = some p) :
    WaitLaw ((p.discard u).setSlot k ((u.slot k).without i)) := by
  have hkept := Slot.sentNumbers_without hp
  by_cases hsent : ∃ n, p.handoff = .sent n
  · obtain ⟨n, hh⟩ := hsent
    have hdiscard : p.discard u = u.dropHandoff n := by
      unfold Passage.discard
      rw [hh]
    rw [hdiscard]
    refine hu.of_dropped (n := n) rfl (fun a => ?_) hu.1 rfl hu.2.1
    have hset := (u.dropHandoff n).count_contextNumbers_setSlot k ((u.slot k).without i) a
    have hslot : (u.dropHandoff n).slot k = u.slot k := rfl
    have hctx : (u.dropHandoff n).contextNumbers = u.contextNumbers := rfl
    have hwithout := hkept a
    rw [Passage.sentNumber_of_sent hh, Option.toList_some] at hwithout
    rw [hslot, hctx] at hset
    omega
  · rw [Passage.discard_of_not_sent u fun n hh => hsent ⟨n, hh⟩]
    exact hu.setSlot fun a => (hkept a) ▸ Nat.le_add_left _ _

/-- R79, R95: a context goes with its record from a zone list to the wait list. -/
theorem WaitLaw.parked {u : State} (hu : WaitLaw u) {k : SlotIx} {i : Nat} {p : Passage} {n : Nat}
    (hp : u.passage k i = some p) (hh : p.handoff = .sent n) (hn : u.isPending n = true)
    (hroom : u.waitList.length < Config.waitCapacity ∨ ∃ e ∈ u.waitList, u.isPending e.handoff = false) :
    WaitLaw ({ u with waitList := u.waitList ++ [(⟨p.record, n⟩ : WaitEntry)] }.setSlot k ((u.slot k).without i)) := by
  have hl : u.waitList.length < Config.waitCapacity :=
    hroom.resolve_right fun ⟨e, he, hne⟩ => by rw [hu.2.1 e he] at hne; exact absurd hne (by simp)
  refine hu.of_fewer (fun a => ?_) ((List.length_append ..).trans_le hl) rfl rfl fun e he => ?_
  · have hset := State.count_contextNumbers_setSlot { u with waitList := u.waitList ++ [(⟨p.record, n⟩ : WaitEntry)] } k
      ((u.slot k).without i) a
    have hwait := u.count_contextNumbers_waitList (u.waitList ++ [(⟨p.record, n⟩ : WaitEntry)]) a
    have hwithout := Slot.sentNumbers_without hp a
    have hslot : State.slot { u with waitList := u.waitList ++ [(⟨p.record, n⟩ : WaitEntry)] } k = u.slot k := rfl
    rw [Passage.sentNumber_of_sent hh, Option.toList_some] at hwithout
    rw [hslot] at hset
    rw [List.map_append, List.count_append, List.map_singleton] at hwait
    dsimp only at hwait
    omega
  · rcases List.mem_append.mp he with he | he
    · exact hu.2.1 e he
    · obtain rfl := List.mem_singleton.mp he
      exact hn

/-- R96: the oldest entry of the wait list gives its place to another. -/
theorem WaitLaw.displaced {u : State} (hu : WaitLaw u) {k : SlotIx} {i : Nat} {p : Passage} {n : Nat} {e : WaitEntry}
    {rest : List WaitEntry} (hp : u.passage k i = some p) (hh : p.handoff = .sent n) (hn : u.isPending n = true)
    (hw : u.waitList = e :: rest) :
    WaitLaw (({ u with waitList := rest ++ [(⟨p.record, n⟩ : WaitEntry)] }.dropHandoff e.handoff).setSlot k
      ((u.slot k).without i)) := by
  have hl := hu.1
  rw [hw] at hl
  refine hu.of_dropped (n := e.handoff) rfl (fun a => ?_) ((List.length_append ..).trans_le hl) rfl fun x hx => ?_
  · have hset := State.count_contextNumbers_setSlot
      ({ u with waitList := rest ++ [(⟨p.record, n⟩ : WaitEntry)] }.dropHandoff e.handoff) k ((u.slot k).without i) a
    have hwait := u.count_contextNumbers_waitList (rest ++ [(⟨p.record, n⟩ : WaitEntry)]) a
    have hwithout := Slot.sentNumbers_without hp a
    have hslot : State.slot ({ u with waitList := rest ++ [(⟨p.record, n⟩ : WaitEntry)] }.dropHandoff e.handoff) k
        = u.slot k := rfl
    have hctx : ({ u with waitList := rest ++ [(⟨p.record, n⟩ : WaitEntry)] }.dropHandoff e.handoff).contextNumbers
        = ({ u with waitList := rest ++ [(⟨p.record, n⟩ : WaitEntry)] } : State).contextNumbers := rfl
    rw [Passage.sentNumber_of_sent hh, Option.toList_some] at hwithout
    rw [hslot, hctx] at hset
    rw [hw, List.map_append, List.count_append, List.map_singleton, List.map_cons, List.count_cons] at hwait
    rw [List.count_singleton]
    dsimp only at hwait
    omega
  · rcases List.mem_append.mp hx with hx | hx
    · exact hu.2.1 x (hw ▸ List.mem_cons_of_mem e hx)
    · obtain rfl := List.mem_singleton.mp hx
      exact hn

/-- R94, R95: an entry leaves the wait list, and its context ends. -/
theorem WaitLaw.unparked {u : State} (hu : WaitLaw u) {n : Nat} {e : WaitEntry}
    (h : u.waitList.find? (fun x => x.handoff == n) = some e) :
    WaitLaw ({ u with waitList := u.waitList.eraseP (fun x => x.handoff == n) }.dropHandoff n) := by
  have hen : e.handoff = n := beq_iff_eq.mp (List.find?_some (p := fun x : WaitEntry => x.handoff == n) h)
  refine hu.of_dropped (n := n) rfl (fun a => ?_) (List.eraseP_sublist.length_le.trans hu.1) rfl fun x hx =>
    hu.2.1 x (List.mem_of_mem_eraseP hx)
  have hwait := u.count_contextNumbers_waitList (u.waitList.eraseP fun x => x.handoff == n) a
  have herased := ((perm_of_find? h).map WaitEntry.handoff).count_eq a
  have hctx : ({ u with waitList := u.waitList.eraseP fun x => x.handoff == n }.dropHandoff n).contextNumbers
      = ({ u with waitList := u.waitList.eraseP fun x => x.handoff == n } : State).contextNumbers := rfl
  rw [List.map_cons, List.count_cons, hen] at herased
  rw [hctx, List.count_singleton]
  omega

theorem Act.waitLaw {held held' : List RecIx} {u v : State} (h : Act held u held' v) (hu : WaitLaw u) : WaitLaw v := by
  cases h with
  | slot hx => exact hu.setSlot fun a => by rw [Slot.sentNumbers_of_lists hx]
  | @emptied _ _ k => exact hu.setSlot (x := (u.slot k).unsynced) fun _ => le_rfl
  | @consumed _ _ k e r rest tag he hq hd =>
    exact hu.setSlot (x := { (u.slot k).consume e .announced tag with queue := rest }) fun _ => le_rfl
  | @passedBy _ _ k e he hd => exact hu.setSlot (x := (u.slot k).consume e .anonymous 0) fun _ => le_rfl
  | @inserted _ _ k seq r ht =>
    exact WaitLaw.setSlot (u := State.setRecord _ _ _) hu (x := { u.slot k with expected := _, queue := _ })
      fun _ => le_rfl
  | @begun _ _ k r p hr hl hp hh =>
    refine hu.setSlot fun a => le_of_eq ?_
    have hnone : p.sentNumber = none := by unfold Passage.sentNumber; rw [hh]
    rw [Slot.sentNumbers_eq, List.filterMap_append, List.filterMap_cons, hnone]
    exact congrArg _ (List.append_nil _)
  | @passage _ _ k i p q l hp hq hl =>
    refine hu.setSlot fun a => ?_
    have hset := Slot.sentNumbers_set (x := u.slot k) (q := q)
      (y := { u.slot k with zone := (u.slot k).zone.set i q, recent := l }) hp rfl a
    have hfollows := Passage.count_sentNumber_follows hq a
    omega
  | sent k i f hs =>
    obtain ⟨hw, -⟩ := u.handoffUnit_setHandoff k i (.sent u.nextHandoff)
    exact hu.of_sent (x := { number := u.nextHandoff, frame := f, status := .pending .first none }) rfl
      (u.count_contextNumbers_setHandoff k i u.nextHandoff) hw rfl rfl
  | left hp => exact hu.left hp
  | parked hp hh hn hroom => exact hu.parked hp hh hn hroom
  | displaced hp hh hn hw => exact hu.displaced hp hh hn hw
  | unparked h => exact hu.unparked h
  | @resolved _ _ n o h =>
    refine hu.of_fewer (fun _ => le_rfl) hu.1 (u.numbers_setStatus _ _) rfl fun e he => ?_
    have hne : e.handoff ≠ n := fun heq => by
      have := List.find?_eq_none.mp h e he
      exact this (beq_iff_eq.mpr heq)
    rw [u.isPending_setStatus_of_ne hne]
    exact hu.2.1 e he
  | retried n a timer =>
    exact hu.of_fewer (fun _ => le_rfl) hu.1 (u.numbers_setStatus _ _) rfl fun e he =>
      State.isPending_setStatus_pending (hu.2.1 e he) n a timer
  | alarmed inc =>
    unfold State.captureAlarm
    split <;> exact hu
  | _ => exact hu

theorem State.waitLaw_assertReset (s : State) : WaitLaw s.assertReset := by
  have hctx : s.assertReset.contextNumbers = [] := by
    unfold State.contextNumbers
    refine List.append_eq_nil_iff.mpr ⟨List.flatMap_eq_nil_iff.mpr fun x hx => ?_, rfl⟩
    simp only [State.assertReset, Vector.toList_map, List.mem_map] at hx
    obtain ⟨y, -, rfl⟩ := hx
    rfl
  refine ⟨Nat.zero_le _, fun _ he => absurd he List.not_mem_nil, hctx ▸ List.nodup_nil, List.nodup_nil, fun _ hn => ?_,
    fun _ hn => absurd hn List.not_mem_nil⟩
  rw [hctx] at hn
  exact absurd hn List.not_mem_nil

theorem Starts.waitLaw {c : Instr} {s b : State} (h : Starts c s b) (hs : WaitLaw s) : WaitLaw b := by
  cases h with
  | reset => exact s.waitLaw_assertReset
  | service _ _ hu => exact hu.keeps (P := fun _ x => WaitLaw x) Act.waitLaw hs
  | _ => exact hs

/-- Settles O55: each change keeps a context in one place, and a PENDING one in the wait list until it leaves it. -/
theorem everyStepKeepsTheWaitList : Obligations.EveryStepKeepsTheWaitList := by
  unfold Obligations.EveryStepKeepsTheWaitList
  intro s t hs h
  exact step_keeps (P := fun _ x => WaitLaw x) Starts.waitLaw Act.waitLaw (fun _ _ hx => hx) hs h

end Sys2Proof.Machine
end

section
/-! SUPPORT. The transmit queue (R131, R141, R147 to R150): each change keeps it in order, within its capacity, with at
most one START and one HOLD_STATE, which carries the mask, and one frame on the bus while the port sends. -/

namespace Sys2Proof.Machine

/-! ### A queue that keeps the rules -/

/-- R131, R147 to R149: a queue in order and within its capacity, with `n` frames on the bus and at most one HOLD_STATE,
which carries the mask `m`. -/
structure QueueKeeps (q : List TxEntry) (n : Nat) (m : HoldMask) : Prop where
  inOrder : QueueInOrder q
  room : q.length ≤ Config.transmitCapacity
  oneHold : (q.filter TxEntry.isHoldState).length ≤ 1
  onBus : (q.filter TxEntry.onBus).length = n
  carries : ∀ e ∈ q, e.isHoldState = true → e.frame = .holdState m .inService

/-- How many frames are on the bus. -/
def Port.sendingCount (p : Port) : Nat := if p.sending.isSome then 1 else 0

theorem transmitLaw_iff (s : State) :
    TransmitLaw s ↔ QueueKeeps s.port.queue s.port.sendingCount s.holdMask
      ∧ (s.nodeState ≠ .inService → s.port.queue = [] ∧ s.handoffs = []) := by
  constructor
  · intro h
    have horder := h.queueInOrder
    obtain ⟨-, hroom, hhold, -, hbus, hcarries, hnode⟩ := h
    exact ⟨⟨horder, hroom, hhold, hbus, hcarries⟩, hnode⟩
  · rintro ⟨⟨⟨hsorted, hstart, -⟩, hroom, hhold, hbus, hcarries⟩, hnode⟩
    exact ⟨hsorted, hroom, hhold, hstart, hbus, hcarries, hnode⟩

theorem QueueKeeps.nil (m : HoldMask) : QueueKeeps [] 0 m :=
  ⟨⟨.nil, Nat.zero_le _, Nat.zero_le _⟩, Nat.zero_le _, Nat.zero_le _, rfl, fun _ he => absurd he List.not_mem_nil⟩

/-! ### Offers (R147 to R149) -/

theorem QueueKeeps.insertByUrgency {q : List TxEntry} {n : Nat} {m m' : HoldMask} (h : QueueKeeps q n m) {e : TxEntry}
    (hl : q.length < Config.transmitCapacity) (hstart : e.frame.kind ≠ .start) (hbus : e.onBus = false)
    (hm : e.isHoldState = false ∧ m' = m
      ∨ q.any TxEntry.isHoldState = false ∧ e.frame = .holdState m' .inService) :
    QueueKeeps (insertByUrgency e q) n m' := by
  have hp := insertByUrgency_perm e q
  refine ⟨h.inOrder.insertByUrgency hstart hbus, ?_, ?_, ?_, fun x hx hh => ?_⟩
  · rw [length_insertByUrgency]
    exact hl
  · rw [(hp.filter _).length_eq]
    rcases hm with ⟨hno, -⟩ | ⟨hnone, -⟩
    · rw [List.filter_cons_of_neg (by simp [hno])]
      exact h.oneHold
    · have hnil : q.filter TxEntry.isHoldState = [] :=
        List.filter_eq_nil_iff.mpr fun x hx => by simpa using List.any_eq_false.mp hnone x hx
      rw [List.filter_cons, hnil]
      split <;> simp
  · rw [(hp.filter _).length_eq, List.filter_cons_of_neg (by simp [hbus])]
    exact h.onBus
  · rcases (mem_insertByUrgency e x q).mp hx with rfl | hx
    · rcases hm with ⟨hno, -⟩ | ⟨-, hf⟩
      · rw [hno] at hh
        exact Bool.noConfusion hh
      · exact hf
    · rcases hm with ⟨-, rfl⟩ | ⟨hnone, -⟩
      · exact h.carries x hx hh
      · exact absurd hh (by simpa using List.any_eq_false.mp hnone x hx)

theorem QueueKeeps.replaceHoldState {q : List TxEntry} {n : Nat} {m : HoldMask} (h : QueueKeeps q n m) (m' : HoldMask) :
    QueueKeeps (replaceHoldState (.holdState m' .inService) q) n m' := by
  have hhold (e : TxEntry) : TxEntry.isHoldState (if e.isHoldState then
      { e with frame := .holdState m' .inService, replaced := e.onBus } else e) = e.isHoldState := by
    split
    · rename_i he
      exact he.symm ▸ rfl
    · rfl
  have hbus (e : TxEntry) : TxEntry.onBus (if e.isHoldState then
      { e with frame := .holdState m' .inService, replaced := e.onBus } else e) = e.onBus := by
    split <;> rfl
  refine ⟨h.inOrder.replaceHoldState rfl, ?_, ?_, ?_, fun x hx hh => ?_⟩
  · rw [length_replaceHoldState]
    exact h.room
  · unfold Machine.replaceHoldState
    rw [List.filter_map, List.length_map]
    simpa only [Function.comp_def, hhold] using h.oneHold
  · unfold Machine.replaceHoldState
    rw [List.filter_map, List.length_map]
    simpa only [Function.comp_def, hbus] using h.onBus
  · obtain ⟨y, -, rfl⟩ := List.mem_map.mp hx
    rw [hhold] at hh
    rw [if_pos hh]

theorem QueueKeeps.taken {q rest : List TxEntry} {n : Nat} {m : HoldMask} (h : QueueKeeps q n m) {v : TxEntry}
    (hy : takeYoungest q = some (v, rest)) : QueueKeeps rest n m ∧ rest.length < Config.transmitCapacity := by
  obtain ⟨hp, hsub, hv⟩ := takeYoungest_spec hy
  have hl := hp.length_eq
  have hroom := h.room
  rw [List.length_cons] at hl
  have hbus := (hp.filter TxEntry.onBus).length_eq
  rw [List.filter_cons_of_neg (by simp [hv])] at hbus
  exact ⟨⟨h.inOrder.sublist hsub, by omega, (hsub.filter _).length_le.trans h.oneHold, hbus.symm.trans h.onBus,
    fun e he => h.carries e (hsub.subset he)⟩, by omega⟩

/-- An offer of an ordinary frame keeps the queue under its mask; that of a HOLD_STATE brings the mask it carries. -/
theorem QueueKeeps.enqueue {q : List TxEntry} {n : Nat} {m m' : HoldMask} (h : QueueKeeps q n m) {e : TxEntry}
    (hstart : e.frame.kind ≠ .start) (hbus : e.onBus = false)
    (hm : e.isHoldState = false ∧ m' = m ∨ e.isHoldState = true ∧ e.frame = .holdState m' .inService) :
    QueueKeeps (enqueue e q).1 n m' := by
  by_cases hrep : e.isHoldState = true ∧ q.any TxEntry.isHoldState = true
  · obtain ⟨he, hq⟩ := hrep
    have hf : e.frame = .holdState m' .inService :=
      (hm.resolve_left fun ⟨hno, _⟩ => Bool.noConfusion (hno.symm.trans he)).2
    rw [enqueue_of_holdState he hq, hf]
    exact h.replaceHoldState m'
  · have hnew {q' : List TxEntry} (hsub : q'.Sublist q) : e.isHoldState = false ∧ m' = m
        ∨ q'.any TxEntry.isHoldState = false ∧ e.frame = .holdState m' .inService :=
      hm.imp_right fun ⟨he, hf⟩ => ⟨List.any_eq_false.mpr fun x hx hh =>
        hrep ⟨he, List.any_eq_true.mpr ⟨x, hsub.subset hx, hh⟩⟩, hf⟩
    have hsame (hfull : Displaces q e) : QueueKeeps q n m' := by
      rcases hm with ⟨-, rfl⟩ | ⟨he, -⟩
      · exact h
      · exact absurd hfull (h.inOrder.not_displaces he)
    unfold Machine.enqueue
    rw [if_neg (mt Bool.and_eq_true_iff.mp hrep)]
    split
    · rename_i hl
      exact h.insertByUrgency hl hstart hbus (hnew (List.Sublist.refl q))
    · rename_i hl
      split
      · rename_i v rest hy
        split
        · obtain ⟨htaken, hroom⟩ := h.taken hy
          exact htaken.insertByUrgency hroom hstart hbus (hnew (takeYoungest_spec hy).2.1)
        · rename_i hlt
          refine hsame ⟨hrep, Nat.le_of_not_lt hl, fun v' rest' h' => ?_⟩
          obtain ⟨rfl, rfl⟩ : v = v' ∧ rest = rest' := by simpa [hy] using h'
          exact Nat.le_of_not_lt hlt
      · rename_i hy
        exact hsame ⟨hrep, Nat.le_of_not_lt hl, fun v' rest' h' => by simp [hy] at h'⟩

/-! ### Attempts (R148, R150) -/

theorem QueueKeeps.offBus {q : List TxEntry} {n : Nat} {m : HoldMask} (h : QueueKeeps q n m) :
    QueueKeeps (q.map (fun e => { e with onBus := false, replaced := false })) 0 m := by
  refine ⟨h.inOrder.offBus, (List.length_map _).trans_le h.room, ?_, ?_, fun x hx hh => ?_⟩
  · rw [List.filter_map, List.length_map]
    exact h.oneHold
  · rw [List.filter_map, List.length_map]
    exact List.length_eq_zero_iff.mpr (List.filter_eq_nil_iff.mpr fun _ _ => by simp)
  · obtain ⟨y, hy, rfl⟩ := List.mem_map.mp hx
    exact h.carries y hy hh

theorem QueueKeeps.sublist {q q' : List TxEntry} {n : Nat} {m : HoldMask} (h : QueueKeeps q n m)
    (hs : q'.Sublist q) : QueueKeeps q' (q'.filter TxEntry.onBus).length m :=
  ⟨h.inOrder.sublist hs, hs.length_le.trans h.room, (hs.filter _).length_le.trans h.oneHold, rfl,
    fun e he => h.carries e (hs.subset he)⟩

theorem QueueKeeps.start {p : Port} {m : HoldMask} (h : QueueKeeps p.queue 0 m) (hp : p.sending = none) :
    QueueKeeps p.start.queue p.start.sendingCount m := by
  have horder := h.inOrder.start h.onBus
  unfold Port.start at horder ⊢
  cases hq : p.queue with
  | nil =>
    rw [hq] at h
    dsimp only
    rw [hq, Port.sendingCount, hp]
    exact h
  | cons e rest =>
    rw [hq] at h horder
    have hrest : rest.filter TxEntry.onBus = [] := by
      have hall := List.eq_nil_of_length_eq_zero h.onBus
      rw [List.filter_cons] at hall
      split at hall
      · exact absurd hall (by simp)
      · exact hall
    refine ⟨horder, h.room, ?_, ?_, fun x hx hh => ?_⟩
    · have hhold := h.oneHold
      simp only [List.filter_cons, apply_ite List.length, List.length_cons] at hhold ⊢
      exact hhold
    · dsimp only
      rw [List.filter_cons, if_pos rfl, hrest]
      rfl
    · rcases List.mem_cons.mp hx with rfl | hx
      · exact h.carries e List.mem_cons_self hh
      · exact h.carries x (List.mem_cons_of_mem e hx) hh

theorem Port.sending_loseArbitration (p : Port) (now : Nat) : (p.loseArbitration now).sending = none := by
  unfold Port.loseArbitration
  cases p.mode <;> rfl

theorem Port.sending_fail (p : Port) (now : Nat) : (p.fail now).sending = none := by
  unfold Port.fail
  cases p.mode with
  | mute => rfl
  | active => dsimp only; split <;> rfl

theorem Port.sendingCount_of_none {p : Port} (h : p.sending = none) : p.sendingCount = 0 := by
  rw [Port.sendingCount, h]
  rfl

theorem PortChange.keeps {s : State} {p : Port} (h : PortChange s p) {m : HoldMask}
    (hs : QueueKeeps s.port.queue s.port.sendingCount m) : QueueKeeps p.queue p.sendingCount m := by
  cases h with
  | footing b => exact hs
  | started hserving hidle =>
    rw [Port.sendingCount_of_none hidle] at hs
    exact hs.start hidle
  | lost now =>
    rw [Port.sendingCount_of_none (s.port.sending_loseArbitration now), Port.queue_loseArbitration]
    exact hs.offBus
  | failed now =>
    rw [Port.sendingCount_of_none (s.port.sending_fail now), Port.queue_fail]
    exact hs.offBus
  | succeeded => exact (hs.sublist List.filter_sublist).offBus
  | retrying d hd => exact hs

theorem PortChange.queue_nil {s : State} {p : Port} (h : PortChange s p) (hq : s.port.queue = []) : p.queue = [] := by
  cases h with
  | footing b => exact hq
  | started hserving hidle =>
    unfold Port.start
    rw [hq]
    exact hq
  | lost now =>
    rw [Port.queue_loseArbitration]
    exact List.map_eq_nil_iff.mpr hq
  | failed now =>
    rw [Port.queue_fail]
    exact List.map_eq_nil_iff.mpr hq
  | succeeded =>
    unfold Port.succeed
    rw [hq]
    rfl
  | retrying d hd => exact hq

/-! ### The changes -/

theorem TransmitLaw.of_same {u v : State} (hu : TransmitLaw u) (hp : v.port = u.port) (hm : v.holdMask = u.holdMask)
    (hn : v.nodeState = u.nodeState) (hh : u.handoffs = [] → v.handoffs = []) : TransmitLaw v := by
  rw [transmitLaw_iff] at hu ⊢
  rw [hp, hm, hn]
  exact ⟨hu.1, fun hs => (hu.2 hs).imp_right hh⟩

theorem TransmitLaw.inService {u : State} (hu : TransmitLaw u) (h : u.nodeState = .inService ∨ u.handoffs ≠ []) :
    u.nodeState = .inService := by
  by_contra hs
  exact h.elim hs fun hne => hne (((transmitLaw_iff u).mp hu).2 hs).2

theorem Passage.transmit_discard (p : Passage) (s : State) :
    (p.discard s).port = s.port ∧ (p.discard s).holdMask = s.holdMask
      ∧ (s.handoffs = [] → (p.discard s).handoffs = []) := by
  unfold Passage.discard
  split
  · exact ⟨rfl, rfl, id⟩
  · exact ⟨rfl, rfl, id⟩
  · exact ⟨rfl, rfl, fun h => by show s.handoffs.filter _ = []; rw [h]; rfl⟩

theorem State.filter_handoffs_nil {s : State} (h : s.handoffs = []) (n : Nat) : (s.dropHandoff n).handoffs = [] := by
  show s.handoffs.filter _ = []
  rw [h]
  rfl

theorem Act.transmitLaw {held held' : List RecIx} {u v : State} (h : Act held u held' v) (hu : TransmitLaw u) :
    TransmitLaw v := by
  cases h with
  | sent k i f hs =>
    unfold State.setHandoff
    split <;> exact (transmitLaw_iff _).mpr ⟨((transmitLaw_iff _).mp hu).1, fun hno => absurd hs hno⟩
  | @left _ _ k i p hp =>
    obtain ⟨hport, hm, hh⟩ := p.transmit_discard u
    exact hu.of_same hport hm (State.nodeState_discard u p) hh
  | displaced hp hh hn hw => exact hu.of_same rfl rfl rfl fun h => State.filter_handoffs_nil (s := { u with waitList := _ }) h _
  | unparked hf => exact hu.of_same rfl rfl rfl fun h => State.filter_handoffs_nil (s := { u with waitList := _ }) h _
  | resolved o hn => exact hu.of_same rfl rfl rfl fun h => List.map_eq_nil_iff.mpr h
  | retried n a timer => exact hu.of_same rfl rfl rfl fun h => List.map_eq_nil_iff.mpr h
  | alarmed inc =>
    exact hu.of_same (u.captureAlarm_port inc) (by unfold State.captureAlarm; split <;> rfl) (u.nodeState_captureAlarm inc)
      fun h => (u.handoffs_captureAlarm inc).trans h
  | @offered _ _ f o hf hs =>
    have hservice := hu.inService hs
    obtain ⟨hkeeps, -⟩ := (transmitLaw_iff u).mp hu
    obtain ⟨hstart, hhold⟩ := OutFrame.kind_ne_of_isOrdinary hf
    exact (transmitLaw_iff _).mpr ⟨hkeeps.enqueue hstart rfl (.inl ⟨beq_eq_false_iff_ne.mpr hhold, rfl⟩),
      fun hno => absurd hservice hno⟩
  | masked m hs =>
    obtain ⟨hkeeps, -⟩ := (transmitLaw_iff u).mp hu
    exact (transmitLaw_iff _).mpr ⟨hkeeps.enqueue FrameKind.noConfusion rfl (.inr ⟨rfl, rfl⟩),
      fun hno => absurd hs hno⟩
  | formed m hs =>
    obtain ⟨⟨horder, hroom, hhold, hbus, -⟩, hnode⟩ := (transmitLaw_iff u).mp hu
    have hnil := (hnode hs).1
    exact (transmitLaw_iff _).mpr ⟨⟨horder, hroom, hhold, hbus, fun e he => by
      rw [show State.port { u with holdMask := m } = u.port from rfl, hnil] at he
      exact absurd he List.not_mem_nil⟩, hnode⟩
  | ported hp =>
    obtain ⟨hkeeps, hnode⟩ := (transmitLaw_iff u).mp hu
    exact (transmitLaw_iff _).mpr ⟨hp.keeps hkeeps, fun hs => (hnode hs).imp_left hp.queue_nil⟩
  | _ => exact hu

/-! ### Where a command begins -/

theorem TransmitLaw.of_outside {s b : State} (hs : TransmitLaw s) (hn : s.nodeState ≠ .inService)
    (hp : b.port = s.port) (hm : b.holdMask = s.holdMask) (hh : b.handoffs = s.handoffs) : TransmitLaw b := by
  obtain ⟨hkeeps, hnode⟩ := (transmitLaw_iff s).mp hs
  rw [transmitLaw_iff, hp, hm, hh]
  exact ⟨hkeeps, fun _ => hnode hn⟩

/-- R167, R168: the START is the first frame of a queue that was empty before service. -/
theorem TransmitLaw.inServiceAfter {u : State} (hu : TransmitLaw u) (hn : u.nodeState ≠ .inService) :
    TransmitLaw u.inServiceAfter := by
  obtain ⟨hkeeps, hnode⟩ := (transmitLaw_iff u).mp hu
  have hnil := (hnode hn).1
  have hidle : u.port.sendingCount = 0 := by
    have := hkeeps.onBus
    rw [hnil] at this
    exact this.symm
  have hqueue : u.inServiceAfter.port.queue = [.offered u.startFrame none] := by
    show (enqueue _ u.port.queue).1 = _
    rw [hnil]
    rfl
  rw [transmitLaw_iff, hqueue]
  refine ⟨⟨⟨List.pairwise_singleton _ _, Nat.le_refl 1, Nat.zero_le 1⟩, show 1 ≤ Config.transmitCapacity by decide, Nat.zero_le 1, hidle.symm, ?_⟩,
    fun hno => absurd rfl hno⟩
  intro e he hh
  obtain rfl := List.mem_singleton.mp he
  exact Bool.noConfusion hh

theorem Starts.transmitLaw {c : Instr} {s b : State} (h : Starts c s b) (hs : TransmitLaw s) : TransmitLaw b := by
  cases h with
  | reset => exact (transmitLaw_iff _).mpr ⟨QueueKeeps.nil _, fun _ => ⟨rfl, rfl⟩⟩
  | released hc hn => exact hs.of_outside (by rw [hn]; simp) rfl rfl rfl
  | census hc hn cfg => exact hs.of_outside (by rw [hn]; simp) rfl rfl rfl
  | configFault hc hn => exact hs.of_outside (by rw [hn]; simp) rfl rfl rfl
  | service hc hn hu =>
    have hlaw := hu.keeps (P := fun _ x => TransmitLaw x) Act.transmitLaw hs
    exact hlaw.inServiceAfter (by rw [hu.nodeState, hn]; simp)
  | _ => exact hs

/-- Settles O57: each offer and each end of an attempt keeps the transmit queue in order and its HOLD_STATE under the
mask. -/
theorem everyStepKeepsTheTransmitQueue : Obligations.EveryStepKeepsTheTransmitQueue := by
  unfold Obligations.EveryStepKeepsTheTransmitQueue
  intro s t hs h
  exact step_keeps (P := fun _ x => TransmitLaw x) Starts.transmitLaw Act.transmitLaw (fun _ _ hx => hx) hs h

end Sys2Proof.Machine
end

section
/-! SUPPORT. The tables (R108, R113, R141, R151, R154, R157): each change keeps the cut list, the closure table, the
watch table, the capture's count and the failure count within their laws. From the same account of every command: the
events on which the node state changes, and that every command completes and leaves the waiting ones. -/

namespace Sys2Proof.Machine

/-! ### The watch table (R157) -/

theorem WatchChange.watchLaw {s : State} {l : List Tag} (h : WatchChange s l) (hs : WatchLaw s) :
    WatchLaw { s with watches := l } := by
  obtain ⟨hl, hnodup, hzero⟩ := hs
  cases h with
  | removed tag =>
    exact ⟨List.erase_sublist.length_le.trans hl, hnodup.erase tag, fun h0 => hzero (List.mem_of_mem_erase h0)⟩
  | added tag h0 hn hroom =>
    refine ⟨(List.length_append ..).trans_le hroom, ?_, fun hmem => ?_⟩
    · exact List.nodup_append.mpr ⟨hnodup, List.nodup_singleton _, fun a ha b hb he =>
        hn (List.mem_singleton.mp hb ▸ he ▸ ha)⟩
    · rcases List.mem_append.mp hmem with hmem | hmem
      · exact hzero hmem
      · exact h0 (List.mem_singleton.mp hmem).symm

theorem watchLaw_congr {u v : State} (h : v.watches = u.watches) : WatchLaw v ↔ WatchLaw u := by
  unfold WatchLaw
  rw [h]

theorem Passage.tables_discard (p : Passage) (s : State) : (p.discard s).watches = s.watches
    ∧ (p.discard s).capture = s.capture ∧ (p.discard s).furtherAlarms = s.furtherAlarms
    ∧ (p.discard s).closures = s.closures ∧ (p.discard s).config = s.config ∧ (p.discard s).cutList = s.cutList
    ∧ (p.discard s).port = s.port := by
  unfold Passage.discard
  split <;> exact ⟨rfl, rfl, rfl, rfl, rfl, rfl, rfl⟩

theorem State.tables_setHandoff (s : State) (k : SlotIx) (i : Nat) (x : PassageHandoff) :
    (s.setHandoff k i x).watches = s.watches ∧ (s.setHandoff k i x).capture = s.capture
    ∧ (s.setHandoff k i x).furtherAlarms = s.furtherAlarms ∧ (s.setHandoff k i x).closures = s.closures
    ∧ (s.setHandoff k i x).config = s.config ∧ (s.setHandoff k i x).cutList = s.cutList
    ∧ (s.setHandoff k i x).port = s.port := by
  unfold State.setHandoff
  split <;> exact ⟨rfl, rfl, rfl, rfl, rfl, rfl, rfl⟩

theorem State.tables_captureAlarm (s : State) (inc : Incident) : (s.captureAlarm inc).watches = s.watches
    ∧ (s.captureAlarm inc).closures = s.closures ∧ (s.captureAlarm inc).config = s.config
    ∧ (s.captureAlarm inc).cutList = s.cutList ∧ (s.captureAlarm inc).pending = s.pending := by
  unfold State.captureAlarm
  split <;> exact ⟨rfl, rfl, rfl, rfl, rfl⟩

theorem Act.watchLaw {held held' : List RecIx} {u v : State} (h : Act held u held' v) (hu : WatchLaw u) :
    WatchLaw v := by
  cases h with
  | watched h => exact h.watchLaw hu
  | sent k i f hs => exact (watchLaw_congr (u.tables_setHandoff k i (.sent u.nextHandoff)).1).mpr hu
  | @left _ _ k i p hp => exact (watchLaw_congr (p.tables_discard u).1).mpr hu
  | alarmed inc => exact (watchLaw_congr (u.tables_captureAlarm inc).1).mpr hu
  | _ => exact hu

theorem Starts.watchLaw {c : Instr} {s b : State} (h : Starts c s b) (hs : WatchLaw s) : WatchLaw b := by
  cases h with
  | reset => exact ⟨Nat.zero_le _, List.nodup_nil, List.not_mem_nil⟩
  | service _ _ hu => exact hu.keeps (P := fun _ x => WatchLaw x) Act.watchLaw hs
  | _ => exact hs

/-! ### The capture (R154) -/

theorem State.captureAlarm_of_empty {s : State} (h : s.capture = none) (inc : Incident) :
    s.captureAlarm inc = { s with capture := some ⟨inc, s.time⟩ } := by
  unfold State.captureAlarm
  rw [h]

theorem State.captureAlarm_of_frozen {s : State} {x : Captured} (h : s.capture = some x) (inc : Incident) :
    s.captureAlarm inc = { s with furtherAlarms := min 255 (s.furtherAlarms + 1) } := by
  unfold State.captureAlarm
  rw [h]
  rfl

theorem captureLaw_congr {u v : State} (hc : v.capture = u.capture) (hf : v.furtherAlarms = u.furtherAlarms) :
    CaptureLaw v ↔ CaptureLaw u := by
  unfold CaptureLaw
  rw [hc, hf]

theorem CaptureLaw.captureAlarm {u : State} (hu : CaptureLaw u) (inc : Incident) : CaptureLaw (u.captureAlarm inc) := by
  cases hc : u.capture with
  | none =>
    rw [State.captureAlarm_of_empty hc]
    exact ⟨fun h => absurd h (Option.some_ne_none _), hu.2⟩
  | some x =>
    rw [State.captureAlarm_of_frozen hc]
    exact ⟨fun h => absurd (hc.symm.trans h) (Option.some_ne_none _), Nat.min_le_left _ _⟩

theorem Act.captureLaw {held held' : List RecIx} {u v : State} (h : Act held u held' v) (hu : CaptureLaw u) :
    CaptureLaw v := by
  cases h with
  | sent k i f hs =>
    obtain ⟨-, hc, hf, -⟩ := u.tables_setHandoff k i (.sent u.nextHandoff)
    exact (captureLaw_congr hc hf).mpr hu
  | @left _ _ k i p hp =>
    obtain ⟨-, hc, hf, -⟩ := p.tables_discard u
    exact (captureLaw_congr hc hf).mpr hu
  | alarmed inc => exact hu.captureAlarm inc
  | _ => exact hu

theorem Starts.captureLaw {c : Instr} {s b : State} (h : Starts c s b) (hs : CaptureLaw s) : CaptureLaw b := by
  cases h with
  | reset => exact ⟨fun _ => rfl, Nat.zero_le _⟩
  | service _ _ hu => exact hu.keeps (P := fun _ x => CaptureLaw x) Act.captureLaw hs
  | cleared => exact ⟨fun _ => rfl, Nat.zero_le _⟩
  | _ => exact hs

/-- R154: an alarm is frozen in the capture, with at least as many further alarms. -/
def State.hasFrozen (s : State) (x : Captured) (n : Nat) : Prop := s.capture = some x ∧ min 255 n ≤ s.furtherAlarms

theorem Act.hasFrozen {x : Captured} {n : Nat} {held held' : List RecIx} {u v : State} (h : Act held u held' v)
    (hu : u.hasFrozen x n) : v.hasFrozen x n := by
  cases h with
  | sent k i f hs =>
    obtain ⟨-, hc, hf, -⟩ := u.tables_setHandoff k i (.sent u.nextHandoff)
    exact ⟨hc.trans hu.1, hu.2.trans_eq hf.symm⟩
  | @left _ _ k i p hp =>
    obtain ⟨-, hc, hf, -⟩ := p.tables_discard u
    exact ⟨hc.trans hu.1, hu.2.trans_eq hf.symm⟩
  | alarmed inc =>
    obtain ⟨hc, hn⟩ := hu
    rw [State.captureAlarm_of_frozen hc]
    refine ⟨hc, ?_⟩
    dsimp only
    omega
  | _ => exact hu

/-! ### The failure count (R141, R151) -/

theorem portLaw_congr {u v : State} (h : v.port = u.port) : PortLaw v ↔ PortLaw u := by
  unfold PortLaw
  rw [h]

/-- R141, R151: the failure count that the mode of the port allows. -/
def Port.counts (p : Port) : Prop :=
  (p.mode = .active ∧ p.failures < Config.muteThreshold ∧ p.retry = .stopped)
    ∨ (p.mode = .mute ∧ p.failures = Config.muteThreshold)

theorem portLaw_iff (s : State) : PortLaw s ↔ s.port.counts := by
  unfold PortLaw Port.counts
  cases s.port.mode <;> simp

theorem Port.counts.start {p : Port} (h : p.counts) : p.start.counts := by
  unfold Port.start
  split
  · exact h
  · rcases h with ⟨hm, hf, hr⟩ | ⟨hm, hf⟩
    · exact .inl ⟨hm, hf, by rw [hr]; rfl⟩
    · exact .inr ⟨hm, hf⟩

theorem Port.counts.loseArbitration {p : Port} (h : p.counts) (now : Nat) : (p.loseArbitration now).counts := by
  unfold Port.loseArbitration
  rcases h with ⟨hm, hf, hr⟩ | ⟨hm, hf⟩
  · rw [hm]
    exact .inl ⟨hm, hf, hr⟩
  · rw [hm]
    exact .inr ⟨hm, hf⟩

theorem Port.counts.fail {p : Port} (h : p.counts) (now : Nat) : (p.fail now).counts := by
  unfold Port.fail
  rcases h with ⟨hm, hf, hr⟩ | ⟨hm, hf⟩
  · rw [hm]
    dsimp only
    split
    · rename_i hl
      exact .inl ⟨hm, hl, hr⟩
    · exact .inr ⟨rfl, rfl⟩
  · rw [hm]
    exact .inr ⟨hm, hf⟩

theorem PortChange.counts {s : State} {p : Port} (h : PortChange s p) (hs : s.port.counts) : p.counts := by
  cases h with
  | footing b => exact hs
  | started hserving hidle => exact hs.start
  | lost now => exact hs.loseArbitration now
  | failed now => exact hs.fail now
  | succeeded => exact .inl ⟨rfl, show 0 < Config.muteThreshold by decide, rfl⟩
  | retrying d hd =>
    rcases hs with ⟨-, -, hr⟩ | hmute
    · exact absurd (hr.symm.trans hd) (by simp)
    · exact .inr hmute

theorem PortChange.portLaw {s : State} {p : Port} (h : PortChange s p) (hs : PortLaw s) : PortLaw (s.setPort p) :=
  (portLaw_iff _).mpr (h.counts ((portLaw_iff s).mp hs))

theorem Act.portLaw {held held' : List RecIx} {u v : State} (h : Act held u held' v) (hu : PortLaw u) :
    PortLaw v := by
  cases h with
  | sent k i f hs =>
    obtain ⟨-, -, -, -, -, -, hp⟩ := u.tables_setHandoff k i (.sent u.nextHandoff)
    exact (portLaw_congr hp).mpr hu
  | @left _ _ k i p hp =>
    obtain ⟨-, -, -, -, -, -, hport⟩ := p.tables_discard u
    exact (portLaw_congr hport).mpr hu
  | alarmed inc => exact (portLaw_congr (u.captureAlarm_port inc)).mpr hu
  | ported h => exact h.portLaw hu
  | _ => exact hu

theorem Starts.portLaw {c : Instr} {s b : State} (h : Starts c s b) (hs : PortLaw s) : PortLaw b := by
  cases h with
  | reset => exact ⟨show 0 < Config.muteThreshold by decide, rfl⟩
  | service _ _ hu => exact hu.keeps (P := fun _ x => PortLaw x) Act.portLaw hs
  | _ => exact hs

/-! ### The closure table (R113 to R115) -/

theorem closureLaw_congr {u v : State} (hn : v.nodeState = u.nodeState) (hc : v.closures = u.closures)
    (hcfg : v.config = u.config) : ClosureLaw v ↔ ClosureLaw u := by
  unfold ClosureLaw State.slotCfg State.cfg
  rw [hn, hc, hcfg]

/-- R114: a closure that TRACK_CLOSE does not refuse. -/
theorem State.closure_of_not_refuses {s : State} {n m : Nat} (h : ¬s.refusesClosure n m) :
    m ≠ n ∧ n ≠ s.cfg.rejectTrack ∧ (s.slotCfg 0).inReach n = true ∧ (s.slotCfg 0).inReach m = true := by
  have hall := mt (s.refusesClosure_iff n m).mpr h
  simp only [not_or] at hall
  obtain ⟨hn, hm, hreject, hne, -⟩ := hall
  exact ⟨hne, hreject, by simpa using hn, by simpa using hm⟩

theorem ClosureChange.closureLaw {s : State} {l : List Closure} (h : ClosureChange s l) (hn : s.nodeState = .inService)
    (hs : ClosureLaw s) : ClosureLaw { s with closures := l } := by
  obtain ⟨-, hl, hnodup, hall⟩ := hs
  refine ⟨fun hno => absurd hn hno, ?_⟩
  cases h with
  | replaced n m hr =>
    have hclosed := State.closure_of_not_refuses hr
    have htracks : (s.closures.map (fun c => if c.track = n then (⟨n, m⟩ : Closure) else c)).map Closure.track
        = s.closures.map Closure.track := by
      rw [List.map_map]
      refine congrArg (fun f => s.closures.map f) (funext fun c => ?_)
      simp only [Function.comp]
      split
      · rename_i hc
        exact hc.symm
      · rfl
    refine ⟨(List.length_map _).trans_le hl, htracks ▸ hnodup, fun c hc => ?_⟩
    obtain ⟨d, hd, rfl⟩ := List.mem_map.mp hc
    split
    · exact hclosed
    · exact hall d hd
  | added n m hr hnew hroom =>
    have hclosed := State.closure_of_not_refuses hr
    refine ⟨(List.length_append ..).trans_le hroom, ?_, fun c hc => ?_⟩
    · rw [List.map_append, List.map_singleton]
      refine List.nodup_append.mpr ⟨hnodup, List.nodup_singleton _, fun a ha b hb he => ?_⟩
      rw [he, List.mem_singleton.mp hb] at ha
      exact hnew ha
    · rcases List.mem_append.mp hc with hc | hc
      · exact hall c hc
      · obtain rfl := List.mem_singleton.mp hc
        exact hclosed
  | removed n =>
    exact ⟨(List.length_filter_le _ _).trans hl, hnodup.sublist (List.filter_sublist.map _), fun c hc =>
      hall c (List.mem_of_mem_filter hc)⟩

theorem Act.closureLaw {held held' : List RecIx} {u v : State} (h : Act held u held' v) (hu : ClosureLaw u) :
    ClosureLaw v := by
  cases h with
  | sent k i f hs =>
    obtain ⟨-, -, -, hc, hcfg, -⟩ := u.tables_setHandoff k i (.sent u.nextHandoff)
    exact (closureLaw_congr (State.nodeState_setHandoff u k i _) hc hcfg).mpr hu
  | @left _ _ k i p hp =>
    obtain ⟨-, -, -, hc, hcfg, -⟩ := p.tables_discard u
    exact (closureLaw_congr (State.nodeState_discard u p) hc hcfg).mpr hu
  | alarmed inc =>
    obtain ⟨-, hc, hcfg, -⟩ := u.tables_captureAlarm inc
    exact (closureLaw_congr (u.nodeState_captureAlarm inc) hc hcfg).mpr hu
  | closed hs h => exact h.closureLaw hs hu
  | _ => exact hu

/-- R113: an empty closure table keeps its law in every node state and configuration. -/
theorem ClosureLaw.of_empty {b : State} (h : b.closures = []) : ClosureLaw b := by
  unfold ClosureLaw
  rw [h]
  exact ⟨fun _ => rfl, Nat.zero_le _, List.nodup_nil, fun _ hc => absurd hc List.not_mem_nil⟩

theorem ClosureLaw.closures_nil {s : State} (h : ClosureLaw s) (hn : s.nodeState ≠ .inService) : s.closures = [] := h.1 hn

theorem Starts.closureLaw {c : Instr} {s b : State} (h : Starts c s b) (hs : ClosureLaw s) : ClosureLaw b := by
  cases h with
  | reset => exact ClosureLaw.of_empty rfl
  | released hc hn => exact ClosureLaw.of_empty (hs.closures_nil (by rw [hn]; simp))
  | census hc hn cfg => exact ClosureLaw.of_empty (hs.closures_nil (by rw [hn]; simp))
  | configFault hc hn => exact ClosureLaw.of_empty (hs.closures_nil (by rw [hn]; simp))
  | service hc hn hu =>
    have hlaw := hu.keeps (P := fun _ x => ClosureLaw x) Act.closureLaw hs
    exact ClosureLaw.of_empty (hlaw.closures_nil (by rw [hu.nodeState, hn]; simp))
  | _ => exact hs

/-! ### The cut list (R108 to R112) -/

/-- R108: a record as the cut list holds it. -/
def Record.entered (r : Record) : Prop :=
  r.tag ≠ 0 ∧ r.flags = {} ∧ r.feedSeq = none ∧ r.timing = none ∧ r.originalDestination = none ∧ r.companion = none

theorem cutListLaw_iff (s : State) :
    CutListLaw s ↔ s.cutList.length ≤ Config.cutListCapacity
      ∧ (s.cutList.map (fun i => (s.record i).tag)).Nodup ∧ ∀ i ∈ s.cutList, (s.record i).entered := Iff.rfl

theorem CutListLaw.of_record {u v : State} (hu : CutListLaw u) (hc : v.cutList = u.cutList)
    (hr : ∀ i ∈ u.cutList, v.record i = u.record i) : CutListLaw v := by
  obtain ⟨hl, hnodup, hall⟩ := (cutListLaw_iff u).mp hu
  rw [cutListLaw_iff, hc]
  refine ⟨hl, ?_, fun i hi => ?_⟩
  · rw [List.map_congr_left fun i hi => congrArg Record.tag (hr i hi)]
    exact hnodup
  · rw [hr i hi]
    exact hall i hi

theorem CutListLaw.setRecord {u : State} (hu : CutListLaw u) {i : RecIx} (hi : i ∉ u.cutList) (r : Record) :
    CutListLaw (u.setRecord i r) :=
  hu.of_record rfl fun j hj => State.record_setRecord_of_ne _ _ _ _ (fun e : j = i => hi (e ▸ hj))

/-- R112: the inspect hold is no part of the law. -/
theorem CutListLaw.lifted {u : State} (hu : CutListLaw u) (i : RecIx) :
    CutListLaw (u.setRecord i { u.record i with inspect := false }) := by
  obtain ⟨hl, hnodup, hall⟩ := (cutListLaw_iff u).mp hu
  have hrecord (j : RecIx) : (u.setRecord i { u.record i with inspect := false }).record j = u.record j
      ∨ (u.setRecord i { u.record i with inspect := false }).record j = { u.record j with inspect := false } := by
    rw [State.record_setRecord_eq_ite]
    split
    · rename_i hj
      rw [hj]
      exact .inr rfl
    · exact .inl rfl
  have htag (j : RecIx) : ((u.setRecord i { u.record i with inspect := false }).record j).tag = (u.record j).tag := by
    rcases hrecord j with h | h <;> rw [h]
  rw [cutListLaw_iff]
  refine ⟨hl, ?_, fun j hj => ?_⟩
  · simp only [htag]
    exact hnodup
  · rcases hrecord j with h | h <;> rw [h] <;> exact hall j hj

/-- R109: an accepted CUT_ENTRY joins the list. -/
theorem CutListLaw.listed {u : State} (hu : CutListLaw u) {r : RecIx} (hr : r ∉ u.cutList) {p : CutEntryPayload}
    (h0 : p.tag ≠ 0) (ht : ∀ i ∈ u.cutList, (u.record i).tag ≠ p.tag)
    (hl : u.cutList.length < Config.cutListCapacity) :
    CutListLaw { u.setRecord r (enteredRecord p) with cutList := u.cutList ++ [r] } := by
  obtain ⟨-, hnodup, hall⟩ := (cutListLaw_iff _).mp (hu.setRecord hr (enteredRecord p))
  have hself : (u.setRecord r (enteredRecord p)).record r = enteredRecord p := State.record_setRecord _ _ _
  have hother {i : RecIx} (hi : i ∈ u.cutList) : (u.setRecord r (enteredRecord p)).record i = u.record i :=
    State.record_setRecord_of_ne _ _ _ _ (fun e : i = r => hr (e ▸ hi))
  refine ⟨(List.length_append ..).trans_le hl, ?_, fun i hi => ?_⟩
  · show ((u.cutList ++ [r]).map (fun i => ((u.setRecord r (enteredRecord p)).record i).tag)).Nodup
    rw [List.map_append, List.map_singleton, hself]
    refine List.nodup_append.mpr ⟨hnodup, List.nodup_singleton _, fun a ha b hb he => ?_⟩
    obtain ⟨i, hi, rfl⟩ := List.mem_map.mp ha
    rw [hother hi] at he
    exact ht i hi (he.trans (List.mem_singleton.mp hb))
  · rcases List.mem_append.mp hi with hi | hi
    · exact hall i hi
    · obtain rfl := List.mem_singleton.mp hi
      show ((u.setRecord i (enteredRecord p)).record i).entered
      rw [hself]
      exact ⟨h0, rfl, rfl, rfl, rfl, rfl⟩

theorem Act.cutListLaw {held held' : List RecIx} {u v : State} (h : Act held u held' v) (hp : Pooled held u)
    (hu : CutListLaw u) : CutListLaw v := by
  cases h with
  | record r hi => exact hu.setRecord (hp.apart_of_mayWrite hi).2.1 r
  | queued hi hr => exact hu.setRecord (hp.apart_of_queued hi).2 _
  | lifted hi => exact hu.lifted _
  | freed => exact hu.setRecord (hp.apart_of_mayWrite State.mayWrite_of_hand).2.1 Record.blank
  | inserted ht => exact hu.setRecord (hp.apart_of_mayWrite State.mayWrite_of_hand).2.1 _
  | sent k i f hs =>
    obtain ⟨-, -, -, -, -, hc, -⟩ := u.tables_setHandoff k i (.sent u.nextHandoff)
    exact hu.of_record hc fun j _ => u.record_setHandoff k i _ j
  | @left _ _ k i p hp =>
    obtain ⟨-, -, -, -, -, hc, -⟩ := p.tables_discard u
    refine hu.of_record hc fun j _ => ?_
    unfold State.record State.setSlot
    rw [(p.pool_discard u).1]
  | alarmed inc =>
    obtain ⟨-, -, -, hc, -⟩ := u.tables_captureAlarm inc
    refine hu.of_record hc fun j _ => ?_
    unfold State.record
    rw [(u.pool_captureAlarm inc).1]
  | cut hperm hl =>
    obtain ⟨hlength, hnodup, hall⟩ := hu
    exact ⟨hl.length_le.trans hlength, hnodup.sublist (hl.map _), fun i hi => hall i (hl.subset hi)⟩
  | listed p h0 ht hl => exact hu.listed (hp.apart_of_mayWrite State.mayWrite_of_hand).2.1 h0 ht hl
  | _ => exact hu

/-- R108 within a command: the law of the cut list, with the one place of each record on which it rests. -/
def CutListed (held : List RecIx) (s : State) : Prop := Pooled held s ∧ CutListLaw s

theorem Act.cutListed {held held' : List RecIx} {u v : State} (h : Act held u held' v) (hu : CutListed held u) :
    CutListed held' v := ⟨h.pooled hu.1, h.cutListLaw hu.1 hu.2⟩

theorem Starts.cutListed {c : Instr} {s b : State} (h : Starts c s b) (hs : CutListed [] s) : CutListed [] b := by
  cases h with
  | reset hc =>
    exact ⟨(Starts.reset hc).pooled hs.1, Nat.zero_le _, List.nodup_nil, fun _ hi => absurd hi List.not_mem_nil⟩
  | service _ _ hu => exact hu.keeps (P := CutListed) Act.cutListed hs
  | _ => exact hs

/-! ### What a command does to a frozen capture (R154, R155) -/

/-- R155: no command but RESET and an accepted INCIDENT_CLEAR empties or replaces an occupied capture, or lowers its
count. -/
theorem exec_keeps_capture {c : Instr} {s t : State} {x : Captured} (h : exec c s = .next t) (hx : s.capture = some x) :
    (t.capture = some x ∧ (CaptureLaw s → s.furtherAlarms ≤ t.furtherAlarms))
    ∨ c = .reset
    ∨ ∃ origin target, s.takesCommand origin target ∧ exec c s = exec (.incidentClear origin target) s
        ∧ (c = .incidentClear origin target ∨ ∃ bits, c = .frameDiscarded bits) := by
  obtain ⟨b, u, he, hb, hu⟩ := exec_runs c s
  obtain rfl : u = t := Host.Outcome.next.inj (he.symm.trans h)
  have hfrozen (hstart : b.hasFrozen x s.furtherAlarms) :
      u.capture = some x ∧ (CaptureLaw s → s.furtherAlarms ≤ u.furtherAlarms) := by
    obtain ⟨hc, hn⟩ := hu.keeps (P := fun _ y => y.hasFrozen x s.furtherAlarms) Act.hasFrozen hstart
    exact ⟨hc, fun hl => (Nat.min_eq_right hl.2).symm.trans_le hn⟩
  have hself : s.hasFrozen x s.furtherAlarms := ⟨hx, Nat.min_le_right _ _⟩
  cases hb with
  | reset hc => exact .inr (.inl hc)
  | cleared ht he hc => exact .inr (.inr ⟨_, _, ht, he, hc⟩)
  | service _ _ hw => exact .inl (hfrozen (hw.keeps (P := fun _ y => y.hasFrozen x s.furtherAlarms) Act.hasFrozen hself))
  | _ => exact .inl (hfrozen hself)

/-- Settles O59: each change keeps the tables, and none but the beginnings of RESET and INCIDENT_CLEAR touches a frozen
capture. -/
theorem everyStepKeepsTheTables : Obligations.EveryStepKeepsTheTables := by
  unfold Obligations.EveryStepKeepsTheTables
  refine ⟨fun s t h => ⟨fun hp hc => ?_, fun hs => ?_, fun hs => ?_, fun hs => ?_, fun hs => ?_⟩,
    fun s inc => ⟨fun hc => ⟨State.captureAlarm_of_empty hc inc, fun hs => ?_⟩,
      fun x hx => State.captureAlarm_of_frozen hx inc⟩,
    fun c s t x h hx => exec_keeps_capture h hx⟩
  · exact (step_keeps (P := CutListed) Starts.cutListed Act.cutListed (fun _ _ hx => hx) ⟨hp, hc⟩ h).2
  · exact step_keeps (P := fun _ x => ClosureLaw x) Starts.closureLaw Act.closureLaw (fun _ _ hx => hx) hs h
  · exact step_keeps (P := fun _ x => WatchLaw x) Starts.watchLaw Act.watchLaw (fun _ _ hx => hx) hs h
  · exact step_keeps (P := fun _ x => CaptureLaw x) Starts.captureLaw Act.captureLaw (fun _ _ hx => hx) hs h
  · exact step_keeps (P := fun _ x => PortLaw x) Starts.portLaw Act.portLaw (fun _ _ hx => hx) hs h
  · rw [State.captureAlarm_of_empty hc]
    exact hs.1 hc

/-! ### The waiting commands and the node state (R162) -/

theorem Act.pending {held held' : List RecIx} {u v : State} (h : Act held u held' v) : v.pending = u.pending := by
  cases h with
  | sent k i f hs =>
    show (u.setHandoff k i _).pending = u.pending
    unfold State.setHandoff
    split <;> rfl
  | @left _ _ k i p hp =>
    show (p.discard u).pending = u.pending
    unfold Passage.discard
    split <;> rfl
  | alarmed inc =>
    obtain ⟨-, -, -, -, hp⟩ := u.tables_captureAlarm inc
    exact hp
  | _ => rfl

theorem Work.pending {s u : State} {held : List RecIx} (h : Work s held u) : u.pending = s.pending :=
  h.keeps (P := fun _ x => x.pending = s.pending) (fun ha hx => ha.pending.trans hx) rfl

theorem Starts.pending {c : Instr} {s b : State} (h : Starts c s b) : b.pending = s.pending := by
  cases h with
  | service _ _ hu => exact hu.pending
  | _ => rfl

/-- Settles O2: every command completes by changes that leave the waiting commands. -/
theorem everyCommandCompletes : Obligations.EveryCommandCompletes := by
  unfold Obligations.EveryCommandCompletes
  intro c s
  obtain ⟨b, t, he, hb, ht⟩ := exec_runs c s
  exact ⟨t, he, ht.pending.trans hb.pending⟩

/-- Settles O3: the node state is that from which the command goes on. -/
theorem nodeStateChangesOnlyAsListed : Obligations.NodeStateChangesOnlyAsListed := by
  unfold Obligations.NodeStateChangesOnlyAsListed
  intro c s t h hne
  obtain ⟨b, u, he, hb, hu⟩ := exec_runs c s
  obtain rfl : u = t := Host.Outcome.next.inj (he.symm.trans h)
  rw [hu.nodeState] at hne ⊢
  cases hb with
  | same => exact absurd rfl hne
  | reset hc => exact .inl ⟨hc, rfl⟩
  | released hc hs => exact .inr (.inl ⟨hc, hs, rfl⟩)
  | @census memory hc hs cfg => exact .inr (.inr (.inl ⟨memory, hc, hs, .inl rfl⟩))
  | @configFault memory hc hs => exact .inr (.inr (.inl ⟨memory, hc, hs, .inr rfl⟩))
  | service hc hs hw => exact .inr (.inr (.inr ⟨hc, hs, rfl⟩))
  | cleared => exact absurd rfl hne

/-- Settles O1: by the two cases of a step. -/
theorem stepTakesTheFrontCommand : Obligations.StepTakesTheFrontCommand := by
  unfold Obligations.StepTakesTheFrontCommand
  refine ⟨fun c s rest h => ?_, fun s h => ?_⟩
  · unfold step
    rw [h]
  · have htick : step s = .next s.tick := by
      unfold step
      rw [h]
    rw [htick]
    unfold State.tick
    split
    · rfl
    · rfl

/-! ### The state after reset -/

theorem State.slot_reset (k : SlotIx) : State.reset.slot k = Slot.afterReset := by
  simp [State.slot, State.reset]

theorem State.places_reset : State.reset.places = List.finRange 64 := by
  rw [State.places, show State.reset.slots.toList.flatMap (fun x => x.queue ++ x.zone.map Passage.record) = [] from rfl]
  simp [State.reset]

/-- Settles O60: after reset every list but the free list is empty. -/
theorem resetKeepsEveryLaw : Obligations.ResetKeepsEveryLaw := by
  unfold Obligations.ResetKeepsEveryLaw
  have hqueue (k : SlotIx) : (State.reset.slot k).queueWithin := by
    rw [State.slot_reset]
    exact ⟨Nat.zero_le _, Nat.zero_le _, fun _ => ⟨rfl, rfl⟩⟩
  have horder (k : SlotIx) : State.reset.orders (State.reset.slot k) := by
    rw [State.slot_reset]
    exact fun e he => absurd he (Option.some_ne_none e).symm
  have hzone (k : SlotIx) : zoneWithin (State.reset.slot k).zone := by
    rw [State.slot_reset]
    exact ⟨Nat.zero_le _, fun _ hp => absurd hp List.not_mem_nil⟩
  have hdrive (k : SlotIx) : (State.reset.slot k).driveLaw
      ∧ (State.reset.nodeState ≠ .inService → (State.reset.slot k).service = .off) := by
    rw [State.slot_reset]
    exact ⟨Slot.driveLaw_of_atRest ⟨rfl, rfl, rfl⟩, fun _ => rfl⟩
  refine ⟨?_, ?_, hqueue, horder, hzone, ?_, hdrive, ?_, ?_, ClosureLaw.of_empty rfl, ?_, ?_, ?_⟩
  · rw [PoolLaw, State.places_reset]
  · intro i _
    simp [State.reset, State.record]
  · exact ⟨Nat.zero_le _, fun _ he => absurd he List.not_mem_nil, List.nodup_nil, List.nodup_nil,
      fun _ hn => absurd hn List.not_mem_nil, fun _ hn => absurd hn List.not_mem_nil⟩
  · exact (transmitLaw_iff _).mpr ⟨QueueKeeps.nil _, fun _ => ⟨rfl, rfl⟩⟩
  · exact ⟨Nat.zero_le _, List.nodup_nil, fun _ hi => absurd hi List.not_mem_nil⟩
  · exact ⟨Nat.zero_le _, List.nodup_nil, List.not_mem_nil⟩
  · exact ⟨fun _ => rfl, Nat.zero_le _⟩
  · exact (portLaw_iff _).mpr (.inl ⟨rfl, show 0 < Config.muteThreshold by decide, rfl⟩)

end Sys2Proof.Machine
end

section
/-! SUPPORT. Commands whose body changes nothing, or writes the state without a report: expiries of timers that do not
run, the image, the crest axles that count a release down, and frames that no block takes. -/

namespace Sys2Proof.Machine

/-! ### Bodies without a report -/

/-- A body that offers nothing leaves what it writes. -/
theorem Leaves.of_body {c : Instr} {s u : State} (hc : exec c s = finish s u) (hq : u.port.queue = s.port.queue) :
    Leaves c s u [] := Leaves.of_finish hc rfl (fun _ => rfl) hq

/-- A command that does nothing leaves the state. -/
theorem Leaves.of_idle {c : Instr} {s : State} (hc : exec c s = finish s s) : Leaves c s s [] :=
  Leaves.of_body hc rfl

/-! ### Timers that do not run (log 5) -/

theorem State.expireGap_of_stopped {s : State} {k : SlotIx} {i : Nat}
    (h : ∀ p, (s.slot k).zone[i]? = some p → p.gapRunning = false) : s.expireGap k i = s := by
  unfold State.expireGap State.passage
  cases hp : (s.slot k).zone[i]? with
  | none => rfl
  | some p => exact if_neg (Bool.eq_false_iff.mp (h p hp))

theorem State.expireStall_of_stopped {s : State} {k : SlotIx} {i : Nat}
    (h : ∀ p, (s.slot k).zone[i]? = some p → p.stallTimer = none) : s.expireStall k i = s := by
  unfold State.expireStall State.passage
  cases hp : (s.slot k).zone[i]? with
  | none => rfl
  | some p => simp only [h p hp]

theorem State.expireGhost_of_stopped {s : State} {k : SlotIx} (h : (s.slot k).ghostTimer = none) :
    s.expireGhost k = s := by
  unfold State.expireGhost
  rw [h]

theorem State.expireOverdue_of_absent {s : State} {k : SlotIx} {seq : Seq}
    (h : ∀ r ∈ (s.slot k).queue, s.queuedSeq r ≠ seq) : s.expireOverdue k seq = s := by
  have hfind : (s.slot k).queue.find? (fun i => s.queuedSeq i == seq) = none :=
    List.find?_eq_none.mpr fun r hr => by simpa using h r hr
  unfold State.expireOverdue
  rw [hfind]
  exact ite_self s

theorem execThrowDeadline_of_not_driving {s : State} {k : SlotIx}
    (h : ∀ target n d, (s.slot k).point ≠ .moving ⟨target, n, d, .driving⟩) :
    execThrowDeadline k s = finish s s := by
  unfold execThrowDeadline
  split
  · rename_i hp
    exact absurd hp (h _ _ _)
  all_goals rfl

theorem execPauseEnd_of_not_pausing {s : State} {k : SlotIx}
    (h : ∀ target n d, (s.slot k).point ≠ .moving ⟨target, n, d, .pausing⟩) :
    execPauseEnd k s = finish s s := by
  unfold execPauseEnd
  split
  · rename_i hp
    exact absurd hp (h _ _ _)
  all_goals rfl

theorem Slot.point_ne_moving {x : Slot} (h : x.isMoving = false) (t : Throw) : x.point ≠ .moving t := by
  intro hp
  simp [Slot.isMoving, hp] at h

theorem execReplyTimeout_of_stopped {s : State} {place : ContextPlace} {n : Nat} {h : Handoff} {a : Attempt}
    (hp : s.handoffAt place = some n) (hh : s.handoff? n = some h) (hs : h.status = .pending a none) :
    execReplyTimeout place s = finish s s := by
  have hquiet : s.expireReply n = s := by
    unfold State.expireReply
    rw [hh]
    dsimp only
    rw [hs]
    cases a <;> rfl
  unfold execReplyTimeout
  rw [hp]
  exact congrArg (finish s) hquiet

theorem State.expireSilence_of_not_present {s : State} {n : Nat}
    (h : ∀ e, s.rosterEntry? n = some e → e.presence ≠ .present) : s.expireSilence n = s := by
  unfold State.expireSilence
  cases he : s.rosterEntry? n with
  | none => rfl
  | some e =>
    dsimp only
    have hp := h e he
    cases hpres : e.presence with
    | present => exact absurd hpres hp
    | unheard => rfl
    | silent => rfl

theorem execMuteRetryExpiry_of_stopped {s : State} (h : ∀ d, s.port.retry ≠ .running d) :
    execMuteRetryExpiry s = finish s s := by
  unfold execMuteRetryExpiry
  split
  · rename_i hr
    exact absurd hr (h _)
  all_goals rfl

/-- Settles O28: each of the expiries, and FRAME_SENT, has a body that does nothing where its timer, or the attempt,
is not there. -/
theorem stoppedTimersDoNotExpire : Obligations.StoppedTimersDoNotExpire := by
  unfold Obligations.StoppedTimersDoNotExpire
  intro s
  refine ⟨fun k i h => ?gap, fun k i h => ?stall, fun k h => ?ghost, fun k seq h => ?overdue, fun k h => ⟨?still, ?rest⟩,
    fun k target n d h => ?driving, fun k target n d h => ?pausing, fun place h => ?noContext,
    fun place n x a hp hx hs => ?noTimer, fun h => ?interval, fun h => ?period, fun n h => ?silence, fun h => ?retry,
    fun h => ?sent⟩
  case gap => exact Leaves.of_idle (congrArg (finish s) (State.expireGap_of_stopped h))
  case stall => exact Leaves.of_idle (congrArg (finish s) (State.expireStall_of_stopped h))
  case ghost => exact Leaves.of_idle (congrArg (finish s) (State.expireGhost_of_stopped h))
  case overdue => exact Leaves.of_idle (congrArg (finish s) (State.expireOverdue_of_absent h))
  case still => exact Leaves.of_idle (execThrowDeadline_of_not_driving fun _ _ _ => Slot.point_ne_moving h _)
  case rest => exact Leaves.of_idle (execPauseEnd_of_not_pausing fun _ _ _ => Slot.point_ne_moving h _)
  case driving => exact Leaves.of_idle (execPauseEnd_of_not_pausing fun _ _ _ => by simp [h])
  case pausing => exact Leaves.of_idle (execThrowDeadline_of_not_driving fun _ _ _ => by simp [h])
  case noContext =>
    refine Leaves.of_idle ?_
    show execReplyTimeout place s = _
    unfold execReplyTimeout
    rw [h]
  case noTimer => exact Leaves.of_idle (execReplyTimeout_of_stopped hp hx hs)
  case interval =>
    refine Leaves.of_idle ?_
    show execReleaseIntervalEnd s = _
    unfold execReleaseIntervalEnd
    rw [h]
  case period =>
    refine Leaves.of_idle ?_
    show execPeriodTimerExpiry s = _
    unfold execPeriodTimerExpiry
    rw [h]
  case silence => exact Leaves.of_idle (congrArg (finish s) (State.expireSilence_of_not_present h))
  case retry => exact Leaves.of_idle (execMuteRetryExpiry_of_stopped h)
  case sent =>
    refine Leaves.of_idle ?_
    show execFrameSent s = _
    unfold execFrameSent
    rw [h]

/-! ### The image (R163 to R166) -/

/-- Settles O5: outside LOADING the image is not read; in LOADING the two outcomes of reading it write the state, and
the fault line and the signal follow from CONFIG_FAULT. -/
theorem imageReadDecides : Obligations.ImageReadDecides := by
  unfold Obligations.ImageReadDecides
  intro s memory
  have hload (hs : s.nodeState = .loading) : s.loadImage memory = match readImage memory with
      | some c => s.beginCensus c
      | none => { s with nodeState := .configFault } := if_pos hs
  refine ⟨fun hs => ?other, fun hs => ⟨fun c hc => ?passed, fun hc => ⟨?failed, ?lines⟩⟩⟩
  case other => exact Leaves.of_idle (congrArg (finish s) (if_neg hs))
  case passed =>
    have hbody : s.loadImage memory = s.beginCensus c := by rw [hload hs, hc]
    exact Leaves.of_body (congrArg (finish s) hbody) rfl
  case failed =>
    have hbody : s.loadImage memory = { s with nodeState := .configFault } := by rw [hload hs, hc]
    exact Leaves.of_body (congrArg (finish s) hbody) rfl
  case lines =>
    have hbody : s.loadImage memory = { s with nodeState := .configFault } := by rw [hload hs, hc]
    refine ⟨s.settle { s with nodeState := .configFault }, congrArg (finish s) hbody, ?_, ?_⟩
    · rw [State.faultLine_settle, State.decideFaultLine_iff, State.nodeState_settle]
      exact .inr (.inr rfl)
    · rw [State.signal_settle]
      refine State.decideSignal_of_not_mayRelease fun ⟨hin, _⟩ => ?_
      rw [State.nodeState_settle] at hin
      exact NodeState.noConfusion hin

/-! ### Crest axles that count a release down (R117, R123, R124) -/

theorem State.countCrestAxle_of_more {s : State} {n : Nat} (h : s.crestPassage.countdown = n + 2) :
    s.countCrestAxle = { s with crestPassage := { s.crestPassage with countdown := n + 1 } } := by
  unfold State.countCrestAxle
  rw [if_neg (by omega), h]
  rfl

theorem NodeConfig.interval_of_crest {x : NodeConfig} {c : CrestConfig} (h : x.crest = some c) (a b : Nat) :
    x.interval a b = c.intervals.getD (4 * a + b) 0 := by
  unfold NodeConfig.interval
  rw [h]

/-- Settles O49: the crest sensor is read in service in the crest role only; in CREST_RELEASING the axle counts down, or
completes the release. -/
theorem crestAxlesCountTheReleaseDown : Obligations.CrestAxlesCountTheReleaseDown := by
  unfold Obligations.CrestAxlesCountTheReleaseDown
  intro s
  refine ⟨fun h => Leaves.of_idle (if_neg ?unread), fun c hs hr hc hp => ?_⟩
  case unread =>
    rcases h with h | h
    · simp [State.crestServing, State.serving, h]
    · simp [State.crestServing, h]
  have hbody : exec .crestAxle s = finish s s.countCrestAxle := by
    refine (if_pos ((State.crestServing_iff hs).mpr hr)).trans (congrArg (finish s) ?_)
    unfold State.crestAxle
    rw [hp]
  refine ⟨fun n hn => ?more, fun hn => ?last⟩
  case more =>
    refine Leaves.of_body (hbody.trans (congrArg (finish s) (State.countCrestAxle_of_more hn))) rfl
  case last =>
    refine Leaves.of_finish (hbody.trans (congrArg (finish s) (if_pos hn))) ?_ (fun _ => ?_) rfl
    all_goals
      unfold State.completeRelease intervalTimer
      rw [NodeConfig.interval_of_crest hc]
      rfl

end Sys2Proof.Machine
end

section
/-! SUPPORT. Point control and the stray axles (chapter 3, R60): what a throw evaluation, a failure and a detected point
are in the rules' words, and the claim `Leaves` of each event at a point. -/

namespace Sys2Proof.Machine

/-! ### Bodies that raise one incident -/

theorem State.reportOf_congr {s u : State} (h : u.capture = s.capture) (inc : Incident) :
    u.reportOf inc = s.reportOf inc := by
  unfold State.reportOf
  rw [h]

/-- A body that writes the state and then raises an alarm. -/
theorem Leaves.of_alarm {c : Instr} {s u : State} {inc : Incident} (hc : exec c s = finish s (u.raise inc))
    (hq : u.port.queue = s.port.queue) (hs : u.serving = true) (hcap : u.capture = s.capture)
    (ha : isAlarm inc.kind = true) : Leaves c s (u.captureAlarm inc) [s.reportOf inc] := by
  refine Leaves.of_reported hc ?_ (s.kind_reportOf_ne_holdState inc)
  rw [← State.reportOf_congr hcap]
  exact (Reported.of_queue hq).raise_alarm (by simp) hs inc ha

/-- A body that writes the state and then raises a notice. -/
theorem Leaves.of_notice {c : Instr} {s u : State} {inc : Incident} (hc : exec c s = finish s (u.raise inc))
    (hq : u.port.queue = s.port.queue) (hs : u.serving = true) (ha : isAlarm inc.kind = false) :
    Leaves c s u [.incident inc false] :=
  Leaves.of_reported hc ((Reported.of_queue hq).raise_notice (by simp) hs inc ha)
    (List.forall_mem_singleton.mpr FrameKind.noConfusion)

/-! ### Stray axles (R60) -/

theorem execExitAxleForward_of_serving {s : State} {k : SlotIx} (h : s.slotServing k = true) (leg : Leg) :
    exec (.exitAxleForward k leg) s = finish s (s.exitForward k leg) := if_pos h

theorem execExitAxleBackward_of_serving {s : State} {k : SlotIx} (h : s.slotServing k = true) (leg : Leg) :
    exec (.exitAxleBackward k leg) s = finish s (s.exitBackward k leg) := if_pos h

theorem execCommitAxleBackward_of_serving {s : State} {k : SlotIx} (h : s.slotServing k = true) :
    exec (.commitAxleBackward k) s = finish s (s.commitBackward k) := if_pos h

theorem State.exitForward_of_none {s : State} {k : SlotIx} (leg : Leg)
    (h : ∀ p ∈ (s.slot k).zone, p.axlesIn ≤ p.out) : s.exitForward k leg = s.strayAxle k (exitSensor leg) .forward := by
  have hfind : (s.slot k).zone.findIdx? Passage.isOpen = none :=
    List.findIdx?_eq_none_iff.mpr fun p hp => decide_eq_false (Nat.not_lt.mpr (h p hp))
  unfold State.exitForward
  rw [hfind]

theorem State.exitBackward_of_none {s : State} {k : SlotIx} (leg : Leg)
    (h : ∀ p ∈ (s.slot k).zone, p.outOn leg = 0) :
    s.exitBackward k leg = s.strayAxle k (exitSensor leg) .backward := by
  have hfind : (s.slot k).zone.findIdx? (fun p => decide (0 < p.outOn leg)) = none :=
    List.findIdx?_eq_none_iff.mpr fun p hp => by simp [h p hp]
  unfold State.exitBackward
  rw [hfind]

theorem State.commitBackward_of_none {s : State} {k : SlotIx}
    (h : ∀ p ∈ (s.slot k).zone.getLast?, p.axlesIn ≤ p.out) :
    s.commitBackward k = s.strayAxle k .commit .backward := by
  unfold State.commitBackward
  cases hz : (s.slot k).zone.getLast? with
  | none => rfl
  | some p => exact if_neg (by simpa [Passage.isOpen] using h p hz)

/-- Settles O18: an axle that no passage takes is a stray axle at each of the three sensors. -/
theorem strayAxlesRaiseTheirAlarm : Obligations.StrayAxlesRaiseTheirAlarm := by
  unfold Obligations.StrayAxlesRaiseTheirAlarm
  intro s k hs
  have hserving := State.serving_of_slotServing hs
  refine ⟨fun leg h => ?_, fun leg h => ?_, fun h => ?_⟩
  · refine Leaves.of_alarm (u := s) ?_ rfl hserving rfl rfl
    rw [execExitAxleForward_of_serving hs, State.exitForward_of_none leg h]
    rfl
  · refine Leaves.of_alarm (u := s) ?_ rfl hserving rfl rfl
    rw [execExitAxleBackward_of_serving hs, State.exitBackward_of_none leg h]
    rfl
  · refine Leaves.of_alarm (u := s) ?_ rfl hserving rfl rfl
    rw [execCommitAxleBackward_of_serving hs, State.commitBackward_of_none h]
    rfl

/-! ### Throws (R44, R47) -/

/-- R44: what a throw needs, in the rule's words. -/
def Slot.mayThrow (x : Slot) (leg : Leg) : Prop :=
  x.zone = [] ∧ x.service = .inUse ∧ x.foulingOccupied = false ∧ x.isMoving = false ∧ x.point ≠ provedIn leg

theorem Slot.mayThrow_iff (x : Slot) (leg : Leg) :
    x.mayThrow leg ↔ (x.zone.isEmpty && x.canThrow leg) = true := by
  simp [Slot.mayThrow, Slot.canThrow, and_assoc]

theorem State.evaluateThrow_of_mayThrow {s : State} {k : SlotIx} {r : RecIx} {rest : List RecIx}
    (hq : (s.slot k).queue = r :: rest) (h : (s.slot k).mayThrow (s.wantedLeg k r)) :
    s.evaluateThrow k = s.setSlot k
      ((s.slot k).thrownToward (s.wantedLeg k r) (s.slotCfg k).retries (s.time + (s.slotCfg k).throwLimit)) := by
  unfold State.evaluateThrow
  rw [hq]
  exact if_pos ((Slot.mayThrow_iff _ _).mp h)

theorem State.evaluateThrow_of_not_mayThrow {s : State} {k : SlotIx} {r : RecIx} {rest : List RecIx}
    (hq : (s.slot k).queue = r :: rest) (h : ¬(s.slot k).mayThrow (s.wantedLeg k r)) : s.evaluateThrow k = s := by
  unfold State.evaluateThrow
  rw [hq]
  exact if_neg (mt (Slot.mayThrow_iff _ _).mpr h)

/-- Settles O19: the head is the target of the evaluation, and a throw starts where `Slot.mayThrow` holds. -/
theorem throwEvaluationFollowsItsRule : Obligations.ThrowEvaluationFollowsItsRule := by
  unfold Obligations.ThrowEvaluationFollowsItsRule
  intro s k
  refine ⟨fun h => State.evaluateThrow_of_empty h, fun r rest hq => ?_⟩
  intro x c d wanted
  by_cases h : x.mayThrow wanted
  · exact (State.evaluateThrow_of_mayThrow hq h).trans (if_pos h).symm
  · exact (State.evaluateThrow_of_not_mayThrow hq h).trans (if_neg h).symm

/-! ### Failures and detected points (R37, R39, R40, R53) -/

theorem pointShownBy_eq (a b : Bool) : pointShownBy a b = pointOfInputs a b := by
  cases a <;> cases b <;> rfl

theorem Slot.detected_eq (x : Slot) : x.detected = pointShownBy x.provedNormal x.provedReverse :=
  (pointShownBy_eq _ _).symm

theorem Slot.abandon_eq (x : Slot) (service : ServiceState) :
    { x.abandon with service := service, driveNormal := false, driveReverse := false } = x.takenOut service := by
  unfold Slot.abandon Slot.takenOut
  split <;> simp [Slot.rest, Slot.detected_eq]

/-- R37, R40: a slot that fails, in the rule's words. -/
theorem Slot.fail_eq {x : Slot} (h : x.service ≠ .off) : x.fail = x.takenOut .failed :=
  (if_neg h).trans (x.abandon_eq .failed)

/-- A slot whose point does not move fails as it stands. -/
theorem Slot.takenOut_of_not_moving {x : Slot} (h : x.isMoving = false) (service : ServiceState) :
    x.takenOut service = { x with service := service, driveNormal := false, driveReverse := false } := by
  unfold Slot.takenOut
  rw [if_neg (Bool.eq_false_iff.mp h)]

theorem State.failSlot_eq {s : State} {k : SlotIx} (h : (s.slot k).service ≠ .off) (inc : Incident) :
    s.failSlot k inc = (s.setSlot k ((s.slot k).takenOut .failed)).raise inc := by
  unfold State.failSlot
  rw [Slot.fail_eq h]

theorem State.service_ne_off_of_slotServing {s : State} {k : SlotIx} (h : s.slotServing k = true) :
    (s.slot k).service ≠ .off := by
  unfold State.slotServing at h
  simpa using (Bool.and_eq_true_iff.mp h).2

/-! ### DETECTION_CHANGE (R41, R48, R52) -/

theorem PointState.isProved_iff (p : PointState) : p.isProved = true ↔ p = .provedNormal ∨ p = .provedReverse := by
  cases p <;> simp [PointState.isProved]

@[simp] theorem Slot.point_setInput (x : Slot) (input : Leg) (level : Bool) :
    (x.setInput input level).point = x.point := by cases input <;> rfl

@[simp] theorem Slot.service_setInput (x : Slot) (input : Leg) (level : Bool) :
    (x.setInput input level).service = x.service := by cases input <;> rfl

theorem State.changeDetection_of_unjudged {s : State} {k : SlotIx} {input : Leg} {level : Bool}
    (h : ¬(s.slotServing k = true ∧ (s.slot k).setInput input level ≠ s.slot k)) :
    s.changeDetection k input level = s.setSlot k ((s.slot k).setInput input level) :=
  if_neg (by simpa using h)

theorem State.changeDetection_of_moving {s : State} {k : SlotIx} {input : Leg} {level : Bool} {t : Throw}
    (hs : s.slotServing k = true) (hy : (s.slot k).setInput input level ≠ s.slot k)
    (hp : (s.slot k).point = .moving t) :
    s.changeDetection k input level = (s.setSlot k ((s.slot k).setInput input level)).throwDetection k t := by
  refine (if_pos (by simpa using ⟨hs, hy⟩)).trans ?_
  rw [hp]

theorem State.changeDetection_of_not_moving {s : State} {k : SlotIx} {input : Leg} {level : Bool}
    (hs : s.slotServing k = true) (hy : (s.slot k).setInput input level ≠ s.slot k)
    (hp : (s.slot k).isMoving = false) :
    s.changeDetection k input level = (s.setSlot k ((s.slot k).setInput input level)).followDetection k := by
  refine (if_pos (by simpa using ⟨hs, hy⟩)).trans ?_
  cases hx : (s.slot k).point with
  | moving t => exact absurd hx (Slot.point_ne_moving hp t)
  | provedNormal => rfl
  | provedReverse => rfl
  | unproved => rfl

/-- R41: losing the proof in SETTLING or IN_USE. -/
def Slot.losesProof (x : Slot) : Prop :=
  (x.point = .provedNormal ∨ x.point = .provedReverse) ∧ pointShownBy x.provedNormal x.provedReverse = .unproved
    ∧ (x.service = .settling ∨ x.service = .inUse)

theorem Slot.losesProof_iff (x : Slot) : x.losesProof ↔
    (x.point.isProved && x.detected == .unproved && (x.service == .settling || x.service == .inUse)) = true := by
  simp [Slot.losesProof, PointState.isProved_iff, Slot.detected_eq, and_assoc]

theorem State.followDetection_of_losesProof {s : State} {k : SlotIx} (h : (s.slot k).losesProof) :
    s.followDetection k = (s.setSlot k { s.slot k with
      point := .unproved, service := .failed, driveNormal := false, driveReverse := false }).raise
        (detectionIncident k (s.slot k).point (s.slot k)) := by
  have hoff : (s.slot k).service ≠ .off := by
    rcases h.2.2 with hx | hx <;> simp [hx]
  refine (if_pos ((Slot.losesProof_iff _).mp h)).trans ?_
  rw [State.failSlot_eq (by simpa using hoff), State.slot_setSlot, State.setSlot_setSlot,
    Slot.takenOut_of_not_moving (by rfl)]

theorem State.followDetection_of_not_losesProof {s : State} {k : SlotIx} (h : ¬(s.slot k).losesProof) :
    s.followDetection k = s.setSlot k { s.slot k with
      point := pointShownBy (s.slot k).provedNormal (s.slot k).provedReverse } := by
  refine (if_neg (mt (Slot.losesProof_iff _).mpr h)).trans ?_
  rw [Slot.detected_eq]

theorem State.throwDetection_of_proved {s : State} {k : SlotIx} {t : Throw}
    (h : pointShownBy (s.slot k).provedNormal (s.slot k).provedReverse = provedIn t.target) :
    s.throwDetection k t = (s.setSlot k ((s.slot k).rest (provedIn t.target))).evaluateThrow k :=
  if_pos ((Slot.detected_eq _).trans h)

theorem State.throwDetection_of_unproved {s : State} {k : SlotIx} {t : Throw}
    (h : pointShownBy (s.slot k).provedNormal (s.slot k).provedReverse ≠ provedIn t.target) :
    s.throwDetection k t = s := if_neg (by rwa [Slot.detected_eq])

theorem State.port_evaluateThrow (s : State) (k : SlotIx) : (s.evaluateThrow k).port = s.port := by
  unfold State.evaluateThrow
  split
  · rfl
  · split <;> rfl

/-- Settles O20: a level that is no change only sets the line; an unmoving point follows its inputs, or fails; a moving
one takes proof of its target alone. -/
theorem detectionChangeMovesThePointState : Obligations.DetectionChangeMovesThePointState := by
  unfold Obligations.DetectionChangeMovesThePointState
  intro s k input level x y shown lost
  have hslot : (s.setSlot k y).slot k = y := State.slot_setSlot s k y
  refine ⟨fun h => ?unjudged, fun hs hy hm => ⟨fun hp hshown hserv => ?fails, fun h => ?follows⟩,
    fun thrown hs hy hp => ⟨fun h => ?proved, fun h => ?moving⟩⟩
  case unjudged => exact Leaves.of_body (congrArg (finish s) (State.changeDetection_of_unjudged h)) rfl
  case fails =>
    have hl : y.losesProof := ⟨by simpa [y] using hp, hshown, by simpa [y] using hserv⟩
    have hbody := (State.changeDetection_of_not_moving hs hy hm).trans
      (State.followDetection_of_losesProof (by rwa [hslot]))
    rw [hslot, State.setSlot_setSlot, Slot.point_setInput] at hbody
    have hserving := State.serving_of_slotServing hs
    exact Leaves.of_alarm (congrArg (finish s) hbody) rfl hserving rfl rfl
  case follows =>
    have hl : ¬y.losesProof := by simpa [Slot.losesProof, y] using h
    have hbody := (State.changeDetection_of_not_moving hs hy hm).trans
      (State.followDetection_of_not_losesProof (by rwa [hslot]))
    rw [hslot, State.setSlot_setSlot] at hbody
    exact Leaves.of_body (congrArg (finish s) hbody) rfl
  case proved =>
    have hbody := (State.changeDetection_of_moving hs hy hp).trans
      (State.throwDetection_of_proved (by rwa [hslot]))
    rw [hslot, State.setSlot_setSlot, ← h] at hbody
    exact Leaves.of_body (congrArg (finish s) hbody) (congrArg Port.queue (State.port_evaluateThrow _ k))
  case moving =>
    have hbody := (State.changeDetection_of_moving hs hy hp).trans
      (State.throwDetection_of_unproved (by rwa [hslot]))
    exact Leaves.of_body (congrArg (finish s) hbody) rfl

/-! ### FOULING_OCCUPIED (R51, R81) -/

theorem State.stopUnderCut_of_moving {s : State} {k : SlotIx} {t : Throw} (hp : (s.slot k).point = .moving t)
    (hs : (s.slot k).service ≠ .off) :
    s.stopUnderCut k = (s.setSlot k { s.slot k with
      point := .unproved, service := .failed, driveNormal := false, driveReverse := false }).raise
        ⟨.unprovedUnderCut, some k, s.youngestTag k, 0, .underCut t.target t.phase⟩ := by
  unfold State.stopUnderCut
  rw [hp]
  dsimp only
  rw [State.failSlot_eq (by simpa [Slot.rest] using hs), State.slot_setSlot, State.setSlot_setSlot,
    Slot.takenOut_of_not_moving (by rfl)]
  rfl

theorem State.stopUnderCut_of_not_moving {s : State} {k : SlotIx} (h : (s.slot k).isMoving = false) :
    s.stopUnderCut k = s := by
  unfold State.stopUnderCut
  cases hx : (s.slot k).point with
  | moving t => exact absurd hx (Slot.point_ne_moving h t)
  | provedNormal => rfl
  | provedReverse => rfl
  | unproved => rfl

theorem State.youngestTag_setSlot {s : State} {k : SlotIx} {x : Slot} (h : x.zone = (s.slot k).zone) :
    (s.setSlot k x).youngestTag k = s.youngestTag k := by
  unfold State.youngestTag
  rw [State.slot_setSlot, h]
  rfl

theorem State.occupyFouling_of_new {s : State} {k : SlotIx} (hs : s.slotServing k = true)
    (hf : (s.slot k).foulingOccupied = false) :
    s.occupyFouling k
      = (s.setSlot k { s.slot k with foulingOccupied := true, ghostRaised := false }).stopUnderCut k :=
  if_pos (by simp [hs, hf])

/-- Settles O21: in service a newly occupied circuit begins an episode and stops a throw; any other report only sets the
line. -/
theorem foulingOccupiedStopsAThrow : Obligations.FoulingOccupiedStopsAThrow := by
  unfold Obligations.FoulingOccupiedStopsAThrow
  intro s k x
  have hslot (z : Slot) : (s.setSlot k z).slot k = z := State.slot_setSlot s k z
  refine ⟨fun hs hf thrown hp => ?stopped, fun hs hf hm => ?clear, fun h => ?line⟩
  case stopped =>
    have htag : (s.setSlot k { x with foulingOccupied := true, ghostRaised := false }).youngestTag k
        = s.youngestTag k := State.youngestTag_setSlot rfl
    have hbody := (State.occupyFouling_of_new hs hf).trans
      (State.stopUnderCut_of_moving (t := thrown) (by rw [hslot]; exact hp)
        (by rw [hslot]; exact State.service_ne_off_of_slotServing hs))
    rw [hslot, State.setSlot_setSlot, htag] at hbody
    have hserving := State.serving_of_slotServing hs
    exact Leaves.of_alarm (congrArg (finish s) hbody) rfl hserving rfl rfl
  case clear =>
    have hbody := (State.occupyFouling_of_new hs hf).trans
      (State.stopUnderCut_of_not_moving (by rw [hslot]; exact hm))
    exact Leaves.of_body (congrArg (finish s) hbody) rfl
  case line =>
    have hold : ¬(s.slotServing k && !(s.slot k).foulingOccupied) = true := by
      rcases h with h | h
      · simp [h]
      · simp [show (s.slot k).foulingOccupied = true from h]
    exact Leaves.of_body (congrArg (finish s) (if_neg hold)) rfl

/-! ### THROW_DEADLINE and PAUSE_END (R49, R50) -/

theorem execThrowDeadline_of_driving {s : State} {k : SlotIx} {target : Leg} {n deadline : Nat}
    (h : (s.slot k).point = .moving ⟨target, n, deadline, .driving⟩) :
    execThrowDeadline k s = finish s ((s.reach deadline).throwExpired k ⟨target, n, deadline, .driving⟩) := by
  unfold execThrowDeadline
  rw [h]

theorem execPauseEnd_of_pausing {s : State} {k : SlotIx} {target : Leg} {n deadline : Nat}
    (h : (s.slot k).point = .moving ⟨target, n, deadline, .pausing⟩) :
    execPauseEnd k s = finish s ((s.reach deadline).resumeThrow k ⟨target, n, deadline, .pausing⟩) := by
  unfold execPauseEnd
  rw [h]

/-- R49: with attempts left the drive rests for the pause. -/
theorem State.throwExpired_of_more (s : State) (k : SlotIx) (target : Leg) (n deadline : Nat) :
    s.throwExpired k ⟨target, n + 1, deadline, .driving⟩
      = s.setSlot k ((s.slot k).rest (.moving ⟨target, n, s.time + 250, .pausing⟩)) :=
  if_neg (Nat.succ_ne_zero n)

/-- R50: a throw without attempts left fails its slot. -/
theorem State.throwExpired_of_last {s : State} {k : SlotIx} (t : Throw) (h : t.attemptsLeft = 0)
    (hs : (s.slot k).service ≠ .off) :
    s.throwExpired k t = (s.setSlot k { s.slot k with
      point := .unproved, service := .failed, driveNormal := false, driveReverse := false }).raise
        (pointFailedIncident k (s.slotCfg k) t) := by
  refine (if_pos h).trans ?_
  rw [State.failSlot_eq (by simpa [Slot.rest] using hs), State.slot_setSlot, State.setSlot_setSlot,
    Slot.takenOut_of_not_moving (by rfl)]
  rfl

/-- Settles O23: with attempts left the throw pauses, with none it fails the slot, and a pause ends in a new drive. -/
theorem throwDeadlinesRetryOrFail : Obligations.ThrowDeadlinesRetryOrFail := by
  unfold Obligations.ThrowDeadlinesRetryOrFail
  intro s k target deadline hoff x now
  refine ⟨fun n hp => ?pause, ?fails, fun n hp => ?drive⟩
  case pause =>
    have hbody := execThrowDeadline_of_driving hp
    rw [State.throwExpired_of_more] at hbody
    exact Leaves.of_body hbody rfl
  case fails =>
    intro hp inc hs
    have hbody := execThrowDeadline_of_driving hp
    rw [State.throwExpired_of_last _ rfl (by exact hoff)] at hbody
    exact Leaves.of_alarm hbody rfl hs rfl rfl
  case drive => exact Leaves.of_body (execPauseEnd_of_pausing hp) rfl

end Sys2Proof.Machine
end

section
/-! SUPPORT. The timers of passages, queues, handoffs and the node (chapters 2, 4 to 8): what each expiry leaves, what
follows an event that has put a HOLD_STATE into the queue, and the ghost timers after every command. -/

namespace Sys2Proof.Machine

/-! ### Reports touch no slot -/

@[simp] theorem State.slots_captureAlarm (s : State) (inc : Incident) : (s.captureAlarm inc).slots = s.slots := by
  unfold State.captureAlarm
  split <;> rfl

@[simp] theorem State.slots_offerReport (s : State) (f : OutFrame) : (s.offerReport f).slots = s.slots := by
  unfold State.offerReport State.noteDiscard
  split
  · split
    · rfl
    · exact State.slots_captureAlarm _ _
  · rfl

@[simp] theorem State.slots_raise (s : State) (inc : Incident) : (s.raise inc).slots = s.slots := by
  unfold State.raise
  split <;> simp

@[simp] theorem State.slots_resolve (s : State) (n : Nat) (o : HandoffOutcome) : (s.resolve n o).slots = s.slots := by
  unfold State.resolve
  split <;> rfl

@[simp] theorem State.slots_lose (s : State) (n : Nat) : (s.lose n).slots = s.slots := by
  unfold State.lose
  split
  · split
    · rw [State.slots_resolve, State.slots_raise]
    · rfl
  · rfl

@[simp] theorem State.slots_secondAttempt (s : State) (n : Nat) : (s.secondAttempt n).slots = s.slots := by
  unfold State.secondAttempt
  split
  · rfl
  · split
    · rfl
    · split
      · exact State.slots_captureAlarm _ _
      · exact (State.slots_lose _ _).trans (State.slots_captureAlarm _ _)

@[simp] theorem State.slots_attemptExpired (s : State) (n : Nat) : (s.attemptExpired n).slots = s.slots := by
  unfold State.attemptExpired
  split
  · split <;> simp
  · rfl

@[simp] theorem State.slots_offer (s : State) (f : OutFrame) (o : Option Nat) : (s.offer f o).slots = s.slots := by
  unfold State.offer
  split
  · split
    · rfl
    · split
      · exact State.slots_captureAlarm _ _
      · exact (State.slots_attemptExpired _ _).trans (State.slots_captureAlarm _ _)
  · rfl

@[simp] theorem State.slots_offerHoldState (s : State) : s.offerHoldState.slots = s.slots := by
  unfold State.offerHoldState
  split
  · exact State.slots_offer _ _ _
  · rfl

@[simp] theorem State.slots_updateMask (s : State) : s.updateMask.slots = s.slots := by
  unfold State.updateMask
  split
  · rfl
  · exact State.slots_offerHoldState _

theorem State.slots_settle (b s : State) : (b.settle s).slots = (b.timeGhosts s).slots := by
  simp [State.settle]

/-! ### Ghost timers (R81, log 22) -/

theorem State.slot_timeGhost (b s : State) (k j : SlotIx) :
    (b.timeGhost s k).slot j
      = if j = k then (b.slot k).timeGhost (s.slot k) s.time (s.slotCfg k).gapTime else s.slot j :=
  State.slot_setSlot_eq_ite _ _ _ _

/-- The four slots are timed each for itself. -/
theorem State.slot_timeGhosts (b s : State) (k : SlotIx) :
    (b.timeGhosts s).slot k = (b.slot k).timeGhost (s.slot k) s.time (s.slotCfg k).gapTime := by
  have hk := mem_slotOrder k
  simp only [List.mem_cons, List.not_mem_nil, or_false] at hk
  unfold State.timeGhosts
  rcases hk with rfl | rfl | rfl | rfl <;> simp [State.slot_timeGhost] <;> rfl

theorem State.slot_settle (b s : State) (k : SlotIx) :
    (b.settle s).slot k = (b.slot k).timeGhost (s.slot k) s.time (s.slotCfg k).gapTime := by
  rw [← State.slot_timeGhosts]
  exact congrArg (fun v => v[k]) (State.slots_settle b s)

theorem State.time_of_reports {s u : State} (h : s.apartFromReports = u.apartFromReports) : s.time = u.time :=
  (congrArg State.time h :)

theorem State.config_of_reports {s u : State} (h : s.apartFromReports = u.apartFromReports) : s.config = u.config :=
  (congrArg State.config h :)

@[simp] theorem State.time_settle (b s : State) : (b.settle s).time = s.time :=
  State.time_of_reports (State.apartFromReports_settle b s)

@[simp] theorem State.config_settle (b s : State) : (b.settle s).config = s.config :=
  State.config_of_reports (State.apartFromReports_settle b s)

theorem State.slotCfg_settle (b s : State) (k : SlotIx) : (b.settle s).slotCfg k = s.slotCfg k := by
  unfold State.slotCfg State.cfg
  rw [State.config_settle]

@[simp] theorem Slot.ghost_timeGhost (b x : Slot) (now gap : Nat) : (b.timeGhost x now gap).ghost = x.ghost := by
  unfold Slot.timeGhost
  split
  · split <;> rfl
  · rfl

theorem Slot.ghostTimer_timeGhost_of_not_ghost {b x : Slot} {now gap : Nat} (h : x.ghost = false) :
    (b.timeGhost x now gap).ghostTimer = none := by
  unfold Slot.timeGhost
  rw [if_neg (by simp [h])]

theorem Slot.ghostTimer_timeGhost_of_begins {b x : Slot} {now gap : Nat} (h : x.ghost = true) (hb : b.ghost = false) :
    (b.timeGhost x now gap).ghostTimer = some (now + gap) := by
  unfold Slot.timeGhost
  rw [if_pos h, if_neg (by simp [hb])]

/-- R81: the ghost timers after every command. -/
theorem ghostTimers_after_exec {c : Instr} {s t : State} (k : SlotIx) (h : exec c s = .next t) :
    ((t.slot k).ghost = false → (t.slot k).ghostTimer = none)
      ∧ ((t.slot k).ghost = true → (s.slot k).ghost = false →
        (t.slot k).ghostTimer = some (t.time + (t.slotCfg k).gapTime)) := by
  obtain ⟨v, hv, -⟩ := keepsHold_exec s c
  obtain rfl : s.settle v = t := Host.Outcome.next.inj (hv.symm.trans h)
  rw [State.slot_settle, Slot.ghost_timeGhost, State.time_settle, State.slotCfg_settle]
  exact ⟨fun hg => Slot.ghostTimer_timeGhost_of_not_ghost hg, fun hg hb => Slot.ghostTimer_timeGhost_of_begins hg hb⟩

/-! ### Expiries of passages and queues (R28, R81, R82) -/

theorem State.expireGhost_of_running {s : State} {k : SlotIx} {d : Nat} (h : (s.slot k).ghostTimer = some d) :
    s.expireGhost k =
      if (s.slot k).ghostRaised = true then
        (s.reach d).setSlot k { s.slot k with ghostTimer := none, ghostRaised := true }
      else ((s.reach d).setSlot k { s.slot k with ghostTimer := none, ghostRaised := true }).raise (ghostIncident k) := by
  unfold State.expireGhost
  rw [h]

/-- A ghost timer that an event has stopped is not started by what follows while the condition stays. -/
theorem State.ghostTimer_settle_of_none {b s : State} {k : SlotIx} (h : (s.slot k).ghostTimer = none)
    (hg : (s.slot k).ghost = true → (b.slot k).ghost = true) : ((b.settle s).slot k).ghostTimer = none := by
  rw [State.slot_settle]
  unfold Slot.timeGhost
  split
  · rename_i hx
    rw [if_pos (hg hx)]
    exact h
  · rfl

theorem leaves_ghostExpiry {s : State} {k : SlotIx} {d : Nat} (hs : s.serving = true)
    (h : (s.slot k).ghostTimer = some d) :
    Leaves (.ghostExpiry k) s ({ s with time := max s.time d }.setSlot k { s.slot k with ghostRaised := true })
        (if (s.slot k).ghostRaised = true then [] else [.incident ⟨.ghostOccupancy, some k, 0, 0, .empty⟩ false])
      ∧ ∃ t, exec (.ghostExpiry k) s = .next t ∧ (t.slot k).ghostTimer = none := by
  have hsilent : ((s.reach d).setSlot k { s.slot k with ghostTimer := none, ghostRaised := true }).apartFromFrames
      = ({ s with time := max s.time d }.setSlot k { s.slot k with ghostRaised := true }).apartFromFrames := by
    rw [State.apartFromFrames_setSlot, State.apartFromFrames_setSlot]
    rfl
  have hbody := State.expireGhost_of_running h
  refine ⟨?_, s.settle (s.expireGhost k), rfl, ?_⟩
  · split
    · rename_i hr
      rw [if_pos hr] at hbody
      exact Leaves.of_finish (congrArg (finish s) hbody) (State.apartFromReports_of_frames hsilent)
        (fun _ => hsilent) rfl
    · rename_i hr
      rw [if_neg hr] at hbody
      refine Leaves.of_reported (congrArg (finish s) hbody) ?_ (List.forall_mem_singleton.mpr FrameKind.noConfusion)
      exact ((Reported.of_queue rfl).raise_notice (by simp) (by exact hs) _ rfl).congr_frames hsilent
  · have hslot : (s.expireGhost k).slot k = { s.slot k with ghostTimer := none, ghostRaised := true } := by
      rw [hbody]
      split
      · exact State.slot_setSlot _ _ _
      · unfold State.slot
        rw [State.slots_raise]
        exact State.slot_setSlot _ _ _
    refine State.ghostTimer_settle_of_none ?_ ?_
    · rw [hslot]
    · rw [hslot]
      exact id

theorem State.expireStall_of_running {s : State} {k : SlotIx} {i : Nat} {p : Passage} {d : Nat}
    (hp : (s.slot k).zone[i]? = some p) (h : p.stallTimer = some d) :
    s.expireStall k i = ((s.reach d).setPassage k i { p with stallTimer := none, stalled := true }).raise
      (stallIncident k (s.record p.record) p) := by
  unfold State.expireStall State.passage
  simp only [hp, h]

theorem State.expireOverdue_of_found {s : State} {k : SlotIx} {seq : Seq} {r : RecIx} {timing : QueueTiming}
    (hs : s.slotServing k = true) (hr : (s.slot k).queue.find? (fun i => s.queuedSeq i == seq) = some r)
    (ht : (s.record r).timing = some timing) :
    s.expireOverdue k seq = if timing.marked = true then s else s.markOverdue k r timing := by
  refine (if_pos hs).trans ?_
  simp only [hr, ht]

/-- Settles O25: each expiry of a running timer writes its mark and raises its notice; the ghost timers after a command
are those of its slots as they stand. -/
theorem stallGhostAndOverdueTimersDoTheirWork : Obligations.StallGhostAndOverdueTimersDoTheirWork := by
  unfold Obligations.StallGhostAndOverdueTimersDoTheirWork
  refine ⟨fun s k hs => ?_, fun c s t k h => ghostTimers_after_exec k h⟩
  have hserving := State.serving_of_slotServing hs
  refine ⟨fun i p d hp h => ?stall, fun d h => leaves_ghostExpiry hserving h, fun seq r timing hr ht =>
    ⟨fun hm => ?overdue, fun hm => ?marked⟩⟩
  case stall =>
    exact Leaves.of_notice (congrArg (finish s) (State.expireStall_of_running hp h)) rfl hserving rfl
  case overdue =>
    have hbody := (State.expireOverdue_of_found hs hr ht).trans (if_neg (Bool.eq_false_iff.mp hm))
    exact Leaves.of_notice (congrArg (finish s) hbody) rfl hserving rfl
  case marked =>
    exact Leaves.of_idle (congrArg (finish s) ((State.expireOverdue_of_found hs hr ht).trans (if_pos hm)))

/-! ### Reply timers (R90, R91) -/

theorem execReplyTimeout_of_context {s : State} {place : ContextPlace} {n : Nat} (h : s.handoffAt place = some n) :
    exec (.replyTimeout place) s = finish s (s.expireReply n) := by
  show execReplyTimeout place s = _
  unfold execReplyTimeout
  rw [h]

theorem State.expireReply_of_first {s : State} {n : Nat} {h : Handoff} {d : Nat} (hh : s.handoff? n = some h)
    (hs : h.status = .pending .first (some d)) : s.expireReply n = (s.reach d).secondAttempt n := by
  unfold State.expireReply
  simp only [hh, hs]

theorem State.expireReply_of_second {s : State} {n : Nat} {h : Handoff} {d : Nat} (hh : s.handoff? n = some h)
    (hs : h.status = .pending .second (some d)) : s.expireReply n = (s.reach d).lose n := by
  unfold State.expireReply
  simp only [hh, hs]

theorem State.isPending_of_handoff? {s : State} {n : Nat} {h : Handoff} {a : Attempt} {d : Option Nat}
    (hh : s.handoff? n = some h) (hs : h.status = .pending a d) : s.isPending n = true := by
  unfold State.isPending
  simp only [hh, hs]

/-- R91: with room the second attempt offers its copy, and nothing is discarded. -/
theorem State.secondAttempt_of_room {s : State} {n : Nat} {h : Handoff} (hh : s.handoff? n = some h)
    (hr : s.hasRoom 1) :
    s.secondAttempt n = (s.setStatus n (.pending .second none)).setQueue
      (enqueue (.offered (.handoff h.frame) (some n)) s.port.queue).1 := by
  have hnone := enqueue_of_room (.offered (.handoff h.frame) (some n)) s.port.queue hr
  unfold State.secondAttempt
  rw [hh]
  dsimp only
  split
  · rename_i q hq
    rw [hq]
  · rename_i q e hq
    rw [hq] at hnone
    exact absurd hnone (by simp)

/-- R94, R95: a context that stands in no wait-list entry resolves in its passage. -/
theorem State.resolve_of_not_waiting {s : State} {n : Nat} (h : ∀ e ∈ s.waitList, e.handoff ≠ n)
    (o : HandoffOutcome) : s.resolve n o = s.setStatus n (.resolved o) := by
  have hfind : s.waitList.find? (fun e => e.handoff == n) = none :=
    List.find?_eq_none.mpr fun e he => by simpa using h e he
  unfold State.resolve
  rw [hfind]

/-- R94, R95: a context in the wait list leaves it, and its record is freed. -/
theorem State.resolve_of_waiting {s : State} {n : Nat} {before after : List WaitEntry} {e : WaitEntry}
    (hw : s.waitList = before ++ e :: after) (he : e.handoff = n) (hb : ∀ x ∈ before, x.handoff ≠ n)
    (o : HandoffOutcome) :
    s.resolve n o = ({ s with waitList := before ++ after }.dropHandoff n).freeRecord e.record := by
  have hfind : s.waitList.find? (fun e => e.handoff == n) = some e := by
    rw [hw, List.find?_append, List.find?_eq_none.mpr fun x hx => by simpa using hb x hx]
    simp [he]
  have herase : s.waitList.eraseP (fun e => e.handoff == n) = before ++ after := by
    rw [hw, List.eraseP_append_right _ fun x hx => by simpa using hb x hx]
    simp [he]
  unfold State.resolve
  rw [hfind]
  dsimp only
  rw [herase]

/-- R91, R129: the alarm of a lost handoff, and then its end. -/
theorem Offered.lose {s v : State} {n : Nat} {h : Handoff} (hq : v.port.queue = s.port.queue)
    (hv : v.serving = true) (hh : v.handoff? n = some h) (hp : v.isPending n = true) :
    ∃ w, v.lose n = w.resolve n .lost ∧ w.waitList = v.waitList
      ∧ Offered s w ({ v with faultLatch := true }.captureAlarm (v.lostIncident h)) [v.reportOf (v.lostIncident h)] := by
  refine ⟨_, State.lose_of_pending v n h hh hp, State.waitList_raise _ _, ?_⟩
  exact (Offered.of_queue (v := { v with faultLatch := true }) hq).raise_alarm (by simp) hv _ rfl

/-- Settles O26: attempt 1 offers its frame again; attempt 2 is lost, in its passage or in the wait list. -/
theorem replyTimeoutsTryAgainOrLose : Obligations.ReplyTimeoutsTryAgainOrLose := by
  unfold Obligations.ReplyTimeoutsTryAgainOrLose
  intro s place n h d hserving hplace hh s1 r inc
  have hnumber : h.number = n := State.number_of_handoff? hh
  have hexec := execReplyTimeout_of_context hplace
  refine ⟨fun hs => ?again, fun hs hw => ?passage, fun hs before e after hw he hb => ?waiting⟩
  case again =>
    rw [State.expireReply_of_first hh hs] at hexec
    refine Leaves.of_reported hexec ?_ (List.forall_mem_singleton.mpr FrameKind.noConfusion)
    have hquiet : Reported s s1 s1 [] := Reported.of_queue rfl
    refine hquiet.offered (o := some n) (by simp) ?_ (fun hroom _ => ?_)
    · exact State.apartFromReports_secondAttempt _ _
    · have hbody : (s.reach d).secondAttempt n = _ := State.secondAttempt_of_room (s := s1) hh hroom
      rw [hbody]
      exact ⟨rfl, rfl⟩
  case passage =>
    rw [State.expireReply_of_second hh hs] at hexec
    obtain ⟨w, hlose, hwait, hoffered⟩ := Offered.lose (s := s) (v := s1) rfl hserving hh
      (State.isPending_of_handoff? hh hs)
    have hbody := hlose.trans (State.resolve_of_not_waiting (by rw [hwait]; exact hw) _)
    refine Leaves.of_reported (hexec.trans (congrArg (finish s) hbody)) ?_ (s.kind_reportOf_ne_holdState _)
    exact (hoffered.map (fun x => x.setStatus n (.resolved .lost)) (fun _ _ _ _ => rfl)).reported
  case waiting =>
    rw [State.expireReply_of_second hh hs] at hexec
    obtain ⟨w, hlose, hwait, hoffered⟩ := Offered.lose (s := s) (v := s1) rfl hserving hh
      (State.isPending_of_handoff? hh hs)
    have hbody := hlose.trans (State.resolve_of_waiting (by rw [hwait]; exact hw) he hb _)
    refine Leaves.of_reported (hexec.trans (congrArg (finish s) hbody)) ?_ (s.kind_reportOf_ne_holdState _)
    have hmap := hoffered.map
      (fun x => ({ x with waitList := before ++ after }.dropHandoff n).freeRecord e.record) (fun _ _ _ _ => rfl)
    refine hmap.reported.congr_frames ?_
    unfold State.captureAlarm
    dsimp only
    split <;> rfl

end Sys2Proof.Machine
end

section
/-! SUPPORT. Node control, the node's own timers and the frames that are not taken (chapters 6 to 10): what follows an
event outside service and one that has put a HOLD_STATE into the queue, and how the frames heard are told apart. -/

namespace Sys2Proof.Machine

/-! ### What follows an event outside service -/

theorem State.updateMask_outside_service {s : State} (hs : s.serving ≠ true) :
    s.updateMask.port = s.port ∧ s.updateMask.apartFromFrames = s.apartFromFrames := by
  by_cases hf : s.formMask = s.holdMask
  · rw [State.updateMask_of_formed hf]
    exact ⟨rfl, rfl⟩
  · rw [State.updateMask_of_not_serving hf hs]
    exact ⟨rfl, rfl⟩

/-- R141: outside service what follows an event offers nothing. -/
theorem State.settle_outside_service (b : State) {s : State} (hs : s.serving ≠ true) :
    (b.settle s).port = s.port ∧ (b.settle s).apartFromFrames = s.apartFromFrames := by
  have hghosts : (b.timeGhosts s).serving ≠ true := hs
  obtain ⟨hp1, hf1⟩ := State.updateMask_outside_service hghosts
  obtain ⟨hp2, hf2⟩ := State.updateMask_outside_service (s := (b.timeGhosts s).updateMask)
    (by rw [State.serving_updateMask]; exact hghosts)
  unfold State.settle
  rw [State.port_setLines, State.apartFromFrames_setLines, hp2, hf2, hp1, hf1, State.apartFromFrames_timeGhosts]
  exact ⟨rfl, rfl⟩

/-! ### Axles in the census (R166) -/

theorem State.slotServing_eq_false {s : State} {k : SlotIx} (h : s.nodeState ≠ .inService ∨ (s.slot k).service = .off) :
    ¬s.slotServing k = true := by
  unfold State.slotServing State.serving
  rcases h with h | h <;> simp [h]

/-- R153, R166: before service an alarm goes to the capture alone. -/
theorem State.raise_outside_service {s : State} (hs : s.serving ≠ true) {inc : Incident}
    (ha : isAlarm inc.kind = true) : s.raise inc = s.captureAlarm inc := by
  unfold State.raise State.offerReport
  rw [if_pos ha, if_neg (by rwa [State.captureAlarm_serving])]

/-- R59, R166: an axle of the census at a slot outside it, or at any other time, is no event. -/
theorem State.censusAxle_of_none {s : State} {k : SlotIx} (h : ¬(s.nodeState = .census ∧ k.val < s.cfg.slotCount))
    (x : Sensor) (d : Direction) : s.censusAxle k x d = s := if_neg h

/-- Settles O7: in the census a sensor axle goes to the capture; the four sensor rows are that axle there, and do nothing
where the slot is not in service. -/
theorem censusAxlesGoToTheCaptureAlone : Obligations.CensusAxlesGoToTheCaptureAlone := by
  unfold Obligations.CensusAxlesGoToTheCaptureAlone
  intro s k x d
  refine ⟨fun hs hk => ?census, fun h => ?noEvent, fun hs => ?rows, fun hs h => ?outside⟩
  case census =>
    have hserving : s.serving ≠ true := by simp [State.serving, hs]
    have hbody : s.censusAxle k x d = s.captureAlarm (strayAxleIncident k x d) :=
      (if_pos ⟨hs, hk⟩).trans (State.raise_outside_service hserving rfl)
    obtain ⟨hport, hframes⟩ := State.settle_outside_service s
      (s := s.captureAlarm (strayAxleIncident k x d)) (by rwa [State.captureAlarm_serving])
    refine ⟨_, congrArg (finish s) hbody, ?_, hframes⟩
    rw [hport, State.captureAlarm_port]
  case noEvent => exact Leaves.of_idle (congrArg (finish s) (State.censusAxle_of_none h x d))
  case rows =>
    have hserving : ¬s.slotServing k = true := State.slotServing_eq_false (.inl (by simp [hs]))
    exact ⟨if_neg hserving, if_neg hserving, fun leg => if_neg hserving, fun leg => if_neg hserving⟩
  case outside =>
    have hserving : ¬s.slotServing k = true := State.slotServing_eq_false h
    have hquiet (x : Sensor) (d : Direction) : s.censusAxle k x d = s :=
      State.censusAxle_of_none (fun hc => hs hc.1) x d
    refine ⟨?_, ?_, fun leg => ?_, fun leg => ?_⟩
    all_goals exact Leaves.of_idle ((if_neg hserving).trans (congrArg (finish s) (hquiet _ _)))

/-! ### Reset (R162) -/

/-- Before service nothing raises a reason but the fault latch and a frozen capture; a slot that is OFF and holds nothing
raises none. -/
def Slot.isBlank (x : Slot) : Prop :=
  x.service = .off ∧ x.queue = [] ∧ x.zone = [] ∧ x.ghostTimer = none

theorem State.formMask_of_blank {s : State} (hx : ∀ k, (s.slot k).isBlank) (hl : s.faultLatch = false)
    (hc : s.capture = none) : s.formMask = {} := by
  obtain ⟨h0, q0, z0, -⟩ := hx 0
  obtain ⟨h1, q1, z1, -⟩ := hx 1
  obtain ⟨h2, q2, z2, -⟩ := hx 2
  obtain ⟨h3, q3, z3, -⟩ := hx 3
  unfold State.formMask
  simp [anySlot, State.inState, State.pressed, State.hasOverdue, Slot.hasStall, h0, q0, z0, h1, q1, z1, h2, q2, z2, h3,
    q3, z3, hl, hc]

theorem State.timeGhosts_of_blank (b : State) {s : State} (hx : ∀ k, (s.slot k).isBlank) : b.timeGhosts s = s := by
  have hone (k : SlotIx) : b.timeGhost s k = s := by
    obtain ⟨hoff, -, -, ht⟩ := hx k
    have hslot : (b.slot k).timeGhost (s.slot k) s.time (s.slotCfg k).gapTime = s.slot k := by
      have hg : ¬(s.slot k).ghost = true := by simp [Slot.ghost, hoff]
      unfold Slot.timeGhost
      rw [if_neg hg, ← ht]
    unfold State.timeGhost
    rw [hslot, State.setSlot_self]
  unfold State.timeGhosts
  rw [hone, hone, hone, hone]

/-- A state whose mask and lines are those after reset is left by what follows an event as it is. -/
theorem State.settle_of_blank (b : State) {s : State} (hx : ∀ k, (s.slot k).isBlank) (hl : s.faultLatch = false)
    (hc : s.capture = none) (hm : s.holdMask = {}) (hf : s.faultLine = false) (hg : s.signal = .stop)
    (hn : s.nodeState = .reset ∨ s.nodeState = .loading) : b.settle s = s := by
  have hmask : s.formMask = s.holdMask := (State.formMask_of_blank hx hl hc).trans hm.symm
  have hsignal : s.decideSignal = s.signal := by
    rw [hg]
    refine State.decideSignal_of_not_mayRelease fun ⟨hin, _⟩ => ?_
    rcases hn with hn | hn <;> simp [hn] at hin
  have hline : s.decideFaultLine = s.faultLine := by
    rw [hf, Bool.eq_false_iff]
    intro h
    rcases (State.decideFaultLine_iff s).mp h with h | ⟨k, hk⟩ | h
    · exact h hc
    · obtain ⟨hoff, -⟩ := hx k
      rw [hoff] at hk
      exact ServiceState.noConfusion hk
    · rcases hn with hn | hn <;> simp [hn] at h
  unfold State.settle
  rw [State.timeGhosts_of_blank b hx, State.updateMask_of_formed hmask, State.updateMask_of_formed hmask]
  unfold State.setLines
  rw [hsignal, hline]

/-- The node as its release from reset leaves it. -/
def State.released (s : State) : State :=
  { State.reset with slots := s.slots.map Slot.reset, pending := s.pending }

theorem State.slot_released (s : State) (k : SlotIx) : s.released.slot k = (s.slot k).reset := by
  simp [State.released, State.slot]

theorem State.record_reset (i : RecIx) : State.reset.record i = Record.blank := by
  simp [State.record, State.reset]

theorem exec_reset (s : State) : exec .reset s = .next { s.released with nodeState := .reset } :=
  congrArg Host.Outcome.next (State.settle_of_blank s (s := s.assertReset)
    (fun k => by rw [State.slot_assertReset]; exact ⟨rfl, rfl, rfl, rfl⟩) rfl rfl rfl rfl rfl (.inl rfl))

theorem exec_resetRelease_of_reset (s : State) :
    exec .resetRelease { s.released with nodeState := .reset } = .next s.released :=
  congrArg Host.Outcome.next (State.settle_of_blank _ (s := s.released)
    (fun k => by rw [State.slot_released]; exact ⟨rfl, rfl, rfl, rfl⟩) rfl rfl rfl rfl rfl (.inr rfl))

/-- Settles O4: RESET writes the values after reset, which what follows an event leaves, and RESET_RELEASE ends it. -/
theorem resetLeavesEveryBlockAtItsResetValue : Obligations.ResetLeavesEveryBlockAtItsResetValue := by
  unfold Obligations.ResetLeavesEveryBlockAtItsResetValue
  refine ⟨fun s => ⟨{ s.released with nodeState := .reset }, s.released, exec_reset s, exec_resetRelease_of_reset s,
    ?values⟩, fun s => ⟨fun hs => ?release, fun hs => ?noEvent⟩⟩
  case values =>
    have hslot (k : SlotIx) : s.released.slot k = (s.slot k).reset := s.slot_released k
    refine ⟨rfl, rfl, rfl, rfl, rfl, rfl, State.record_reset, rfl, fun k => ?_, ?_⟩
    · rw [hslot]
      simp [Slot.reset, Slot.afterReset]
    · simp [State.released, State.reset, Aspect.lines, Port.afterReset]
  case release => exact Leaves.of_body (congrArg (finish s) (if_pos hs)) rfl
  case noEvent => exact Leaves.of_idle (congrArg (finish s) (if_neg hs))

/-! ### A HOLD_STATE in the queue (R131, R148) -/

section
variable {s : State} (h : s.port.queue.any TxEntry.isHoldState = true)
include h

theorem State.updateMask_updateMask_of_any : s.updateMask.updateMask = s.updateMask :=
  State.updateMask_of_formed (by rw [State.formMask_updateMask_of_any h, State.holdMask_updateMask])

/-- R148: once a HOLD_STATE stands in the queue, what follows an event forms the mask once. -/
theorem State.settle_of_any (b : State) : b.settle s = (b.timeGhosts s).updateMask.setLines :=
  congrArg State.setLines (State.updateMask_updateMask_of_any (s := b.timeGhosts s) h)

variable (hs : s.serving = true)
include hs

/-- R148: a mask formed while a HOLD_STATE stands in the queue takes its place there. -/
theorem State.updateMask_of_any :
    s.updateMask = if s.formMask = s.holdMask then s
      else s.remasked.setQueue (replaceHoldState (.holdState s.formMask .inService) s.port.queue) := by
  split
  · rename_i hf
    exact State.updateMask_of_formed hf
  · rename_i hf
    rw [State.updateMask_of_serving hf hs, State.offer_holdState_of_any (s := s.remasked) hs _ _ h,
      show s.nodeState = .inService from beq_iff_eq.mp hs]
    rfl

theorem State.apartFromFrames_updateMask_of_any : s.updateMask.apartFromFrames = s.apartFromFrames := by
  rw [State.updateMask_of_any h hs]
  split <;> rfl

theorem State.apartFromFrames_settle_of_any (b : State) : (b.settle s).apartFromFrames = s.apartFromFrames := by
  have hmask := State.apartFromFrames_updateMask_of_any (s := b.timeGhosts s) h hs
  rw [State.settle_of_any h, State.apartFromFrames_setLines, hmask, State.apartFromFrames_timeGhosts]

end

/-- The frame of an entry once the mask stands in the HOLD_STATE of the queue. -/
def TxEntry.masked (m : HoldMask) (e : TxEntry) : OutFrame :=
  if e.isHoldState = true then .holdState m .inService else e.frame

/-- R131, R148: the frames after an event that has left a HOLD_STATE with its mask in the queue. -/
theorem State.frames_settle_of_any {s : State} (hs : s.serving = true)
    (h : s.port.queue.any TxEntry.isHoldState = true)
    (hm : ∀ e ∈ s.port.queue, e.isHoldState = true → e.frame = .holdState s.holdMask .inService) (b : State) :
    (b.settle s).port.queue.map TxEntry.frame = s.port.queue.map (TxEntry.masked (b.settle s).holdMask) := by
  have hmask := State.updateMask_of_any (s := b.timeGhosts s) h hs
  rw [State.settle_of_any h, State.port_setLines, State.holdMask_setLines, hmask]
  split
  · refine List.map_congr_left fun e he => ?_
    unfold TxEntry.masked
    split
    · rename_i hh
      exact hm e he hh
    · rfl
  · show (replaceHoldState _ s.port.queue).map TxEntry.frame = _
    unfold replaceHoldState
    rw [List.map_map]
    refine List.map_congr_left fun e _ => ?_
    unfold TxEntry.masked
    dsimp only [Function.comp_def]
    split <;> rfl

/-- R131, R132: a period timer that an event has restarted runs from the event's time whatever the mask does. -/
theorem State.periodTimer_settle_of_timed (b : State) {s : State} (hs : s.serving = true)
    (h : s.periodTimer = some (s.time + 1000)) : (b.settle s).periodTimer = some ((b.settle s).time + 1000) := by
  have hkeep {u : State} (hu : u.serving = true) (ht : u.periodTimer = some (u.time + 1000)) :
      u.updateMask.periodTimer = some (u.updateMask.time + 1000) := by
    by_cases hf : u.formMask = u.holdMask
    · rwa [State.updateMask_of_formed hf]
    · exact State.periodTimer_updateMask hf hu
  have hghosts : (b.timeGhosts s).serving = true := hs
  unfold State.settle
  rw [State.periodTimer_setLines, State.time_setLines]
  exact hkeep (by rwa [State.serving_updateMask]) (hkeep hghosts h)

/-! ### The node's timers (R124, R132, R136, R151) -/

/-- R132: the expiry of the period timer offers a HOLD_STATE and restarts the timer. -/
theorem State.periodTimer_offerHoldState {s : State} (hs : s.serving = true) :
    s.offerHoldState.periodTimer = some (s.offerHoldState.time + 1000) := by
  have htime : s.offerHoldState.time = s.time := State.time_of_reports s.apartFromReports_offerHoldState
  have hbody : s.offerHoldState = _ := if_pos hs
  rw [htime, hbody]
  obtain ⟨-, -, hp, -⟩ := State.onlyOffers_offer
    (s := { s with periodTimer := some (s.time + Config.periodTime) }) hs (.holdState s.holdMask s.nodeState) none
  exact hp

/-- R147, R148: with room the HOLD_STATE of the period timer enters the queue. -/
theorem State.offerHoldState_of_room {s : State} (hs : s.serving = true) (hr : s.hasRoom 1) :
    s.offerHoldState = { s with periodTimer := some (s.time + Config.periodTime) }.setQueue
      (enqueue (.offered (.holdState s.holdMask .inService) none) s.port.queue).1 := by
  have hin : s.nodeState = .inService := beq_iff_eq.mp hs
  rw [← hin]
  exact (if_pos hs).trans ((State.offer_of_room { s with periodTimer := some (s.time + Config.periodTime) }
    (.holdState s.holdMask s.nodeState) none hr).trans (if_pos hs))

/-- R131, R148: a HOLD_STATE that an event has left with its mask in the queue stands there with the mask as it then
is. -/
theorem State.holdsFrame_settle_of_holdsFrame {s : State} (hs : s.serving = true)
    (h : s.holdsFrame (.holdState s.holdMask .inService)) (b : State) :
    (b.settle s).holdsFrame (.holdState (b.settle s).holdMask .inService) := by
  have hany := State.any_isHoldState_of_holdsFrame h
  have hmask := State.updateMask_of_any (s := b.timeGhosts s) hany hs
  rw [State.settle_of_any hany]
  unfold State.holdsFrame
  rw [State.port_setLines, State.holdMask_setLines, hmask]
  split
  · exact h
  · obtain ⟨y, hy, hyf⟩ := exists_mem_replaceHoldState (.holdState (b.timeGhosts s).formMask .inService) hany
    exact List.mem_map.mpr ⟨y, hy, hyf⟩

/-- R132: with room the HOLD_STATE of the period timer stands in the queue, with the mask as it then is. -/
theorem State.holdsFrame_settle_offerHoldState (b : State) {s : State} (hs : s.serving = true) (hr : s.hasRoom 1) :
    (b.settle s.offerHoldState).apartFromFrames = s.apartFromFrames
      ∧ (b.settle s.offerHoldState).holdsFrame (.holdState (b.settle s.offerHoldState).holdMask .inService) := by
  have hframes := State.apartFromFrames_offerHoldState_of_room s hr
  have hserving : s.offerHoldState.serving = true := by rw [State.offerHoldState_of_room hs hr]; exact hs
  have hholds : s.offerHoldState.holdsFrame (.holdState s.offerHoldState.holdMask .inService) := by
    rw [State.offerHoldState_of_room hs hr]
    obtain ⟨x, hx, hxf⟩ := enqueue_mem (.offered (.holdState s.holdMask .inService) none) s.port.queue hr
    exact List.mem_map.mpr ⟨x, hx, hxf⟩
  generalize s.offerHoldState = v at hframes hserving hholds ⊢
  exact ⟨(State.apartFromFrames_settle_of_any (State.any_isHoldState_of_holdsFrame hholds) hserving b).trans hframes,
    State.holdsFrame_settle_of_holdsFrame hserving hholds b⟩

theorem State.expireSilence_of_present {s : State} {n d : Nat} {e : RosterEntry} (he : s.rosterEntry? n = some e)
    (hp : e.presence = .present) (hh : e.lastHeard = some d) : s.expireSilence n = s.silence n d := by
  unfold State.expireSilence
  simp only [he, hp, hh]

theorem State.roster_of_reports {s u : State} (h : s.apartFromReports = u.apartFromReports) : s.roster = u.roster :=
  (congrArg State.roster h :)

/-- R125: a silent entry of the roster holds the signal at STOP. -/
theorem State.signal_settle_of_silent (b : State) {s : State} {e : RosterEntry} (he : e ∈ s.roster)
    (hp : e.presence = .silent) : (b.settle s).signal = .stop := by
  rw [State.signal_settle]
  refine State.decideSignal_of_not_mayRelease fun ⟨_, _, hclear, _⟩ => ?_
  have hroster : (b.settle s).roster = s.roster := State.roster_of_reports (State.apartFromReports_settle b s)
  obtain ⟨hpresent, -⟩ := hclear e (by rw [hroster]; exact he)
  rw [hp] at hpresent
  exact Presence.noConfusion hpresent

/-- Settles O27: each of the four expiries writes its block; the silent entry decides the signal, and the HOLD_STATE of
the period timer finds its place where there is room. -/
theorem nodeTimersDoTheirWork : Obligations.NodeTimersDoTheirWork := by
  unfold Obligations.NodeTimersDoTheirWork
  intro s d
  refine ⟨fun h => ?interval, fun n e he hp hh => ⟨?silence, ?signal⟩, fun h => ?retry, fun hs h => ?period⟩
  case interval =>
    refine Leaves.of_body (u := { s.reach d with releaseInterval := none }) ?_ rfl
    show execReleaseIntervalEnd s = _
    unfold execReleaseIntervalEnd
    rw [h]
  case silence =>
    exact Leaves.of_body (congrArg (finish s) (State.expireSilence_of_present he hp hh)) rfl
  case signal =>
    refine ⟨_, congrArg (finish s) (State.expireSilence_of_present he hp hh), ?_⟩
    have hstation : e.station = n := by simpa using List.find?_some he
    refine State.signal_settle_of_silent s (e := { e with presence := .silent }) ?_ rfl
    exact List.mem_map.mpr ⟨e, List.mem_of_find?_eq_some he, if_pos hstation⟩
  case retry =>
    refine Leaves.of_body (u := (s.reach d).setPort { s.port with retry := .attemptPending }) ?_ rfl
    show execMuteRetryExpiry s = _
    unfold execMuteRetryExpiry
    rw [h]
  case period =>
    have hreach : (s.reach d).serving = true := hs
    have hexec : exec .periodTimerExpiry s = finish s (s.reach d).offerHoldState := by
      show execPeriodTimerExpiry s = _
      unfold execPeriodTimerExpiry
      rw [h]
    refine ⟨_, hexec, ?_, ?_, fun hr => State.holdsFrame_settle_offerHoldState s hreach hr⟩
    · rw [State.apartFromReports_settle, State.apartFromReports_offerHoldState]
      rfl
    · refine State.periodTimer_settle_of_timed s ?_ (State.periodTimer_offerHoldState hreach)
      unfold State.offerHoldState
      rw [if_pos hreach]
      exact (congrArg (· == NodeState.inService) (State.onlyOffers_offer (s := { s.reach d with
        periodTimer := some ((s.reach d).time + Config.periodTime) }) hreach _ none).1).trans hreach

/-! ### Frames that no block takes (R135, R142, R143, R146) -/

theorem State.listening_iff (s : State) :
    s.listening = true ↔ s.nodeState = .census ∨ s.nodeState = .inService := by
  simp [State.listening]

/-- R142, R146: outside service, and before the port has its footing, nothing is heard. -/
theorem State.hear_of_deaf {s : State} (h : s.nodeState ≠ .inService ∨ s.port.seenIdle = false) (origin : Station)
    (act : State → State) : s.hear origin act = s :=
  if_neg fun ⟨hs, hidle⟩ => h.elim (fun hn => hn (beq_iff_eq.mp hs)) (fun hi => by simp [hi] at hidle)

/-- R135, R146: the node's own frames only refresh the roster. -/
theorem State.hear_of_own {s : State} {origin : Station} (hs : s.nodeState = .inService)
    (hidle : s.port.seenIdle = true) (hown : origin.toNat = s.cfg.node) (act : State → State) :
    s.hear origin act = s.refreshed origin := by
  unfold State.hear
  rw [if_pos ⟨beq_iff_eq.mpr hs, hidle⟩, if_pos hown, State.refreshRoster_of_serving hs]

theorem State.takeNothing_of_heard {s : State} (hs : s.nodeState = .inService) (hidle : s.port.seenIdle = true)
    (origin : Station) : s.takeNothing origin = s.refreshed origin := by
  by_cases hown : origin.toNat = s.cfg.node
  · exact State.hear_of_own hs hidle hown _
  · exact State.hear_of_hears ⟨hs, hidle, hown⟩ _

theorem port_queue_refreshed (s : State) (origin : Station) : (s.refreshed origin).port.queue = s.port.queue :=
  congrArg Port.queue (s.port_refreshed origin)

/-- Settles O31: an idle bus and a discarded frame write the port's footing alone, and a frame that no block takes
refreshes the roster. -/
theorem framesNotTakenLeaveNoTrace : Obligations.FramesNotTakenLeaveNoTrace := by
  unfold Obligations.FramesNotTakenLeaveNoTrace
  intro s
  have hdropped {bits : List Bool} {reason : DiscardReason} (h : judge bits = .discarded reason) :
      exec (.frameDiscarded bits) s = finish s (s.dropFrame reason) := by
    show execFrameDiscarded bits s = _
    unfold execFrameDiscarded
    rw [h]
  refine ⟨fun h => ?idle, fun hc hs => ?deaf, fun bits reason h => ⟨fun hu hl => ?unreadable, fun hu => ?dropped⟩,
    fun origin => ⟨fun hs hidle hr => ?refreshed, fun h => ?untouched⟩⟩
  case idle => exact Leaves.of_body (if_pos ((State.listening_iff s).mpr h)) rfl
  case deaf => exact Leaves.of_idle (if_neg (mt (State.listening_iff s).mp (not_or.mpr ⟨hc, hs⟩)))
  case unreadable =>
    have hbody : s.dropFrame reason = s.setPort { s.port with seenIdle := false } :=
      if_pos ⟨(State.listening_iff s).mpr hl, hu⟩
    exact Leaves.of_body ((hdropped h).trans (congrArg (finish s) hbody)) rfl
  case dropped =>
    have hbody : s.dropFrame reason = s := by
      refine if_neg fun ⟨hl, hr⟩ => ?_
      rcases hu with hu | ⟨hc, hs⟩
      · rw [hu] at hr
        exact Bool.noConfusion hr
      · exact ((State.listening_iff s).mp hl).elim hc hs
    exact Leaves.of_idle ((hdropped h).trans (congrArg (finish s) hbody))
  case refreshed =>
    have hbody := (State.takeNothing_of_heard hs hidle origin).trans (State.refreshed_of_crest hr origin)
    exact Leaves.of_body (congrArg (finish s) hbody) rfl
  case untouched =>
    have hbody : s.takeNothing origin = s := by
      by_cases hdeaf : s.nodeState ≠ .inService ∨ s.port.seenIdle = false
      · exact State.hear_of_deaf hdeaf origin _
      · obtain ⟨hs, hidle⟩ := not_or.mp hdeaf
        have hr : s.cfg.role ≠ .crest := (h.resolve_left hs).resolve_left hidle
        exact (State.takeNothing_of_heard (not_not.mp hs) (by simpa using hidle) origin).trans (if_neg hr)
    exact Leaves.of_idle (congrArg (finish s) hbody)

/-! ### Frames to others (R98, R135, R146) -/

/-- R146: a frame to another station, and the node's own, act on nothing but the roster. -/
theorem State.hearTarget_of_other {s : State} {origin : Station} {target : Byte} (hs : s.nodeState = .inService)
    (hidle : s.port.seenIdle = true) (h : origin.toNat = s.cfg.node ∨ target.toNat ≠ s.cfg.node)
    (act : State → State) : s.hearTarget origin target act = s.refreshed origin := by
  by_cases hown : origin.toNat = s.cfg.node
  · exact State.hear_of_own hs hidle hown _
  · refine (State.hear_of_hears ⟨hs, hidle, hown⟩ _).trans (if_neg ?_)
    rw [State.cfg_refreshed]
    exact h.resolve_left hown

/-- The frames that stand as commands of their own: broadcasts, frames of a station to this one, and commands of the
yard computer. -/
theorem exec_frame_cases {c : Instr} {origin : Station} (hc : frameOrigin c = some origin) (s : State) :
    (frameTarget c = none ∧ isYardCommand c = false ∧ ∃ act, exec c s = finish s (s.hear origin act))
    ∨ ∃ target, frameTarget c = some target
        ∧ ((isYardCommand c = false ∧ ∃ act, exec c s = finish s (s.hearTarget origin target act))
          ∨ ∃ act, exec c s = finish s (s.hearYard origin target act)) := by
  cases c
  case start | holdState =>
    obtain rfl := Option.some.inj hc
    exact .inl ⟨rfl, rfl, _, rfl⟩
  case handoff | handoffReply =>
    obtain rfl := Option.some.inj hc
    exact .inr ⟨_, rfl, .inl ⟨rfl, _, rfl⟩⟩
  case cutEntry | entryWithdraw | listClear | releaseOne | trackClose | trackOpen | restartAck | slotBlock | slotFree
      | slotFlush | incidentClear | watchSet | watchClear | statusQuery =>
    obtain rfl := Option.some.inj hc
    exact .inr ⟨_, rfl, .inr ⟨_, rfl⟩⟩
  all_goals exact absurd hc (by simp [frameOrigin])

/-- Settles O35: the three ways in which a frame is heard (`exec_frame_cases`), each outside service, and each of a frame
that is not for this node. -/
theorem framesToOthersAreNotTaken : Obligations.FramesToOthersAreNotTaken := by
  unfold Obligations.FramesToOthersAreNotTaken
  intro c s origin hc
  refine ⟨fun hdeaf => Leaves.of_idle ?_, fun hs hidle h => Leaves.of_body ?_ (port_queue_refreshed s origin)⟩
  · rcases exec_frame_cases hc s with ⟨-, -, act, hexec⟩ | ⟨target, -, ⟨-, act, hexec⟩ | ⟨act, hexec⟩⟩
    all_goals exact hexec.trans (congrArg (finish s) (State.hear_of_deaf hdeaf origin _))
  · rcases exec_frame_cases hc s with ⟨ht, hy, act, hexec⟩ | ⟨target, ht, ⟨hy, act, hexec⟩ | ⟨act, hexec⟩⟩
    · have hown : origin.toNat = s.cfg.node := by simpa [ht, hy] using h
      exact hexec.trans (congrArg (finish s) (State.hear_of_own hs hidle hown _))
    · have hother : origin.toNat = s.cfg.node ∨ target.toNat ≠ s.cfg.node := by simpa [ht, hy] using h
      exact hexec.trans (congrArg (finish s) (State.hearTarget_of_other hs hidle hother _))
    · have hnot : ¬s.takesCommand origin target := by
        rintro ⟨⟨-, -, hown⟩, htarget, hyard⟩
        rcases h with h | ⟨x, hx, hne⟩ | ⟨-, h⟩
        · exact hown h
        · obtain rfl : target = x := Option.some.inj (ht.symm.trans hx)
          exact hne htarget
        · exact h hyard
      exact hexec.trans (congrArg (finish s)
        ((State.hearYard_of_not_takesCommand hnot _).trans (State.takeNothing_of_heard hs hidle origin)))

/-! ### Role and slot arguments (R159) -/

theorem crestOnly_of_tree {s : State} (hr : s.cfg.role = .tree) (act : State → CommandResult × State) :
    crestOnly s act = (.refusedRole, s) := if_neg (by simp [hr])

theorem slotOfNat_eq_some_iff {n : Nat} {k : SlotIx} : slotOfNat n = some k ↔ k.val = n := by
  unfold slotOfNat
  split
  · rw [Option.some.injEq, Fin.ext_iff]
    exact eq_comm
  · rename_i hn
    have := k.isLt
    simp only [reduceCtorEq, false_iff]
    omega

theorem slotArgument_of_off {s : State} {slot : Byte} (h : ∀ k : SlotIx, k.val = slot.toNat → (s.slot k).service = .off)
    (act : State → SlotIx → CommandResult × State) : slotArgument s slot act = (.refusedValue, s) := by
  unfold slotArgument
  cases hk : slotOfNat slot.toNat with
  | none => rfl
  | some k => exact if_pos (h k (slotOfNat_eq_some_iff.mp hk))

@[simp] theorem State.slot_refreshed (s : State) (origin : Station) (k : SlotIx) :
    (s.refreshed origin).slot k = s.slot k := by
  unfold State.refreshed
  split <;> rfl

/-- Settles O48: a crest-only command at a tree node, a slot command whose slot is none or OFF, and a TRACK_OPEN out of
range are answered without a change. -/
theorem roleAndSlotArgumentsAreChecked : Obligations.RoleAndSlotArgumentsAreChecked := by
  unfold Obligations.RoleAndSlotArgumentsAreChecked
  intro s origin target h s0
  have hport : s0.port = s.port := s.port_refreshed origin
  have hnode : s0.nodeState = s.nodeState := s.nodeState_refreshed origin
  refine ⟨fun hr => ?role, fun slot hk => ?slot, fun n hr hn => ?range⟩
  case role =>
    have htree (act : State → CommandResult × State) : crestOnly s0 act = (.refusedRole, s0) :=
      crestOnly_of_tree (by rw [State.cfg_refreshed]; exact hr) act
    refine ⟨?_, fun _ => ?_, ?_, fun _ => ?_, fun _ _ => ?_, fun _ => ?_, fun _ => ?_⟩
    · rintro p rfl
      exact Leaves.of_yardCommand h rfl (htree _) hport hnode
    all_goals exact Leaves.of_yardCommand h rfl (htree _) hport hnode
  case slot =>
    have hoff (act : State → SlotIx → CommandResult × State) : slotArgument s0 slot act = (.refusedValue, s0) :=
      slotArgument_of_off (fun k hks => by rw [State.slot_refreshed]; exact hk k hks) act
    refine ⟨?_, ?_, ?_⟩
    all_goals exact Leaves.of_yardCommand h rfl (hoff _) hport hnode
  case range => exact Leaves.of_crestCommand h hr rfl (if_pos hn) hport hnode

end Sys2Proof.Machine
end

section
/-! SUPPORT. The passage tracker at its exit sensors, at a backward commit axle and at its timers (R68 to R80): what each
event makes of its passage in the rules' words, with the ends that follow it. -/

namespace Sys2Proof.Machine

/-! ### A passage after an axle (R72, R75, R76) -/

theorem Passage.setOut_eq_withOut (p : Passage) (leg : Leg) (n : Nat) : p.setOut leg n = p.withOut leg n := by
  cases leg <;> rfl

theorem Passage.taken_withOut (p : Passage) (leg : Leg) (n : Nat) : (p.withOut leg n).taken = p.taken := by
  cases leg <;> rfl

theorem Passage.countOut_of_taken {p : Passage} {taken : Leg} (h : p.taken = some taken) (leg : Leg)
    (now stallTime : Nat) :
    (p.countOut leg).restartStall now stallTime = (p.withOut leg (p.outOn leg + 1)).afterAxle now stallTime := by
  have ht := p.taken_withOut leg (p.outOn leg + 1)
  unfold Passage.countOut Passage.restartStall Passage.afterAxle
  rw [p.setOut_eq_withOut, h]
  dsimp only
  rw [← h, ← ht]

theorem Passage.countOut_of_first {p : Passage} (h : p.taken = none) (leg : Leg) (now stallTime : Nat) :
    (p.countOut leg).restartStall now stallTime
      = { (p.withOut leg (p.outOn leg + 1)).afterAxle now stallTime with taken := some leg } := by
  unfold Passage.countOut Passage.restartStall Passage.afterAxle
  rw [p.setOut_eq_withOut, h]

/-- R76: the undone axle in the rule's words. -/
theorem Passage.uncountIn_eq (p : Passage) (x now stallTime : Nat) :
    (p.uncountIn x).commitTimers now stallTime = { p.afterCommitAxle now stallTime with
      axlesIn := p.axlesIn - 1
      excess := p.excess - 1
      phase := if x = 0 ∨ p.axlesIn - 1 < x then .committing else .trailing
      countdown := if x = 0 then none else some (x - (p.axlesIn - 1))
      rollbackNoted := true } := by
  have hphase : (if x = 0 then Phase.committing else if p.axlesIn - 1 < x then .committing else .trailing)
      = if x = 0 ∨ p.axlesIn - 1 < x then .committing else .trailing := by
    by_cases hx : x = 0 <;> simp [hx]
  unfold Passage.uncountIn
  dsimp only
  rw [hphase]
  rfl

/-! ### Failures of a slot whose zone list has been written -/

/-- R37: the passages are no part of what a failure reads and writes. -/
theorem Slot.takenOut_zone (x : Slot) (zone : List Passage) (service : ServiceState) :
    ({ x with zone := zone } : Slot).takenOut service = { x.takenOut service with zone := zone } := rfl

/-- R37: a failure at a slot in service, with its alarm. -/
theorem Offered.failSlot {s v u : State} {sends : List OutFrame} (h : Offered s v u sends)
    (hk : ∀ g ∈ sends, g.kind ≠ .holdState) (hv : v.serving = true) {k : SlotIx}
    (hs : (u.slot k).service ≠ .off) {inc : Incident} (ha : isAlarm inc.kind = true) :
    Offered s (v.failSlot k inc) ((u.setSlot k ((u.slot k).takenOut .failed)).captureAlarm inc)
      (u.reportOf inc :: sends) := by
  have hslot : v.slot k = u.slot k := by rw [h.alike]; rfl
  rw [State.failSlot_eq (by rwa [hslot]), hslot]
  exact (h.map (fun x => x.setSlot k ((u.slot k).takenOut .failed)) (fun _ _ _ _ => rfl)).raise_alarm hk hv inc ha

theorem Offered.slotCfg {s v u : State} {sends : List OutFrame} (h : Offered s v u sends) (k : SlotIx) :
    v.slotCfg k = u.slotCfg k := by rw [h.alike]; rfl

theorem State.slotCfg_captureAlarm (s : State) (inc : Incident) (k : SlotIx) :
    (s.captureAlarm inc).slotCfg k = s.slotCfg k := by
  unfold State.captureAlarm
  split <;> rfl

theorem State.reportOf_kind (s : State) (inc : Incident) : (s.reportOf inc).kind ≠ .holdState :=
  FrameKind.noConfusion

/-! ### EXIT_AXLE_FORWARD (R72 to R74) -/

theorem State.exitForward_of_open {s : State} {k : SlotIx} {i : Nat} {p : Passage} (leg : Leg)
    (hi : (s.slot k).zone.findIdx? Passage.isOpen = some i) (hp : (s.slot k).zone[i]? = some p) :
    s.exitForward k leg = ((s.setPassage k i ((p.countOut leg).restartStall s.time (s.slotCfg k).stallTime)).exitEffects
      k i p leg).checkEnd k := by
  unfold State.exitForward State.passage
  simp only [hi, hp]

/-- How a claim is shown of a forward exit axle that a passage takes. -/
theorem LeavesThenEnds.of_exitForward {s u : State} {k : SlotIx} {leg : Leg} {i : Nat} {p q : Passage}
    {sends : List OutFrame} (hs : s.slotServing k = true)
    (hi : (s.slot k).zone.findIdx? Passage.isOpen = some i) (hp : (s.slot k).zone[i]? = some p)
    (hq : (p.countOut leg).restartStall s.time (s.slotCfg k).stallTime = q)
    (h : Offered s ((s.setPassage k i q).exitEffects k i p leg) u sends) (hk : ∀ g ∈ sends, g.kind ≠ .holdState)
    (hu : u.nodeState = s.nodeState) : LeavesThenEnds (.exitAxleForward k leg) s u k sends := by
  have hbody := State.exitForward_of_open leg hi hp
  rw [hq] at hbody
  have hserving : u.serving = true := by
    have := State.serving_of_slotServing hs
    unfold State.serving at this ⊢
    rwa [hu]
  exact LeavesThenEnds.of_offered ((execExitAxleForward_of_serving hs leg).trans (congrArg (finish s) hbody)) h hk
    (h.serving.trans hserving)

theorem State.exitEffects_of_first {s : State} {k : SlotIx} {i : Nat} {p : Passage} {leg : Leg}
    (h : p.taken = none) : s.exitEffects k i p leg = (s.checkLeg k p leg).beginHandoff k i p leg := by
  unfold State.exitEffects
  rw [h]

theorem State.exitEffects_of_taken {s : State} {k : SlotIx} {i : Nat} {p : Passage} {leg taken : Leg}
    (h : p.taken = some taken) : s.exitEffects k i p leg = s.checkSplit k p taken leg := by
  unfold State.exitEffects
  rw [h]

theorem State.beginHandoff_of_track {s : State} {k : SlotIx} {i : Nat} {p : Passage} {leg : Leg} {n : Nat}
    (h : (s.slotCfg k).legEnd leg = .track n) : s.beginHandoff k i p leg = s := by
  unfold State.beginHandoff
  rw [h]

theorem otherLeg_ne (leg : Leg) : otherLeg leg ≠ leg := by
  cases leg <;> exact Leg.noConfusion

@[simp] theorem State.slot_setPassage_eq (s : State) (k : SlotIx) (i : Nat) (q : Passage) :
    (s.setPassage k i q).slot k = { s.slot k with zone := (s.slot k).zone.set i q } :=
  State.slot_setSlot _ _ _

/-- R73: where the point is proved in the other leg, the slot of a passage's first exit axle fails. -/
theorem Offered.checkLeg_of_mismatch {s : State} {k : SlotIx} (hs : s.slotServing k = true) (i : Nat) (p q : Passage)
    (leg : Leg) (h : (s.slot k).point = provedIn (otherLeg leg)) :
    Offered s ((s.setPassage k i q).checkLeg k p leg)
      ((s.setSlot k { (s.slot k).takenOut .failed with zone := (s.slot k).zone.set i q }).captureAlarm
        (mismatchIncident s k p leg)) [s.reportOf (mismatchIncident s k p leg)] := by
  have hpoint : ((s.setPassage k i q).slot k).point = provedIn (otherLeg leg) := by
    rw [State.slot_setPassage_eq]
    exact h
  have hbody : (s.setPassage k i q).checkLeg k p leg = (s.setPassage k i q).failSlot k (mismatchIncident s k p leg) := by
    refine (if_pos hpoint).trans ?_
    unfold mismatchIncident
    rw [State.slot_setPassage_eq]
    rfl
  have hoffered : Offered s (s.setPassage k i q) (s.setPassage k i q) [] := Offered.of_queue rfl
  have hserving := State.serving_of_slotServing hs
  have hfail := hoffered.failSlot (by simp) hserving (k := k)
    (by rw [State.slot_setPassage_eq]; exact State.service_ne_off_of_slotServing hs)
    (inc := mismatchIncident s k p leg) rfl
  rw [State.slot_setPassage_eq, State.setPassage, State.setSlot_setSlot, Slot.takenOut_zone] at hfail
  rw [hbody]
  exact hfail

theorem State.checkLeg_of_match {s : State} {k : SlotIx} (i : Nat) (p q : Passage) (leg : Leg)
    (h : (s.slot k).point ≠ provedIn (otherLeg leg)) :
    (s.setPassage k i q).checkLeg k p leg = s.setPassage k i q :=
  if_neg (by rw [State.slot_setPassage_eq]; exact h)

/-- Settles O13: an axle on the taken leg, or not the first on the other, is only counted; the first on the other leg
fails the slot; a passage's first on a leg to a track sets the taken leg, with the check of the point. -/
theorem forwardExitAxleIsCountedOut : Obligations.ForwardExitAxleIsCountedOut := by
  unfold Obligations.ForwardExitAxleIsCountedOut
  intro s k leg i p hs hi hp q first split mismatch
  have hreport (inc : Incident) : ∀ g ∈ [s.reportOf inc], g.kind ≠ .holdState := s.kind_reportOf_ne_holdState inc
  refine ⟨fun h => ?counted, fun ht hn => ?split, fun n ht hleg => ⟨fun hpoint => ?track, fun hpoint => ?mismatch⟩⟩
  case counted =>
    obtain ⟨taken, ht, hno⟩ : ∃ taken, p.taken = some taken ∧ ¬(taken ≠ leg ∧ p.outOn leg = 0) := by
      rcases h with ht | ⟨ht, hn⟩
      · exact ⟨leg, ht, fun hc => hc.1 rfl⟩
      · exact ⟨otherLeg leg, ht, fun hc => by omega⟩
    refine LeavesThenEnds.of_exitForward hs hi hp (Passage.countOut_of_taken ht leg _ _) ?_ (by simp) rfl
    rw [State.exitEffects_of_taken ht, State.checkSplit, if_neg hno]
    exact Offered.of_queue rfl
  case split =>
    refine LeavesThenEnds.of_exitForward hs hi hp (Passage.countOut_of_taken ht leg _ _) ?_ (hreport split)
      (State.nodeState_captureAlarm _ _)
    rw [State.exitEffects_of_taken ht, State.checkSplit, if_pos ⟨otherLeg_ne leg, hn⟩]
    have hoffered : Offered s (s.setPassage k i q) (s.setPassage k i q) [] := Offered.of_queue rfl
    have hserving := State.serving_of_slotServing hs
    have hfail := hoffered.failSlot (by simp) hserving (k := k)
      (by rw [State.slot_setPassage_eq]; exact State.service_ne_off_of_slotServing hs) (inc := split) rfl
    rw [State.slot_setPassage_eq, State.setPassage, State.setSlot_setSlot, Slot.takenOut_zone] at hfail
    exact hfail
  case track =>
    refine LeavesThenEnds.of_exitForward hs hi hp (Passage.countOut_of_first ht leg _ _) ?_ (by simp) rfl
    rw [State.exitEffects_of_first ht, State.checkLeg_of_match i p _ leg hpoint,
      State.beginHandoff_of_track (by exact hleg)]
    exact Offered.of_queue rfl
  case mismatch =>
    refine LeavesThenEnds.of_exitForward hs hi hp (Passage.countOut_of_first ht leg _ _) ?_ (hreport mismatch)
      (State.nodeState_captureAlarm _ _)
    have hfail := Offered.checkLeg_of_mismatch hs i p first leg hpoint
    rw [State.exitEffects_of_first ht, State.beginHandoff_of_track (n := n)
      (by rw [hfail.slotCfg, State.slotCfg_captureAlarm]; exact hleg)]
    exact hfail

/-! ### Rollbacks (R75, R76) -/

/-- R75, R76: the ROLLBACK flag, and the notice once per passage. -/
theorem Offered.noteRollback {s v : State} (hq : v.port.queue = s.port.queue) (hv : v.serving = true) (k : SlotIx)
    (p : Passage) (x : Sensor) :
    Offered s (v.noteRollback k p x)
      (v.setRecord p.record ((v.record p.record).flagged { rollback := true }))
      (if p.rollbackNoted = true then []
        else [.incident ⟨.rollback, some k, (v.record p.record).tag, 0, .sensor x⟩ false]) := by
  have hoffered : Offered s (v.addFlags p.record { rollback := true }) (v.addFlags p.record { rollback := true }) [] :=
    Offered.of_queue hq
  unfold State.noteRollback
  dsimp only
  split
  · exact hoffered
  · exact hoffered.raise_notice (by simp) hv _ rfl

theorem rollback_kind (c : Prop) [Decidable c] (inc : Incident) :
    ∀ g ∈ (if c then [] else [OutFrame.incident inc false]), g.kind ≠ .holdState := by
  intro g hg
  split at hg
  · exact absurd hg List.not_mem_nil
  · rw [List.mem_singleton.mp hg]
    exact FrameKind.noConfusion

/-- Settles O12: the youngest passage takes the axle back, with the ROLLBACK flag and its one notice. -/
theorem backwardCommitAxleReopensThePassage : Obligations.BackwardCommitAxleReopensThePassage := by
  unfold Obligations.BackwardCommitAxleReopensThePassage
  intro s k p hs hz hopen n x q
  have hbody : s.commitBackward k = (s.setPassage k ((s.slot k).zone.length - 1)
      ((p.uncountIn (s.record p.record).expectedAxles).commitTimers s.time (s.slotCfg k).stallTime)).noteRollback
        k p .commit := by
    unfold State.commitBackward
    simp only [hz]
    exact if_pos (decide_eq_true hopen)
  have hserving := State.serving_of_slotServing hs
  have hoffered := Offered.noteRollback (s := s) (v := s.setPassage k ((s.slot k).zone.length - 1)
    ((p.uncountIn (s.record p.record).expectedAxles).commitTimers s.time (s.slotCfg k).stallTime)) rfl hserving k p
      .commit
  rw [← hbody, Passage.uncountIn_eq] at hoffered
  exact Leaves.of_reported (execCommitAxleBackward_of_serving hs) hoffered.reported (rollback_kind _ _)

/-- Settles O17: the oldest passage with axles out on the leg counts one back, with the ROLLBACK flag and its one
notice. -/
theorem backwardExitAxleIsCountedBack : Obligations.BackwardExitAxleIsCountedBack := by
  unfold Obligations.BackwardExitAxleIsCountedBack
  intro s k leg i p hs hi hp q
  have hbody : s.exitBackward k leg
      = ((s.setPassage k i q).noteRollback k p (exitSensor leg)).checkEnd k := by
    unfold State.exitBackward State.passage
    simp only [hi, hp, Passage.setOut_eq_withOut]
    rfl
  have hserving := State.serving_of_slotServing hs
  have hoffered := Offered.noteRollback (s := s) (v := s.setPassage k i q) rfl hserving k p (exitSensor leg)
  exact LeavesThenEnds.of_offered ((execExitAxleBackward_of_serving hs leg).trans (congrArg (finish s) hbody))
    hoffered (rollback_kind _ _) (hoffered.serving.trans hserving)

/-! ### The end at the axle that balances (R78, R79) -/

/-- R78: where the oldest passage ends, the claim is that of the state it leaves, with its frames. -/
theorem LeavesThenEnds.of_ends {c : Instr} {s u : State} {k : SlotIx} {q : Passage} {rest : List Passage}
    (h : LeavesThenEnds c s u k []) (hz : (u.slot k).zone = q :: rest) (hq : q.ends = true) :
    LeavesThenEnds c s
      (if rest = [] then ((u.afterEnd q).setSlot k { u.slot k with zone := rest }).evaluateThrow k
        else (u.afterEnd q).setSlot k { u.slot k with zone := rest }) k (u.endFrames k q) := by
  have hslot : (u.afterEnd q).slot k = u.slot k := congrArg (fun v => v[k]) (u.slots_afterEnd q)
  have hzone : ((if rest = [] then ((u.afterEnd q).setSlot k { u.slot k with zone := rest }).evaluateThrow k
        else (u.afterEnd q).setSlot k { u.slot k with zone := rest }).slot k).zone = rest := by
    split <;> simp
  unfold LeavesThenEnds at h ⊢
  rw [hz, List.length_cons, State.afterEnds_of_ends k _ u q rest hz hq] at h
  dsimp only at h
  rw [hslot] at h
  rw [hzone]
  exact h

theorem Passage.out_withOut_succ (p : Passage) (leg : Leg) : (p.withOut leg (p.outOn leg + 1)).out = p.out + 1 := by
  cases leg <;> simp [Passage.withOut, Passage.outOn, Passage.out] <;> omega

theorem Passage.fields_withOut (p : Passage) (leg : Leg) (n : Nat) :
    (p.withOut leg n).record = p.record ∧ (p.withOut leg n).handoff = p.handoff
      ∧ (p.withOut leg n).phase = p.phase ∧ (p.withOut leg n).axlesIn = p.axlesIn := by
  cases leg <;> exact ⟨rfl, rfl, rfl, rfl⟩

/-- R79: the frames of a passage's end on its taken leg. -/
theorem State.endFrames_of_taken {s : State} {k : SlotIx} {p : Passage} {taken : Leg} (ht : p.taken = some taken) :
    s.endFrames k p = (match (s.slotCfg k).legEnd taken with
        | .slot _ _ => []
        | .track n => [arrivalFrame k taken n (s.record p.record)])
      ++ (watchedTags s.watches (s.record p.record).watchable).map (fun tag => .watchHit tag k taken)
      ++ s.displacedFrames p := by
  rw [State.endFrames_eq]
  unfold State.arrivalFrames
  rw [ht] <;> rfl

/-- R158: the table after the end of a passage, its record apart. -/
def State.unwatched (s : State) (r : RecIx) : State :=
  { s with watches := (s.record r).watchable.foldl List.erase s.watches }

section
variable {s : State} {p : Passage} {taken : Leg} (ht : p.taken = some taken)
include ht

/-- R79, step 3: a passage without a PENDING handoff frees its record. -/
theorem State.afterEnd_of_done (hh : p.handoff = .none ∨ ∃ result, p.handoff = .local result) :
    s.afterEnd p = (s.unwatched p.record).freeRecord p.record ∧ s.displacedFrames p = [] := by
  unfold State.afterEnd State.displacedFrames State.unwatched
  rw [ht]
  rcases hh with hh | ⟨result, hh⟩ <;> rw [hh] <;> exact ⟨rfl, rfl⟩

theorem State.afterEnd_of_resolved {m : Nat} (hh : p.handoff = .sent m) (hm : s.isPending m = false) :
    s.afterEnd p = ((s.unwatched p.record).dropHandoff m).freeRecord p.record ∧ s.displacedFrames p = [] := by
  unfold State.afterEnd State.displacedFrames State.unwatched
  rw [ht, hh]
  dsimp only
  rw [if_pos hm, if_pos hm]
  exact ⟨rfl, rfl⟩

theorem State.afterEnd_of_joining {m : Nat} (hh : p.handoff = .sent m) (hm : s.isPending m = true)
    (hd : s.displaced = none) :
    s.afterEnd p = { s.unwatched p.record with waitList := s.waitList ++ [(⟨p.record, m⟩ : WaitEntry)] }
      ∧ s.displacedFrames p = [] := by
  have hno : ¬s.isPending m = false := by simp [hm]
  unfold State.afterEnd State.displacedFrames State.unwatched
  rw [ht, hh]
  dsimp only
  rw [if_neg hno, if_neg hno, hd]
  exact ⟨rfl, rfl⟩

theorem State.afterEnd_of_displacing {m : Nat} {e : WaitEntry} {h : Handoff} (hh : p.handoff = .sent m)
    (hm : s.isPending m = true) (hd : s.displaced = some (e, h)) :
    s.afterEnd p = (({ s.unwatched p.record with
        faultLatch := true
        waitList := s.waitList.tail ++ [(⟨p.record, m⟩ : WaitEntry)] }.captureAlarm
          (s.lostEntry e h)).dropHandoff e.handoff).freeRecord e.record
      ∧ s.displacedFrames p = [s.reportOf (s.lostEntry e h)] := by
  have hno : ¬s.isPending m = false := by simp [hm]
  unfold State.afterEnd State.displacedFrames State.unwatched
  rw [ht, hh]
  dsimp only
  rw [if_neg hno, if_neg hno, hd]
  exact ⟨rfl, rfl⟩

end

theorem State.displaced_of_room {s : State} (h : s.waitList.length < 8) : s.displaced = none := by
  unfold State.displaced
  split
  · rfl
  · exact if_pos (.inl h)

theorem State.displaced_of_full {s : State} {e : WaitEntry} {rest : List WaitEntry} {h : Handoff}
    (hw : s.waitList = e :: rest) (hfull : 8 ≤ s.waitList.length) (hh : s.handoff? e.handoff = some h)
    (hp : s.isPending e.handoff = true) : s.displaced = some (e, h) := by
  have hno : ¬(s.waitList.length < 8 ∨ s.isPending e.handoff = false) := by
    simp [hp, Nat.not_lt.mpr hfull]
  unfold State.displaced
  split
  · rename_i hnil
    rw [hw] at hnil
    exact absurd hnil (by simp)
  · rename_i e' rest' hcons
    obtain ⟨rfl, -⟩ : e = e' ∧ rest = rest' := by simpa [hw] using hcons
    rw [if_neg hno, hh]
    rfl

theorem State.setSlot_captureAlarm (s : State) (inc : Incident) (k : SlotIx) (x : Slot) :
    (s.captureAlarm inc).setSlot k x = (s.setSlot k x).captureAlarm inc := by
  unfold State.captureAlarm
  dsimp only [State.setSlot]
  split <;> rfl

theorem Leg.taken_or_other {p : Passage} {taken leg : Leg} (ht : p.taken = some taken)
    (h : taken = leg ∨ 0 < p.outOn leg) :
    p.taken = some leg ∨ p.taken = some (otherLeg leg) ∧ 0 < p.outOn leg := by
  by_cases hl : taken = leg
  · exact .inl (ht.trans (congrArg some hl))
  · have hother : taken = otherLeg leg := by
      revert hl
      cases taken <;> cases leg <;> decide
    exact .inr ⟨ht.trans (congrArg some hother), h.resolve_left hl⟩

/-- Settles O16: the balancing axle is counted and the passage ends (`LeavesThenEnds.of_ends`); what its end leaves and
offers is told apart by its leg and by its handoff. -/
theorem balancedPassageEnds : Obligations.BalancedPassageEnds := by
  unfold Obligations.BalancedPassageEnds
  intro s k leg taken p rest hs hz hphase hout ht hleg r hits gone leaves
  have hfind : (s.slot k).zone.findIdx? Passage.isOpen = some 0 := by
    rw [hz, List.findIdx?_cons, if_pos]
    exact decide_eq_true (by omega)
  have hp : (s.slot k).zone[0]? = some p := by rw [hz]; rfl
  set q := (p.withOut leg (p.outOn leg + 1)).afterAxle s.time (s.slotCfg k).stallTime with hq
  obtain ⟨hrecord, hhandoff, hphase', haxles⟩ := p.fields_withOut leg (p.outOn leg + 1)
  have hqrecord : q.record = p.record := hrecord
  have hqhandoff : q.handoff = p.handoff := hhandoff
  have hqtaken : q.taken = some taken := (p.taken_withOut leg _).trans ht
  have hends : q.ends = true := by
    have hqout : q.out = p.out + 1 := p.out_withOut_succ leg
    have hqaxles : q.axlesIn = p.axlesIn := haxles
    exact q.ends_iff.mpr ⟨hphase'.trans hphase, by omega, by omega⟩
  have hcounted : LeavesThenEnds (.exitAxleForward k leg) s (s.setPassage k 0 q) k [] := by
    obtain ⟨hclaim, -⟩ := forwardExitAxleIsCountedOut s k leg 0 p hs hfind hp
    exact hclaim (Leg.taken_or_other ht hleg)
  have hset : (s.setPassage k 0 q).setSlot k { (s.setPassage k 0 q).slot k with zone := rest }
      = s.setSlot k { s.slot k with zone := rest } := by
    rw [State.slot_setPassage_eq, State.setPassage, State.setSlot_setSlot]
  have hend := hcounted.of_ends (q := q) (rest := rest) (by rw [State.slot_setPassage_eq, hz]; rfl) hends
  rw [State.endFrames_of_taken hqtaken, hqrecord] at hend
  have hdone (hh : p.handoff = .none ∨ ∃ result, p.handoff = .local result) :
      ((s.setPassage k 0 q).afterEnd q).setSlot k { (s.setPassage k 0 q).slot k with zone := rest }
          = gone.freeRecord p.record
        ∧ (s.setPassage k 0 q).displacedFrames q = [] := by
    obtain ⟨hafter, hframes⟩ := State.afterEnd_of_done (s := s.setPassage k 0 q) hqtaken (by rwa [hqhandoff])
    rw [hafter, hqrecord]
    exact ⟨congrArg (fun u => (u.unwatched p.record).freeRecord p.record) hset, hframes⟩
  refine ⟨fun n hleg hh => ?track, fun node target hleg => ⟨fun result hh => ?locally, fun m hh => ⟨fun hm => ?resolved,
    fun hm hl => ?joining, fun hm hl oldest waiting h hw hx hp => ?displacing⟩⟩⟩
  case track =>
    obtain ⟨hleft, hframes⟩ := hdone (.inl hh)
    rw [hleft, hframes, show (s.setPassage k 0 q).slotCfg k = s.slotCfg k from rfl, hleg, List.append_nil] at hend
    exact hend
  case locally =>
    obtain ⟨hleft, hframes⟩ := hdone (.inr ⟨result, hh⟩)
    rw [hleft, hframes, show (s.setPassage k 0 q).slotCfg k = s.slotCfg k from rfl, hleg, List.append_nil] at hend
    exact hend
  case resolved =>
    obtain ⟨hafter, hframes⟩ := State.afterEnd_of_resolved (s := s.setPassage k 0 q) hqtaken (hqhandoff.trans hh) hm
    have hleft : ((s.setPassage k 0 q).afterEnd q).setSlot k { (s.setPassage k 0 q).slot k with zone := rest }
        = (gone.dropHandoff m).freeRecord p.record := by
      rw [hafter, hqrecord]
      exact congrArg (fun u => ((u.unwatched p.record).dropHandoff m).freeRecord p.record) hset
    rw [hleft, hframes, show (s.setPassage k 0 q).slotCfg k = s.slotCfg k from rfl, hleg, List.append_nil] at hend
    exact hend
  case joining =>
    obtain ⟨hafter, hframes⟩ := State.afterEnd_of_joining (s := s.setPassage k 0 q) hqtaken (hqhandoff.trans hh) hm
      (State.displaced_of_room hl)
    have hleft : ((s.setPassage k 0 q).afterEnd q).setSlot k { (s.setPassage k 0 q).slot k with zone := rest }
        = { gone with waitList := s.waitList ++ [(⟨p.record, m⟩ : WaitEntry)] } := by
      rw [hafter, hqrecord]
      exact congrArg (fun u => { u.unwatched p.record with waitList := s.waitList ++ [(⟨p.record, m⟩ : WaitEntry)] })
        hset
    rw [hleft, hframes, show (s.setPassage k 0 q).slotCfg k = s.slotCfg k from rfl, hleg, List.append_nil] at hend
    exact hend
  case displacing =>
    obtain ⟨hafter, hframes⟩ := State.afterEnd_of_displacing (s := s.setPassage k 0 q) hqtaken (hqhandoff.trans hh) hm
      (State.displaced_of_full hw hl hx hp)
    intro lost
    have hleft : ((s.setPassage k 0 q).afterEnd q).setSlot k { (s.setPassage k 0 q).slot k with zone := rest }
        = (({ gone with
            faultLatch := true
            waitList := waiting ++ [(⟨p.record, m⟩ : WaitEntry)] }.captureAlarm lost).dropHandoff
              oldest.handoff).freeRecord oldest.record := by
      have htail : (s.setPassage k 0 q).waitList.tail = waiting := by
        show s.waitList.tail = waiting
        rw [hw]
        rfl
      rw [hafter, hqrecord, htail]
      refine Eq.trans (congrArg (fun u : State => (u.dropHandoff oldest.handoff).freeRecord oldest.record)
        (State.setSlot_captureAlarm _ _ k _)) ?_
      exact congrArg (fun u : State => (({ u.unwatched p.record with
          faultLatch := true
          waitList := waiting ++ [(⟨p.record, m⟩ : WaitEntry)] }.captureAlarm lost).dropHandoff
            oldest.handoff).freeRecord oldest.record) hset
    rw [hleft, hframes, show (s.setPassage k 0 q).slotCfg k = s.slotCfg k from rfl, hleg] at hend
    exact hend

end Sys2Proof.Machine
end

section
/-! SUPPORT. The expiry of a gap timer with its merge (R26, R68 to R71), and the reconciliation of a fouling clear (R36,
R80): the body of each, in the rules' words. -/

namespace Sys2Proof.Machine

/-- A state that has been written, and then a notice. -/
theorem Offered.notice {s u : State} {inc : Incident} (hq : u.port.queue = s.port.queue) (hs : u.serving = true)
    (ha : isAlarm inc.kind = false) : Offered s (u.raise inc) u [.incident inc false] :=
  (Offered.of_queue hq).raise_notice (by simp) hs inc ha

/-! ### GAP_EXPIRY (R68 to R71) -/

theorem exec_gapExpiry_of_running {s : State} {k : SlotIx} {i : Nat} {p : Passage} (hp : (s.slot k).zone[i]? = some p)
    (hg : p.gapRunning = true) :
    exec (.gapExpiry k i) s = finish s ((s.reach (p.lastCommit + (s.slotCfg k).gapTime)).gapExpired k i p) := by
  refine congrArg (finish s) ?_
  unfold State.expireGap State.passage
  rw [hp]
  exact if_pos hg

theorem State.gapExpired_of_committed {s : State} {k : SlotIx} {i : Nat} {p : Passage}
    (h : p.phase = .committed ∨ p.phase = .committing ∧ p.axlesIn = 0) :
    s.gapExpired k i p = s.setPassage k i { p with gapRunning := false } := by
  unfold State.gapExpired
  rcases h with h | ⟨h, hn⟩
  · rw [h]
  · rw [h]
    exact if_pos hn

theorem State.gapExpired_of_committing {s : State} {k : SlotIx} {i : Nat} {p : Passage}
    (h : p.phase = .committing) (hn : 0 < p.axlesIn) :
    s.gapExpired k i p = ((s.setPassage k i p.commit).judgeShort k p.commit).checkEnd k := by
  unfold State.gapExpired
  rw [h]
  exact if_neg hn.ne'

theorem State.gapExpired_of_trailing {s : State} {k : SlotIx} {i : Nat} {p : Passage} (h : p.phase = .trailing) :
    s.gapExpired k i p = if p.excess = 0 then (s.setPassage k i p.commit).checkEnd k
      else ((s.setPassage k i p.commit).recogniseMerge k i p.commit).checkEnd k := by
  unfold State.gapExpired
  rw [h]

/-- R70: the four conditions of a merge with the queue's head, in the rule's words. -/
def State.mergeHead (s : State) (k : SlotIx) (p : Passage) (e : Seq) (h : RecIx) (rest : List RecIx) : Prop :=
  (s.slot k).expected = some e ∧ (s.slot k).queue = h :: rest ∧ distance e (s.queuedSeq h) = 0
    ∧ (s.record h).expectedAxles = p.excess ∧ (s.record p.record).companion = none ∧ (s.record h).tag ≠ 0

theorem State.merges_iff (s : State) (p : Passage) (e : Seq) (h : RecIx) :
    s.merges p e h = true ↔ distance e (s.queuedSeq h) = 0 ∧ (s.record h).expectedAxles = p.excess
      ∧ (s.record p.record).companion = none ∧ (s.record h).tag ≠ 0 := by
  simp [State.merges, Record.anonymous, and_assoc]

/-- R70: excess that is no merge is LONG. -/
theorem State.recogniseMerge_of_long {s : State} {k : SlotIx} (i : Nat) {p : Passage}
    (h : ¬∃ e h rest, s.mergeHead k p e h rest) :
    s.recogniseMerge k i p = (s.addFlags p.record { long := true }).raise (longIncident s k p) := by
  unfold State.recogniseMerge
  split
  · rename_i e r rest he hq
    refine if_neg fun hm => h ⟨e, r, rest, he, hq, ?_⟩
    exact (State.merges_iff s p e r).mp hm
  · rfl
  · rfl

theorem State.recogniseMerge_of_merge {s : State} {k : SlotIx} (i : Nat) {p : Passage} {e : Seq} {h : RecIx}
    {rest : List RecIx} (hm : s.mergeHead k p e h rest) : s.recogniseMerge k i p = s.merge k i p e h rest := by
  obtain ⟨he, hq, hconditions⟩ := hm
  unfold State.recogniseMerge
  rw [he, hq]
  exact if_pos ((State.merges_iff s p e h).mpr hconditions)

/-- R44: with a passage in the zone list there is no throw. -/
theorem State.evaluateThrow_of_zone {s : State} {k : SlotIx} (h : (s.slot k).zone ≠ []) : s.evaluateThrow k = s := by
  cases hq : (s.slot k).queue with
  | nil => exact State.evaluateThrow_of_empty hq
  | cons r rest => exact State.evaluateThrow_of_not_mayThrow hq fun hm => h hm.1

/-- R26: the head leaves the queue of a slot that holds a passage. -/
theorem State.absorbHead_of_zone {s : State} {k : SlotIx} (e : Seq) (r : RecIx) (rest : List RecIx)
    (h : (s.slot k).zone ≠ []) :
    s.absorbHead k e r rest = (s.setSlot k { s.slot k with
      queue := rest
      expected := some (e + 1)
      recent := pushRecent ⟨e, .announced, (s.record r).tag⟩ (s.slot k).recent }).freeRecord r :=
  State.evaluateThrow_of_zone (by
    show ((s.setSlot k _).slot k).zone ≠ []
    rw [State.slot_setSlot]
    exact h)

theorem State.setSlot_setRecord (s : State) (i : RecIx) (r : Record) (k : SlotIx) (x : Slot) :
    (s.setRecord i r).setSlot k x = (s.setSlot k x).setRecord i r := rfl

theorem State.setSlot_freeRecord (s : State) (i : RecIx) (k : SlotIx) (x : Slot) :
    (s.freeRecord i).setSlot k x = (s.setSlot k x).freeRecord i := rfl

/-- R71: what a merge does at a slot whose zone list holds its passage. -/
theorem State.merge_eq {s : State} {k : SlotIx} (i : Nat) {p : Passage} (e : Seq) {h : RecIx} (rest : List RecIx)
    (hz : (s.slot k).zone ≠ []) (hne : p.record ≠ h) :
    s.merge k i p e h rest = (((s.setSlot k { s.slot k with
        queue := rest
        expected := some (e + 1)
        recent := pushRecent ⟨e, .announced, (s.record h).tag⟩ (s.slot k).recent
        zone := (s.slot k).zone.set i { p with excess := 0 } }).freeRecord h).setRecord p.record
          { (s.record p.record).flagged { merged := true } with
            companion := some ⟨(s.record h).tag, (s.record h).destination⟩ }).raise (mergeIncident s k p h) := by
  have hrecord (x : Slot) : ((s.setSlot k x).freeRecord h).record p.record = s.record p.record := by
    rw [State.record_freeRecord_eq_ite, if_neg hne]
    rfl
  unfold State.merge State.setPassage
  dsimp only
  rw [State.absorbHead_of_zone e h rest hz, hrecord, State.slot_setRecord, State.slot_freeRecord, State.slot_setSlot,
    State.setSlot_setRecord, State.setSlot_freeRecord, State.setSlot_setSlot]
  rfl

theorem State.judgeShort_of_known {s : State} {k : SlotIx} {p : Passage}
    (h : (s.record p.record).expectedAxles ≠ 0) :
    s.judgeShort k p
      = (s.addFlags p.record { short := true }).raise (shortIncident k (s.record p.record) p) := if_neg h

theorem State.judgeShort_of_unknown {s : State} {k : SlotIx} {p : Passage}
    (h : (s.record p.record).expectedAxles = 0) : s.judgeShort k p = s := if_pos h

section
variable {s : State} {k : SlotIx} {i : Nat} {p : Passage} (hs : s.serving = true)
  (hp : (s.slot k).zone[i]? = some p) (hg : p.gapRunning = true)
include hs hp hg

/-- How a claim is shown of a gap expiry after which the ends are checked. -/
theorem LeavesThenEnds.of_gapExpiry {v u : State} {sends : List OutFrame}
    (hbody : (s.reach (p.lastCommit + (s.slotCfg k).gapTime)).gapExpired k i p = v.checkEnd k)
    (h : Offered s v u sends) (hk : ∀ g ∈ sends, g.kind ≠ .holdState) (hu : u.nodeState = s.nodeState) :
    LeavesThenEnds (.gapExpiry k i) s u k sends := by
  have hserving : u.serving = true := by
    unfold State.serving at hs ⊢
    rwa [hu]
  exact LeavesThenEnds.of_offered ((exec_gapExpiry_of_running hp hg).trans (congrArg (finish s) hbody)) h hk
    (h.serving.trans hserving)

/-- R69: a passage with a known count commits short. -/
theorem leavesThenEnds_gapExpiry_short (hphase : p.phase = .committing) (hn : 0 < p.axlesIn)
    (hx : (s.record p.record).expectedAxles ≠ 0) :
    LeavesThenEnds (.gapExpiry k i) s
      (((s.reach (p.lastCommit + (s.slotCfg k).gapTime)).setPassage k i p.commit).setRecord p.record
        ((s.record p.record).flagged { short := true })) k
      [.incident (shortIncident k (s.record p.record) p) false] := by
  refine LeavesThenEnds.of_gapExpiry hs hp hg (State.gapExpired_of_committing hphase hn) ?_
    (List.forall_mem_singleton.mpr FrameKind.noConfusion) rfl
  rw [State.judgeShort_of_known (by exact hx)]
  exact Offered.notice (by rfl) (by exact hs) (by rfl)

/-- R70: excess that is no merge. -/
theorem leavesThenEnds_gapExpiry_long (hphase : p.phase = .trailing) (hn : 0 < p.excess)
    (hm : ¬∃ e h rest, s.mergeHead k p e h rest) :
    LeavesThenEnds (.gapExpiry k i) s
      (((s.reach (p.lastCommit + (s.slotCfg k).gapTime)).setPassage k i p.commit).setRecord p.record
        ((s.record p.record).flagged { long := true })) k
      [.incident ⟨.longCut, some k, (s.record p.record).tag, s.headTag k, .excess p.excess⟩ false] := by
  set v := (s.reach (p.lastCommit + (s.slotCfg k).gapTime)).setPassage k i p.commit with hv
  have hslot : v.slot k = { s.slot k with zone := (s.slot k).zone.set i p.commit } := State.slot_setPassage_eq _ _ _ _
  have hno : ¬∃ e h rest, v.mergeHead k p.commit e h rest := by
    rintro ⟨e, h, rest, he, hq, hconditions⟩
    rw [hslot] at he hq
    exact hm ⟨e, h, rest, he, hq, hconditions⟩
  have hinc : longIncident v k p.commit
      = ⟨.longCut, some k, (s.record p.record).tag, s.headTag k, .excess p.excess⟩ := by
    unfold longIncident State.headTag
    rw [hslot]
    rfl
  have hbody := (State.gapExpired_of_trailing (s := s.reach (p.lastCommit + (s.slotCfg k).gapTime)) (k := k) (i := i)
    hphase).trans (if_neg hn.ne')
  rw [State.recogniseMerge_of_long i hno, hinc] at hbody
  refine LeavesThenEnds.of_gapExpiry hs hp hg hbody ?_ (List.forall_mem_singleton.mpr FrameKind.noConfusion) rfl
  exact Offered.notice (by rfl) (by exact hs) (by rfl)

/-- R26, R71: a merge. -/
theorem leavesThenEnds_gapExpiry_merge {e : Seq} {h : RecIx} {rest : List RecIx} (hphase : p.phase = .trailing)
    (hn : 0 < p.excess) (hm : s.mergeHead k p e h rest) (hne : p.record ≠ h) :
    LeavesThenEnds (.gapExpiry k i) s
      ((((s.reach (p.lastCommit + (s.slotCfg k).gapTime)).setSlot k
        { s.slot k with
          queue := rest
          expected := some (e + 1)
          recent := pushRecent ⟨e, .announced, (s.record h).tag⟩ (s.slot k).recent
          zone := (s.slot k).zone.set i { p.commit with excess := 0 } }).freeRecord h).setRecord p.record
        { (s.record p.record).flagged { merged := true } with
          companion := some ⟨(s.record h).tag, (s.record h).destination⟩ }) k
      [.incident ⟨.catchUpMerge, some k, (s.record p.record).tag, (s.record h).tag, .excess p.excess⟩ false] := by
  set v := (s.reach (p.lastCommit + (s.slotCfg k).gapTime)).setPassage k i p.commit with hv
  have hslot : v.slot k = { s.slot k with zone := (s.slot k).zone.set i p.commit } := State.slot_setPassage_eq _ _ _ _
  have hzone : (v.slot k).zone ≠ [] := by
    rw [hslot]
    refine List.ne_nil_of_length_pos ?_
    obtain ⟨hi, -⟩ := List.getElem?_eq_some_iff.mp hp
    rw [List.length_set]
    omega
  have hmerge : v.mergeHead k p.commit e h rest := by
    obtain ⟨he, hq, hconditions⟩ := hm
    unfold State.mergeHead
    rw [hslot]
    exact ⟨he, hq, hconditions⟩
  have hbody := (State.gapExpired_of_trailing (s := s.reach (p.lastCommit + (s.slotCfg k).gapTime)) (k := k) (i := i)
    hphase).trans (if_neg hn.ne')
  rw [State.recogniseMerge_of_merge i hmerge, State.merge_eq i e rest hzone (by exact hne), hslot, hv, State.setPassage,
    State.setSlot_setSlot, List.set_set] at hbody
  refine LeavesThenEnds.of_gapExpiry hs hp hg hbody ?_ (List.forall_mem_singleton.mpr FrameKind.noConfusion) rfl
  exact Offered.notice (by rfl) (by exact hs) (by rfl)

end

/-- Settles O24: a gap expiry by the phase of its passage, TRAILING with excess by the conditions of a merge. -/
theorem gapExpiryCommitsOrMerges : Obligations.GapExpiryCommitsOrMerges := by
  unfold Obligations.GapExpiryCommitsOrMerges
  refine ⟨fun s k i p hs hp hg => ?_, fun s k i p e h rest hs hp hg hphase hn he hq hd hx hc ht hne =>
    leavesThenEnds_gapExpiry_merge hs hp hg hphase hn ⟨he, hq, hd, hx, hc, ht⟩ hne⟩
  refine ⟨fun h => ?closes, fun h => ?commits, fun hphase hn hx => leavesThenEnds_gapExpiry_short hs hp hg hphase hn hx,
    fun hphase hn hm => leavesThenEnds_gapExpiry_long hs hp hg hphase hn hm⟩
  case closes =>
    exact Leaves.of_body ((exec_gapExpiry_of_running hp hg).trans
      (congrArg (finish s) (State.gapExpired_of_committed h))) rfl
  case commits =>
    have hbody : (s.reach (p.lastCommit + (s.slotCfg k).gapTime)).gapExpired k i p
        = ((s.reach (p.lastCommit + (s.slotCfg k).gapTime)).setPassage k i p.commit).checkEnd k := by
      rcases h with ⟨hphase, hn, hx⟩ | ⟨hphase, hn⟩
      · rw [State.gapExpired_of_committing hphase hn]
        exact congrArg (fun u : State => u.checkEnd k) (State.judgeShort_of_unknown (by exact hx))
      · exact (State.gapExpired_of_trailing hphase).trans (if_pos hn)
    exact LeavesThenEnds.of_gapExpiry hs hp hg hbody (Offered.of_queue rfl) (by simp) rfl

/-! ### FOULING_CLEAR (R36, R44, R80) -/

/-- R36, R44: the slot after the reconciliation enters service, and point control evaluates. -/
theorem State.endSettling_eq (s : State) (k : SlotIx) :
    s.endSettling k = s.setSlot k { s.slot k with
      service := if (s.slot k).service = .settling then .inUse else (s.slot k).service } := by
  unfold State.endSettling
  split
  · rfl
  · exact (State.setSlot_self s k).symm

theorem Offered.evaluateThrow {s v u : State} {sends : List OutFrame} (h : Offered s v u sends) (k : SlotIx) :
    Offered s (v.evaluateThrow k) (u.evaluateThrow k) sends :=
  h.map (fun x => x.evaluateThrow k) (State.evaluateThrow_withOffers k)

theorem exec_foulingClear_of_new {s : State} {k : SlotIx} (hs : s.slotServing k = true)
    (hf : (s.slot k).foulingOccupied = true) :
    exec (.foulingClear k) s = finish s
      ((((s.setSlot k { s.slot k with foulingOccupied := false }).reconcile k).endSettling k).evaluateThrow k) :=
  congrArg (finish s) (if_pos (by simp [hs, hf]))

/-- A throw evaluation leaves the service state. -/
theorem State.service_evaluateThrow (s : State) (k : SlotIx) :
    ((s.evaluateThrow k).slot k).service = (s.slot k).service := by
  cases hq : (s.slot k).queue with
  | nil => rw [State.evaluateThrow_of_empty hq]
  | cons r rest =>
    by_cases h : (s.slot k).mayThrow (s.wantedLeg k r)
    · rw [State.evaluateThrow_of_mayThrow hq h, State.slot_setSlot]
      rfl
    · rw [State.evaluateThrow_of_not_mayThrow hq h]

/-- R78 to R80: the ends and the reconciliation leave the slot's service state. -/
theorem State.service_afterEnds (k : SlotIx) (n : Nat) (u : State) :
    ((State.afterEnds k n u).1.slot k).service = (u.slot k).service := by
  induction n generalizing u with
  | zero => rfl
  | succ n ih =>
    cases hz : (u.slot k).zone with
    | nil => rw [State.afterEnds_of_noneEnds k (n + 1) u (by rw [hz]; intro p hp; simp at hp)]
    | cons p rest =>
      by_cases hp : p.ends = true
      · rw [State.afterEnds_of_ends k n u p rest hz hp]
        have hslot : (u.afterEnd p).slot k = u.slot k := congrArg (fun v => v[k]) (u.slots_afterEnd p)
        dsimp only
        rw [ih, hslot]
        split
        · rw [State.service_evaluateThrow, State.slot_setSlot]
        · rw [State.slot_setSlot]
      · rw [State.afterEnds_of_noneEnds k (n + 1) u (by
          rw [hz]; intro y hy; obtain rfl : p = y := by simpa using hy
          simpa using hp)]

theorem State.service_afterReconcile (k : SlotIx) (n : Nat) (u : State) :
    ((State.afterReconcile k n u).1.slot k).service = (u.slot k).service := by
  induction n generalizing u with
  | zero => rfl
  | succ n ih =>
    cases hi : (u.slot k).zone.findIdx? (fun p => decide (0 < p.out ∧ p.out < p.axlesIn)) with
    | none =>
      unfold State.afterReconcile
      rw [hi]
    | some i =>
      obtain ⟨hl, -⟩ := List.findIdx?_eq_some_iff_getElem.mp hi
      obtain ⟨p, hp⟩ : ∃ p, (u.slot k).zone[i]? = some p := ⟨_, List.getElem?_eq_getElem hl⟩
      rw [State.afterReconcile_of_partOut k n u i p hi hp]
      dsimp only
      rw [ih, State.service_afterEnds]
      split
      · rw [State.service_evaluateThrow, State.slot_setSlot]
      · rw [State.slot_setSlot]

/-- R36, R80: the event in the terms of `State.afterReconcile`. -/
theorem leaves_foulingClear {s : State} {k : SlotIx} (hs : s.slotServing k = true)
    (hf : (s.slot k).foulingOccupied = true) :
    let w := State.afterReconcile k (s.slot k).zone.length (s.setSlot k { s.slot k with foulingOccupied := false })
    Leaves (.foulingClear k) s
      ((w.1.setSlot k { w.1.slot k with
        service := if (s.slot k).service = .settling then .inUse else (s.slot k).service }).evaluateThrow k) w.2 := by
  intro w
  set v := s.setSlot k { s.slot k with foulingOccupied := false } with hv
  have hslot : v.slot k = { s.slot k with foulingOccupied := false } := State.slot_setSlot s k _
  have hquiet : Offered s v v [] := Offered.of_queue rfl
  have hserving := State.serving_of_slotServing hs
  obtain ⟨hoffered, hkind, -⟩ := hquiet.reconcileAll k (s.slot k).zone.length (by simp) (by exact hserving)
  rw [List.nil_append] at hoffered hkind
  have hservice : (w.1.slot k).service = (s.slot k).service := by
    rw [State.service_afterReconcile, hslot]
  have hreconcile : v.reconcile k = State.reconcileAll k (s.slot k).zone.length v := by
    unfold State.reconcile
    rw [hslot]
  have hsettled := hoffered.map (fun x => x.endSettling k) fun x c n q => by
    rw [State.endSettling_eq, State.endSettling_eq]
    rfl
  have hlast := (hsettled.evaluateThrow k).reported
  rw [State.endSettling_eq w.1, hservice, ← hreconcile] at hlast
  exact Leaves.of_reported (exec_foulingClear_of_new hs hf) hlast hkind

theorem State.afterReconcile_of_none (k : SlotIx) (n : Nat) {u : State}
    (h : ∀ p ∈ (u.slot k).zone, p.out = 0 ∨ p.axlesIn ≤ p.out) : State.afterReconcile k n u = (u, []) := by
  have hfind : (u.slot k).zone.findIdx? (fun p => decide (0 < p.out ∧ p.out < p.axlesIn)) = none :=
    List.findIdx?_eq_none_iff.mpr fun p hp => by
      have := h p hp
      simp only [decide_eq_false_iff_not]
      omega
  cases n with
  | zero => rfl
  | succ n =>
    unfold State.afterReconcile
    rw [hfind]

/-- R36, R44: point control evaluates before the slot enters service and again after it; the first evaluation is of no
account. -/
theorem State.evaluateThrow_settled (s : State) (k : SlotIx) :
    ((s.evaluateThrow k).setSlot k { (s.evaluateThrow k).slot k with
        service := if (s.slot k).service = .settling then .inUse else (s.slot k).service }).evaluateThrow k
      = (s.setSlot k { s.slot k with
        service := if (s.slot k).service = .settling then .inUse else (s.slot k).service }).evaluateThrow k := by
  cases hq : (s.slot k).queue with
  | nil => rw [State.evaluateThrow_of_empty hq]
  | cons r rest =>
    by_cases h : (s.slot k).mayThrow (s.wantedLeg k r)
    · have hthrown := State.evaluateThrow_of_mayThrow hq h
      obtain ⟨hzone, hservice, hrest⟩ := h
      have hno : ¬(s.slot k).service = .settling := by simp [hservice]
      rw [if_neg hno]
      rw [show ({ s.slot k with service := (s.slot k).service } : Slot) = s.slot k from rfl, State.setSlot_self, hthrown,
        State.slot_setSlot]
      rw [show ({ (s.slot k).thrownToward (s.wantedLeg k r) (s.slotCfg k).retries (s.time + (s.slotCfg k).throwLimit) with
          service := (s.slot k).service } : Slot)
        = (s.slot k).thrownToward (s.wantedLeg k r) (s.slotCfg k).retries (s.time + (s.slotCfg k).throwLimit) from rfl,
        State.setSlot_setSlot]
      refine State.evaluateThrow_of_not_mayThrow (r := r) (rest := rest) (by rw [State.slot_setSlot]; exact hq) ?_
      rintro ⟨-, -, -, hmoving, -⟩
      rw [State.slot_setSlot] at hmoving
      exact Bool.noConfusion hmoving
    · rw [State.evaluateThrow_of_not_mayThrow hq h]

/-- R80: one passage, part out and alone in its zone list. -/
theorem State.afterReconcile_of_single {k : SlotIx} {u : State} {p : Passage} (hz : (u.slot k).zone = [p])
    (hout : 0 < p.out) (hin : p.out < p.axlesIn) :
    State.afterReconcile k 1 u =
      let inc := imbalanceIncident k (u.record p.record) p
      let a := (u.addFlags p.record { imbalance := true }).captureAlarm inc
      (((a.afterEnd p).setSlot k { u.slot k with zone := [] }).evaluateThrow k, u.reportOf inc :: a.endFrames k p) := by
  have hfind : (u.slot k).zone.findIdx? (fun p => decide (0 < p.out ∧ p.out < p.axlesIn)) = some 0 := by
    rw [hz, List.findIdx?_cons, if_pos (decide_eq_true ⟨hout, hin⟩)]
  have hends (x : State) (y : Slot) : State.afterEnds k
      (((x.setSlot k { y with zone := [] }).evaluateThrow k).slot k).zone.length
      ((x.setSlot k { y with zone := [] }).evaluateThrow k) = ((x.setSlot k { y with zone := [] }).evaluateThrow k, []) := by
    rw [State.zone_evaluateThrow, State.slot_setSlot]
    rfl
  rw [State.afterReconcile_of_partOut k 0 u 0 p hfind (by rw [hz]; rfl), hz]
  dsimp only [List.eraseIdx_cons_zero]
  rw [if_pos rfl, hends]
  simp [State.afterReconcile]
  exact ⟨rfl, rfl, rfl⟩

theorem watchedTags_eq_nil {watches : List Tag} {tags : List Tag} (h : ∀ tag ∈ tags, tag ∉ watches) :
    watchedTags watches tags = [] ∧ tags.foldl List.erase watches = watches := by
  induction tags with
  | nil => exact ⟨rfl, rfl⟩
  | cons tag tags ih =>
    have htag := h tag List.mem_cons_self
    obtain ⟨htags, herase⟩ := ih fun x hx => h x (List.mem_cons_of_mem _ hx)
    refine ⟨(if_neg htag).trans htags, ?_⟩
    rw [List.foldl_cons, List.erase_of_not_mem htag, herase]

theorem Record.mem_watchable {r : Record} {tag : Tag} :
    tag ∈ r.watchable ↔ tag = r.tag ∨ ∃ c, r.companion = some c ∧ tag = c.tag := by
  unfold Record.watchable
  cases r.companion <;> simp

/-- R14: what a record held when it is freed does not count. -/
theorem State.freeRecord_setRecord (u : State) (i : RecIx) (r : Record) (inc : Incident) :
    ((u.setRecord i r).captureAlarm inc).freeRecord i = (u.captureAlarm inc).freeRecord i := by
  unfold State.captureAlarm State.freeRecord State.setRecord
  dsimp only
  split <;> simp [Vector.set_set]

/-- R80, R107: the reconciled passage alone in its zone list, on a leg to a track. -/
theorem leaves_foulingClear_single {s : State} {k : SlotIx} (hs : s.slotServing k = true)
    (hf : (s.slot k).foulingOccupied = true) {p : Passage} {taken : Leg} {n : Nat} (hz : (s.slot k).zone = [p])
    (hout : 0 < p.out) (hin : p.out < p.axlesIn) (ht : p.taken = some taken)
    (hleg : (s.slotCfg k).legEnd taken = .track n) (hh : p.handoff = .none)
    (hw : ∀ tag ∈ (s.record p.record).watchable, tag ∉ s.watches) :
    let inc := imbalanceIncident k (s.record p.record) p
    Leaves (.foulingClear k) s
      ((((s.setSlot k { s.slot k with
          foulingOccupied := false
          service := if (s.slot k).service = .settling then .inUse else (s.slot k).service
          zone := [] }).captureAlarm inc).freeRecord p.record).evaluateThrow k)
      [s.reportOf inc, arrivalFrame k taken n ((s.record p.record).flagged { imbalance := true })] := by
  intro inc
  set v := s.setSlot k { s.slot k with foulingOccupied := false } with hv
  have hslot : v.slot k = { s.slot k with foulingOccupied := false } := State.slot_setSlot s k _
  set a := (v.addFlags p.record { imbalance := true }).captureAlarm inc with ha
  have harecord : a.record p.record = (s.record p.record).flagged { imbalance := true } := by
    have hcaptured (u : State) (r : RecIx) : (u.captureAlarm inc).record r = u.record r := by
      unfold State.captureAlarm
      split <;> rfl
    rw [ha, hcaptured]
    exact State.record_setRecord _ _ _
  have hawatches : a.watches = s.watches := by
    rw [ha]
    unfold State.captureAlarm
    split <;> rfl
  obtain ⟨hafter, hdisplaced⟩ := State.afterEnd_of_done (s := a) ht (.inl hh)
  obtain ⟨hhits, herase⟩ := watchedTags_eq_nil (watches := a.watches) (tags := (a.record p.record).watchable) (by
    rw [harecord, hawatches]
    exact hw)
  have hunwatched : a.unwatched p.record = a := by
    unfold State.unwatched
    rw [herase]
  have hframes : a.endFrames k p = [arrivalFrame k taken n ((s.record p.record).flagged { imbalance := true })] := by
    have hacfg : a.slotCfg k = s.slotCfg k := State.slotCfg_captureAlarm _ _ _
    rw [State.endFrames_of_taken ht, hhits, hdisplaced, hacfg, hleg, harecord]
    rfl
  have hclear := leaves_foulingClear hs hf
  have hreconciled : State.afterReconcile k (s.slot k).zone.length v = _ :=
    (congrArg (fun l : List Passage => State.afterReconcile k l.length v) hz).trans
      (State.afterReconcile_of_single (u := v) (p := p) (by rw [hslot]; exact hz) hout hin)
  dsimp only at hclear hreconciled
  rw [show imbalanceIncident k (v.record p.record) p = inc from rfl, ← ha, hafter, hframes, hunwatched, hslot]
    at hreconciled
  rw [← hv, hreconciled] at hclear
  dsimp only at hclear
  have hleft : (a.freeRecord p.record).setSlot k { s.slot k with
        foulingOccupied := false
        service := if (s.slot k).service = .settling then .inUse else (s.slot k).service
        zone := [] }
      = ((s.setSlot k { s.slot k with
          foulingOccupied := false
          service := if (s.slot k).service = .settling then .inUse else (s.slot k).service
          zone := [] }).captureAlarm inc).freeRecord p.record := by
    rw [State.setSlot_freeRecord, ha, State.setSlot_captureAlarm]
    refine Eq.trans ?_ (State.freeRecord_setRecord _ p.record ((s.record p.record).flagged { imbalance := true }) inc)
    rw [State.addFlags, State.setSlot_setRecord, hv, State.setSlot_setSlot]
    rfl
  have hsettled := State.evaluateThrow_settled
    ((a.freeRecord p.record).setSlot k { s.slot k with foulingOccupied := false, zone := [] }) k
  rw [State.slot_setSlot, State.setSlot_setSlot] at hsettled
  rw [← hleft, ← hsettled]
  exact hclear

/-- Settles O22: the event in the terms of the reconciliation (`leaves_foulingClear`), and its two written cases. -/
theorem foulingClearReconciles : Obligations.FoulingClearReconciles := by
  unfold Obligations.FoulingClearReconciles
  intro s k x cleared
  refine ⟨fun hs hf hnone => ?none, fun hs hf p taken n hz hout hin ht hleg hh => ?single,
    fun hs hf => leaves_foulingClear hs hf, fun h => ?line⟩
  case none =>
    have hclear := leaves_foulingClear hs hf
    dsimp only at hclear
    rw [State.afterReconcile_of_none k _ (by rw [State.slot_setSlot]; exact hnone), State.slot_setSlot,
      State.setSlot_setSlot] at hclear
    exact hclear
  case single =>
    intro r hr hc
    refine leaves_foulingClear_single hs hf hz hout hin ht hleg hh fun tag htag => ?_
    rcases Record.mem_watchable.mp htag with rfl | ⟨c, hcc, rfl⟩
    · exact hr
    · exact hc c hcc
  case line =>
    have hold : ¬(s.slotServing k && (s.slot k).foulingOccupied) = true := by
      rcases h with h | h
      · simp [h]
      · simp [show (s.slot k).foulingOccupied = false from h]
    exact Leaves.of_body (congrArg (finish s) (if_neg hold)) rfl

end Sys2Proof.Machine
end

section
/-! SUPPORT. The sending side of the bus port (sections 8.5 to 8.7): attempts and their ends, and what a full transmit
queue discards. -/

namespace Sys2Proof.Machine

/-! ### Events that leave a formed mask -/

/-- R81: only the ghost timer of a slot follows the event. -/
theorem Slot.timeGhost_eq (b x : Slot) (now gap : Nat) :
    b.timeGhost x now gap = { x with ghostTimer := (b.timeGhost x now gap).ghostTimer } := by
  unfold Slot.timeGhost
  split
  · split <;> rfl
  · rfl

theorem Slot.service_timeGhost (b x : Slot) (now gap : Nat) : (b.timeGhost x now gap).service = x.service :=
  (congrArg Slot.service (b.timeGhost_eq x now gap) :)

theorem Slot.queue_timeGhost (b x : Slot) (now gap : Nat) : (b.timeGhost x now gap).queue = x.queue :=
  (congrArg Slot.queue (b.timeGhost_eq x now gap) :)

theorem Slot.hasStall_timeGhost (b x : Slot) (now gap : Nat) : (b.timeGhost x now gap).hasStall = x.hasStall :=
  (congrArg Slot.hasStall (b.timeGhost_eq x now gap) :)

/-- R128: where the mask is formed, what follows an event offers nothing. -/
theorem State.settle_of_formed {s : State} (hf : s.formMask = s.holdMask) (b : State) :
    b.settle s = (b.timeGhosts s).setLines := by
  have hghosts : (b.timeGhosts s).formMask = (b.timeGhosts s).holdMask := by
    rw [State.holdMask_timeGhosts, ← hf]
    unfold State.formMask State.inState State.pressed State.hasOverdue
    simp only [State.slot_timeGhosts, Slot.service_timeGhost, Slot.queue_timeGhost, Slot.hasStall_timeGhost]
    rfl
  unfold State.settle
  rw [State.updateMask_of_formed hghosts, State.updateMask_of_formed hghosts]

/-- An event that leaves a formed mask has done what its body did, but for lines and ghost timers. -/
theorem next_of_formed {c : Instr} {s b : State} (hc : exec c s = finish s b) (hf : b.formMask = b.holdMask) :
    ∃ t, exec c s = .next t ∧ t.port = b.port ∧ t.apartFromFrames = b.apartFromFrames := by
  refine ⟨_, hc, ?_, ?_⟩
  · rw [State.settle_of_formed hf, State.port_setLines]
    rfl
  · rw [State.settle_of_formed hf, State.apartFromFrames_setLines, State.apartFromFrames_timeGhosts]

theorem next_of_setPort {c : Instr} {s : State} {p : Port} (hf : s.formMask = s.holdMask)
    (hc : exec c s = finish s (s.setPort p)) :
    ∃ t, exec c s = .next t ∧ t.port = p ∧ t.apartFromFrames = { s with port := p }.apartFromFrames :=
  next_of_formed hc ((State.formMask_congr rfl rfl rfl rfl rfl).trans hf)

/-! ### Attempts (R144, R148, R150, R151) -/

section
variable {s : State}

theorem exec_transmitAttempt_of_start (hs : s.serving = true) (hi : s.port.sending = none)
    (hm : s.port.mayStart = true) :
    exec .transmitAttempt s = finish s (s.setPort { s.port.start with seenIdle := true }) :=
  if_pos ⟨hs, hi, hm⟩

/-- R142: an idle bus gives the port its footing. -/
theorem exec_transmitAttempt_of_idle (hs : s.serving = true) (h : s.port.sending ≠ none ∨ s.port.mayStart ≠ true) :
    exec .transmitAttempt s = finish s (s.setPort { s.port with seenIdle := true }) :=
  (if_neg fun ⟨_, hi, hm⟩ => h.elim (· hi) (· hm)).trans (if_pos hs)

theorem exec_arbitrationLost_of_sending {f : OutFrame} (h : s.port.sending = some f) :
    exec .arbitrationLost s = finish s (s.setPort (s.port.loseArbitration s.time)) := by
  show execArbitrationLost s = _
  unfold execArbitrationLost
  rw [h]

theorem exec_transmitError_of_sending {f : OutFrame} (h : s.port.sending = some f) :
    exec .transmitError s = finish s (s.setPort (s.port.fail s.time)) := by
  show execTransmitError s = _
  unfold execTransmitError
  rw [h]

theorem exec_arbitrationLost_of_none (h : s.port.sending = none) : exec .arbitrationLost s = finish s s := by
  show execArbitrationLost s = _
  unfold execArbitrationLost
  rw [h]

theorem exec_transmitError_of_none (h : s.port.sending = none) : exec .transmitError s = finish s s := by
  show execTransmitError s = _
  unfold execTransmitError
  rw [h]

end

theorem Port.mayStart_of_active {p : Port} (h : p.mode = .active) : p.mayStart = true := by simp [Port.mayStart, h]

theorem Port.mayStart_of_mute {p : Port} (h : p.mode = .mute) : p.mayStart = (p.retry == .attemptPending) := by
  simp [Port.mayStart, h]

theorem Port.start_of_cons {p : Port} {e : TxEntry} {rest : List TxEntry} (h : p.queue = e :: rest) :
    p.start = { p with
      queue := { e with onBus := true, replaced := false } :: rest
      sending := some e.frame
      retry := p.retry.begun } := by
  unfold Port.start
  rw [h]

theorem Port.start_of_nil {p : Port} (h : p.queue = []) : p.start = p := by
  unfold Port.start
  rw [h]

theorem Port.loseArbitration_of_active {p : Port} (h : p.mode = .active) (now : Nat) :
    p.loseArbitration now = p.endAttempt := by simp [Port.loseArbitration, h]

theorem Port.loseArbitration_of_mute {p : Port} (h : p.mode = .mute) (now : Nat) :
    p.loseArbitration now = p.endAttempt.retryLater now := by simp [Port.loseArbitration, h]

theorem Port.fail_of_mute {p : Port} (h : p.mode = .mute) (now : Nat) : p.fail now = p.endAttempt.retryLater now := by
  simp [Port.fail, h]

theorem Port.fail_of_active {p : Port} (h : p.mode = .active) (now : Nat) :
    p.fail now = if p.failures + 1 < Config.muteThreshold then { p.endAttempt with failures := p.failures + 1 }
      else { p.endAttempt with
        failures := Config.muteThreshold
        mode := .mute
        retry := .running (now + Config.muteRetryTime) } := by
  simp [Port.fail, h]

/-- Settles O29: the head goes on the bus, and comes back with the count or the retry timer its failure brings. -/
theorem attemptsBeginAndFailAsTheRulesSay : Obligations.AttemptsBeginAndFailAsTheRulesSay := by
  unfold Obligations.AttemptsBeginAndFailAsTheRulesSay
  intro s hf p off gives
  have hthreshold : Config.muteThreshold = 16 := rfl
  refine ⟨fun e rest hs hq hi => ⟨fun hm hr => ?active, fun hm hr => ?mute⟩, fun hs h => ?footing, fun hs => ?outside,
    fun f hsend => ⟨fun hm => ⟨?lost, fun hn => ?error, fun hn => ?sixteenth⟩, fun hm => ?retry⟩, fun hi => ?nothing⟩
  case active =>
    refine next_of_setPort hf ((exec_transmitAttempt_of_start hs hi (Port.mayStart_of_active hm)).trans ?_)
    rw [Port.start_of_cons hq, show s.port.retry = .stopped from hr]
    simp only [RetryTimer.begun]
  case mute =>
    have hmay : s.port.mayStart = true := by rw [Port.mayStart_of_mute hm, hr]; rfl
    refine next_of_setPort hf ((exec_transmitAttempt_of_start hs hi hmay).trans ?_)
    rw [Port.start_of_cons hq, show s.port.retry = .attemptPending from hr]
    rfl
  case footing =>
    by_cases hstart : s.port.sending = none ∧ s.port.mayStart = true
    · obtain ⟨hi, hmay⟩ := hstart
      have hempty : s.port.queue = [] := by
        rcases h with h | h | ⟨hm, hr⟩
        · exact h
        · exact absurd hi h
        · rw [Port.mayStart_of_mute hm] at hmay
          exact absurd (beq_iff_eq.mp hmay) hr
      refine next_of_setPort hf ((exec_transmitAttempt_of_start hs hi hmay).trans ?_)
      rw [Port.start_of_nil hempty]
    · exact next_of_setPort hf (exec_transmitAttempt_of_idle hs (Decidable.not_and_iff_not_or_not.mp hstart))
  case outside =>
    have hs' : ¬s.serving = true := by simp [hs]
    exact next_of_formed ((if_neg fun h => hs' h.1).trans (if_neg hs')) hf
  case lost =>
    refine next_of_setPort hf ((exec_arbitrationLost_of_sending hsend).trans ?_)
    rw [Port.loseArbitration_of_active hm]
    rfl
  case error =>
    refine next_of_setPort hf ((exec_transmitError_of_sending hsend).trans ?_)
    rw [Port.fail_of_active hm, if_pos (show p.failures + 1 < Config.muteThreshold by omega)]
    rfl
  case sixteenth =>
    refine next_of_setPort hf ((exec_transmitError_of_sending hsend).trans ?_)
    rw [Port.fail_of_active hm, if_neg (show ¬p.failures + 1 < Config.muteThreshold by omega)]
    rfl
  case retry =>
    refine ⟨next_of_setPort hf ((exec_arbitrationLost_of_sending hsend).trans ?_),
      next_of_setPort hf ((exec_transmitError_of_sending hsend).trans ?_)⟩
    · rw [Port.loseArbitration_of_mute hm]
      rfl
    · rw [Port.fail_of_mute hm]
      rfl
  case nothing =>
    exact ⟨next_of_formed (exec_arbitrationLost_of_none hi) hf, next_of_formed (exec_transmitError_of_none hi) hf⟩

/-! ### Success (R90, R148, R150) -/

/-- R148, R150: the frame on the bus leaves a queue, unless its contents were replaced. -/
theorem sentQueue_of_split {before after : List TxEntry} {e : TxEntry} (he : e.onBus = true)
    (h : ∀ x ∈ before ++ after, x.onBus = false ∧ x.replaced = false) :
    sentQueue (before ++ e :: after) = if e.replaced = true then before ++ { e with onBus := false, replaced := false } :: after
      else before ++ after := by
  have hkeep (q : List TxEntry) (hq : ∀ x ∈ q, x.onBus = false ∧ x.replaced = false) : sentQueue q = q := by
    have hall : q.filter (fun e => !e.onBus || e.replaced) = q :=
      List.filter_eq_self.mpr fun x hx => by simp [(hq x hx).1]
    unfold sentQueue
    rw [hall]
    conv_rhs => rw [← List.map_id q]
    refine List.map_congr_left fun x hx => ?_
    obtain ⟨frame, owner, onBus, replaced⟩ := x
    obtain ⟨rfl, rfl⟩ := hq _ hx
    rfl
  have hsplit (q r : List TxEntry) : sentQueue (q ++ r) = sentQueue q ++ sentQueue r := by simp [sentQueue]
  have hhead : sentQueue (e :: after) = sentQueue [e] ++ sentQueue after := hsplit [e] after
  rw [hsplit, hhead, hkeep before fun x hx => h x (List.mem_append_left _ hx),
    hkeep after fun x hx => h x (List.mem_append_right _ hx)]
  unfold sentQueue
  by_cases hr : e.replaced = true <;> simp [he, hr]

theorem Port.sendingOwner_of_split {p : Port} {before after : List TxEntry} {e : TxEntry}
    (hq : p.queue = before ++ e :: after) (he : e.onBus = true) (h : ∀ x ∈ before, x.onBus = false) :
    p.sendingOwner = e.owner := by
  have hfind : p.queue.find? TxEntry.onBus = some e := by
    rw [hq, List.find?_append, List.find?_eq_none.mpr fun x hx => by simp [h x hx]]
    simp [he]
  unfold Port.sendingOwner
  rw [hfind]

theorem exec_frameSent_of_sending {s : State} {f : OutFrame} (h : s.port.sending = some f) :
    exec .frameSent s = finish s ((s.setPort s.port.succeed).tellSent f s.port.sendingOwner) := by
  show execFrameSent s = _
  unfold execFrameSent
  rw [h]

/-- R90: only the sending of a HANDOFF whose context is PENDING starts its timer. -/
theorem State.startReplyTimer_of_pending {s : State} {n : Nat} {h : Handoff} {a : Attempt} {d : Option Nat}
    (hh : s.handoff? n = some h) (hs : h.status = .pending a d) :
    s.startReplyTimer n = s.setStatus n (.pending a (some (s.time + s.cfg.handoffTimeout))) := by
  simp only [State.startReplyTimer, hh, hs]

theorem State.startReplyTimer_of_resolved {s : State} {n : Nat}
    (h : ∀ x, s.handoff? n = some x → ∃ o, x.status = .resolved o) : s.startReplyTimer n = s := by
  unfold State.startReplyTimer
  split
  · rfl
  · rename_i x hx
    obtain ⟨o, ho⟩ := h x hx
    rw [ho]

/-- R150: only a START and a HANDOFF have an owner to be told. -/
theorem State.tellSent_of_other {f : OutFrame} (h1 : f.kind ≠ .start) (h2 : f.kind ≠ .handoff) (s : State)
    (o : Option Nat) : s.tellSent f o = s := by
  cases f with
  | start role n sum => exact absurd rfl h1
  | handoff x => exact absurd rfl h2
  | _ => rfl

/-- Settles O30: the frame leaves the queue and its owner is told. -/
theorem frameSentTellsTheOwner : Obligations.FrameSentTellsTheOwner := by
  unfold Obligations.FrameSentTellsTheOwner
  intro s f e before after hf hsend hq he hother kept p gives
  have hsuccess : s.port.succeed = p := by
    unfold Port.succeed
    rw [hq, sentQueue_of_split he hother]
  have howner : s.port.sendingOwner = e.owner :=
    Port.sendingOwner_of_split hq he fun x hx => (hother x (List.mem_append_left _ hx)).1
  have hexec : exec .frameSent s = finish s ((s.setPort p).tellSent f e.owner) := by
    rw [exec_frameSent_of_sending hsend, hsuccess, howner]
  refine ⟨fun hk => ?start, fun hk n hn => ⟨fun h a timer hh hs => ?pending, fun hr => ?resolved⟩, fun h1 h2 => ?other⟩
  case start =>
    obtain ⟨role, n, sum, rfl⟩ : ∃ role n sum, f = .start role n sum := by
      cases f with
      | start role n sum => exact ⟨role, n, sum, rfl⟩
      | _ => cases hk
    exact next_of_formed hexec ((State.formMask_congr rfl rfl rfl rfl rfl).trans hf)
  case other =>
    refine next_of_setPort hf (hexec.trans ?_)
    rw [State.tellSent_of_other h1 h2]
  all_goals
    obtain ⟨x, rfl⟩ : ∃ x, f = .handoff x := by
      cases f with
      | handoff x => exact ⟨x, rfl⟩
      | _ => cases hk
    rw [hn] at hexec
  case pending =>
    have htell : (s.setPort p).tellSent (.handoff x) (some n)
        = (s.setPort p).setStatus n (.pending a (some (s.time + s.cfg.handoffTimeout))) :=
      State.startReplyTimer_of_pending (s := s.setPort p) hh hs
    rw [htell] at hexec
    exact next_of_formed hexec ((State.formMask_congr rfl rfl rfl rfl rfl).trans hf)
  case resolved =>
    have htell : (s.setPort p).tellSent (.handoff x) (some n) = s.setPort p :=
      State.startReplyTimer_of_resolved (s := s.setPort p) hr
    rw [htell] at hexec
    exact next_of_setPort hf hexec

end Sys2Proof.Machine
end

section
/-! SUPPORT. What a full transmit queue discards (section 8.5), and what the discard of a HANDOFF brings (R91, R92). -/

namespace Sys2Proof.Machine

/-! ### Places in the queue (R147, R149) -/

/-- R147: in a queue in order a frame enters behind every frame as urgent as it, and before every other. -/
theorem insertByUrgency_split (e : TxEntry) {q : List TxEntry} (hq : q.Pairwise (fun a b => a.urgency ≤ b.urgency)) :
    ∃ before after, q = before ++ after ∧ (∀ a ∈ before, a.urgency ≤ e.urgency)
      ∧ (∀ a ∈ after, e.urgency < a.urgency) ∧ insertByUrgency e q = before ++ e :: after := by
  induction q with
  | nil => exact ⟨[], [], rfl, by simp, by simp, rfl⟩
  | cons x xs ih =>
    obtain ⟨hx, hxs⟩ := List.pairwise_cons.mp hq
    unfold insertByUrgency
    split
    · rename_i hlt
      exact ⟨[], x :: xs, rfl, by simp, List.forall_mem_cons.mpr ⟨hlt, fun a ha => Nat.lt_of_lt_of_le hlt (hx a ha)⟩, rfl⟩
    · rename_i hle
      obtain ⟨before, after, rfl, hb, ha, hins⟩ := ih hxs
      exact ⟨x :: before, after, rfl, List.forall_mem_cons.mpr ⟨Nat.le_of_not_lt hle, hb⟩, ha, by rw [hins]; rfl⟩

theorem insertByUrgency_behind {e a : TxEntry} {q : List TxEntry} (hq : q.Pairwise (fun a b => a.urgency ≤ b.urgency))
    (ha : a ∈ q) (hu : a.urgency ≤ e.urgency) : [a, e].Sublist (insertByUrgency e q) := by
  obtain ⟨before, after, rfl, hb, hafter, hins⟩ := insertByUrgency_split e hq
  have hmem : a ∈ before := (List.mem_append.mp ha).resolve_right fun h => Nat.not_lt.mpr hu (hafter a h)
  rw [hins]
  exact (List.singleton_sublist.mpr hmem).append (List.singleton_sublist.mpr List.mem_cons_self)

/-- R149: the frame on the bus is passed over. -/
theorem takeYoungest_of_split {v : TxEntry} {tail : List TxEntry} (hv : v.onBus = false)
    (ht : ∀ b ∈ tail, b.onBus = true) (q : List TxEntry) :
    takeYoungest (q ++ v :: tail) = some (v, q ++ tail) := by
  have htail : takeYoungest tail = none := by
    cases h : takeYoungest tail with
    | none => rfl
    | some r =>
      obtain ⟨hperm, -, hoff⟩ := takeYoungest_spec h
      have hon := ht r.1 (hperm.mem_iff.mpr List.mem_cons_self)
      rw [hoff] at hon
      exact Bool.noConfusion hon
  induction q with
  | nil =>
    show takeYoungest (v :: tail) = _
    unfold takeYoungest
    rw [htail]
    simp [hv]
  | cons x xs ih =>
    show takeYoungest (x :: (xs ++ v :: tail)) = _
    unfold takeYoungest
    rw [ih]
    rfl

/-- R149: a full queue gives up its youngest frame of the largest urgency number, or the frame offered. -/
theorem enqueue_of_full {e v : TxEntry} {q rest : List TxEntry} (hl : q.length = 16)
    (hrep : ¬(e.isHoldState = true ∧ q.any TxEntry.isHoldState = true)) (hy : takeYoungest q = some (v, rest)) :
    enqueue e q = if e.urgency < v.urgency then (insertByUrgency e rest, some v) else (q, some e) := by
  have hcap : Config.transmitCapacity = 16 := rfl
  unfold enqueue
  rw [if_neg (mt Bool.and_eq_true_iff.mp hrep), if_neg (by omega), hy]

/-- R149: after a discard no frame less urgent than it is off the bus, so the queue displaces every frame that is no
more urgent. -/
theorem displaces_of_discard {e x d : TxEntry} {q q' : List TxEntry}
    (hq : q.Pairwise (fun a b => a.urgency ≤ b.urgency)) (h : enqueue e q = (q', some d))
    (hx : x.isHoldState = false) (hu : d.urgency ≤ x.urgency) : Displaces q' x := by
  have hnot : ¬(x.isHoldState = true ∧ q'.any TxEntry.isHoldState = true) := by simp [hx]
  rcases enqueue_cases e q with ⟨-, -, hc⟩ | hc | ⟨v, rest, hy, hlt, hc⟩ | ⟨⟨-, hfull, hyoungest⟩, hc⟩
  · simp [hc] at h
  · simp [hc] at h
  · obtain ⟨rfl, rfl⟩ : insertByUrgency e rest = q' ∧ v = d := by simpa [hc] using h
    obtain ⟨hperm, hsub, hoff⟩ := takeYoungest_spec hy
    refine ⟨hnot, ?_, fun w rest' hw => ?_⟩
    · have hroom : Config.transmitCapacity ≤ q.length := by
        by_contra hlt'
        have := enqueue_of_room e q (Nat.lt_of_not_le hlt')
        rw [hc] at this
        cases this
      have hlen := hperm.length_eq
      rw [length_insertByUrgency]
      rw [List.length_cons] at hlen
      omega
    · obtain ⟨hperm', -, hoff'⟩ := takeYoungest_spec hw
      have hmem : w ∈ insertByUrgency e rest := hperm'.mem_iff.mpr List.mem_cons_self
      rcases (mem_insertByUrgency e w rest).mp hmem with rfl | hmem
      · omega
      · exact Nat.le_trans (urgency_le_of_takeYoungest hq hy w (hsub.subset hmem) hoff') hu
  · obtain ⟨rfl, rfl⟩ : q = q' ∧ e = d := by simpa [hc] using h
    exact ⟨hnot, hfull, fun v rest hy => Nat.le_trans (hyoungest v rest hy) hu⟩

/-! ### A discarded HANDOFF (R91, R92, R149) -/

/-- R91: the capture takes the OUTQ_OVERFLOW of a discarded report. -/
theorem State.raise_of_displaces {s : State} (hs : s.serving = true) {inc : Incident} (ha : isAlarm inc.kind = true)
    (hd : ∀ f : OutFrame, f.kind = .incident → Displaces s.port.queue (.offered f none)) :
    s.raise inc = (s.captureAlarm inc).captureAlarm (overflowOf .incident) := by
  have hqueue : enqueue (.offered (.incident inc (s.capture == none)) none) s.port.queue = _ :=
    enqueue_of_displaces (hd _ rfl)
  unfold State.raise State.offerReport
  rw [if_pos ha, if_pos (by rwa [State.captureAlarm_serving]), State.captureAlarm_port, hqueue]
  unfold State.noteDiscard
  dsimp only
  rw [← State.captureAlarm_port s inc]
  rfl

/-- R91, R95: what the loss of a PENDING handoff leaves at a queue that takes no report. -/
theorem State.lose_of_displaces {s : State} {n : Nat} {h : Handoff} {a : Attempt} {d : Option Nat}
    (hs : s.serving = true) (hh : s.handoff? n = some h) (hstat : h.status = .pending a d)
    (hd : ∀ f : OutFrame, f.kind = .incident → Displaces s.port.queue (.offered f none)) :
    s.lose n = s.afterLoss h := by
  have hnumber := State.number_of_handoff? hh
  have hraise : State.raise { s with faultLatch := true } (s.lostIncident h) = _ :=
    State.raise_of_displaces (s := { s with faultLatch := true }) hs rfl hd
  rw [State.lose_of_pending s n h hh (State.isPending_of_handoff? hh hstat), hraise]
  have hlost : ({ s with faultLatch := true }.captureAlarm (s.lostIncident h)).waitList = s.waitList :=
    State.waitList_captureAlarm _ _
  subst hnumber
  unfold State.resolve State.afterLoss
  dsimp only
  rw [State.waitList_captureAlarm, hlost]
  cases s.waitList.find? (fun e => e.handoff == h.number) <;> rfl

/-- R91, R92: a second copy that the queue does not take is lost at once. -/
theorem State.secondAttempt_of_displaces {s : State} {n : Nat} {h : Handoff} (hh : s.handoff? n = some h)
    (hd : Displaces s.port.queue (.offered (.handoff h.frame) (some n))) :
    s.secondAttempt n
      = ((s.setStatus n (.pending .second none)).captureAlarm (overflowOf .handoff)).lose n := by
  unfold State.secondAttempt
  rw [hh]
  dsimp only
  rw [enqueue_of_displaces hd]
  rfl

theorem State.handoff?_captureAlarm (s : State) (inc : Incident) (n : Nat) :
    (s.captureAlarm inc).handoff? n = s.handoff? n :=
  congrArg (List.find? _) (State.handoffs_captureAlarm s inc)

section
variable {s : State} {n : Nat} {h : Handoff} (hs : s.serving = true) (hh : s.handoff? n = some h)
  (hd : ∀ f : OutFrame, f.kind = .incident ∨ f.kind = .handoff → ∀ o, Displaces s.port.queue (.offered f o))
include hs hh hd

/-- R92: a second attempt discarded from a queue full of urgent frames is lost, and a first one becomes the second, which
is lost in its turn. -/
theorem State.attemptExpired_of_displaces :
    s.attemptExpired n = match h.status with
      | .resolved _ => s
      | .pending .second _ => s.afterLoss h
      | .pending .first _ =>
        ((s.setStatus h.number (.pending .second none)).captureAlarm (overflowOf .handoff)).afterLoss h := by
  obtain rfl := State.number_of_handoff? hh
  unfold State.attemptExpired
  rw [hh]
  dsimp only
  split <;> rename_i hstat <;> rw [hstat]
  · have hagain : ((s.setStatus h.number (.pending .second none)).captureAlarm (overflowOf .handoff)).handoff? h.number
        = some { h with status := .pending .second none } := by
      rw [State.handoff?_captureAlarm, State.handoff?_setStatus, hh]
      simp
    rw [State.secondAttempt_of_displaces hh (hd _ (.inr rfl) _),
      State.lose_of_displaces (by rwa [State.captureAlarm_serving]) hagain rfl
        (by rw [State.captureAlarm_port]; exact fun f hf => hd f (.inl hf) none)]
    rfl
  · exact State.lose_of_displaces hs hh hstat fun f hf => hd f (.inl hf) none

end

/-- R149: a discarded frame is followed by its OUTQ_OVERFLOW, and then, a HANDOFF, by what its attempt brings. -/
theorem State.offer_of_discard {s : State} {f : OutFrame} {owner : Option Nat} {q : List TxEntry} {d : TxEntry}
    (hs : s.serving = true) (hq : s.port.queue.Pairwise (fun a b => a.urgency ≤ b.urgency))
    (howner : d.owner ≠ none → d.frame.kind = .handoff) (h : enqueue (.offered f owner) s.port.queue = (q, some d)) :
    s.offer f owner = (s.setQueue q).afterDiscard d := by
  unfold State.offer State.afterDiscard
  rw [if_pos hs, h]
  dsimp only
  cases hn : d.owner with
  | none => rfl
  | some n =>
    have hkind := howner (by simp [hn])
    have hdisplaces (x : OutFrame) (hx : x.kind = .incident ∨ x.kind = .handoff) (o : Option Nat) :
        Displaces q (.offered x o) := by
      refine displaces_of_discard hq h ?_ ?_
      · rcases hx with hx | hx <;> simp [TxEntry.isHoldState, TxEntry.offered, hx]
      · unfold TxEntry.urgency OutFrame.urgency
        rcases hx with hx | hx <;> simp [TxEntry.offered, hx, hkind, kindUrgency]
    have hfind := State.handoff?_captureAlarm (s.setQueue q) (overflowIncident d) n
    show State.attemptExpired _ n = match (s.setQueue q).handoff? n with | none => _ | some h => _
    cases hh : (s.setQueue q).handoff? n with
    | none =>
      unfold State.attemptExpired
      rw [hfind, hh]
      rfl
    | some x =>
      rw [hh] at hfind
      refine State.attemptExpired_of_displaces (by rwa [State.captureAlarm_serving]) hfind ?_
      rwa [State.captureAlarm_port]

/-! ### What a discard leaves -/

theorem State.faultLatch_captureAlarm (s : State) (inc : Incident) :
    (s.captureAlarm inc).faultLatch = s.faultLatch := by
  unfold State.captureAlarm
  split <;> rfl

/-- R154: a frozen capture keeps its alarm. -/
theorem State.capture_captureAlarm_of_some {s : State} {x : Captured} (h : s.capture = some x) (inc : Incident) :
    (s.captureAlarm inc).capture = some x := by
  simp [State.captureAlarm, h]

theorem State.capture_captureAlarm_of_none {s : State} (h : s.capture = none) (inc : Incident) :
    (s.captureAlarm inc).capture = some ⟨inc, s.time⟩ := by
  simp [State.captureAlarm, h]

theorem State.capture_afterLoss_of_some {s : State} {x : Captured} (h : s.capture = some x) (y : Handoff) :
    (s.afterLoss y).capture = some x := by
  have hlost := State.capture_captureAlarm_of_some (State.capture_captureAlarm_of_some
    (s := { s with faultLatch := true }) h (s.lostIncident y)) (overflowOf .incident)
  unfold State.afterLoss
  dsimp only
  split <;> exact hlost

theorem State.isPending_dropHandoff (s : State) (n : Nat) : (s.dropHandoff n).isPending n = false := by
  have hfind : (s.dropHandoff n).handoff? n = none := by
    refine List.find?_eq_none.mpr fun x hx => ?_
    simpa using (List.mem_filter.mp hx).2
  simp [State.isPending, hfind]

theorem State.isPending_setStatus_resolved (s : State) (n : Nat) (o : HandoffOutcome) :
    (s.setStatus n (.resolved o)).isPending n = false := by
  unfold State.isPending
  rw [State.handoff?_setStatus]
  cases hx : s.handoff? n with
  | none => rfl
  | some x => simp [State.number_of_handoff? hx]

/-- R91, R129: a handoff that is lost leaves the fault latch set and no PENDING context. -/
theorem State.lost_afterLoss (s : State) (h : Handoff) :
    (s.afterLoss h).faultLatch = true ∧ (s.afterLoss h).isPending h.number = false := by
  have hlatch : (({ s with faultLatch := true }.captureAlarm (s.lostIncident h)).captureAlarm
      (overflowOf .incident)).faultLatch = true := by
    rw [State.faultLatch_captureAlarm, State.faultLatch_captureAlarm]
  unfold State.afterLoss
  dsimp only
  split
  · exact ⟨hlatch, State.isPending_setStatus_resolved _ _ _⟩
  · exact ⟨hlatch, State.isPending_dropHandoff _ _⟩

theorem State.capture_afterDiscard_of_none {s : State} (h : s.capture = none) (d : TxEntry) :
    (s.afterDiscard d).capture = some ⟨overflowOf d.frame.kind, s.time⟩ := by
  have hfirst := State.capture_captureAlarm_of_none h (overflowOf d.frame.kind)
  unfold State.afterDiscard
  dsimp only
  split
  · exact hfirst
  · split
    · exact hfirst
    · exact State.capture_afterLoss_of_some hfirst _
    · refine State.capture_afterLoss_of_some (State.capture_captureAlarm_of_some ?_ _) _
      exact hfirst

/-- R92, R149: a discarded HANDOFF whose context is PENDING is lost where the queue takes no second copy. -/
theorem State.lost_afterDiscard {s : State} {d : TxEntry} {n : Nat} {h : Handoff} {a : Attempt} {t : Option Nat}
    (hn : d.owner = some n) (hh : s.handoff? n = some h) (hs : h.status = .pending a t) :
    (s.afterDiscard d).faultLatch = true ∧ (s.afterDiscard d).isPending n = false := by
  obtain rfl := State.number_of_handoff? hh
  have hbind : d.owner.bind s.handoff? = some h := by rw [hn]; exact hh
  unfold State.afterDiscard
  dsimp only
  rw [hbind]
  dsimp only
  rw [hs]
  cases a <;> exact State.lost_afterLoss _ h

/-- The state under another period timer and with another queue, which what a discard leaves does not look at. -/
def State.requeued (s : State) (t : Option Nat) (q : List TxEntry) : State := { s with periodTimer := t }.setQueue q

theorem State.captureAlarm_requeued (s : State) (t : Option Nat) (q : List TxEntry) (inc : Incident) :
    (s.requeued t q).captureAlarm inc = (s.captureAlarm inc).requeued t q := by
  unfold State.captureAlarm State.requeued
  dsimp only [State.setQueue]
  split <;> rfl

theorem State.afterLoss_requeued (s : State) (t : Option Nat) (q : List TxEntry) (h : Handoff) :
    (s.requeued t q).afterLoss h = (s.afterLoss h).requeued t q := by
  have hlost : (State.captureAlarm { s.requeued t q with faultLatch := true } (s.lostIncident h)).captureAlarm
      (overflowOf .incident)
        = (({ s with faultLatch := true }.captureAlarm (s.lostIncident h)).captureAlarm
          (overflowOf .incident)).requeued t q := by
    rw [← State.captureAlarm_requeued, ← State.captureAlarm_requeued]
    rfl
  have hfind : (s.requeued t q).waitList = s.waitList := rfl
  unfold State.afterLoss
  dsimp only
  rw [hfind]
  cases s.waitList.find? (fun e => decide (e.handoff = h.number)) with
  | none => exact congrArg (fun u => u.setStatus h.number (.resolved .lost)) hlost
  | some e =>
    exact congrArg (fun u => ({ u with
      waitList := s.waitList.eraseP (fun e => decide (e.handoff = h.number)) }.dropHandoff h.number).freeRecord e.record)
      hlost

theorem State.afterDiscard_requeued (s : State) (t : Option Nat) (q : List TxEntry) (d : TxEntry) :
    (s.requeued t q).afterDiscard d = (s.afterDiscard d).requeued t q := by
  have hfirst := State.captureAlarm_requeued s t q (overflowOf d.frame.kind)
  have hfind : d.owner.bind (s.requeued t q).handoff? = d.owner.bind s.handoff? := rfl
  unfold State.afterDiscard
  dsimp only
  rw [hfind, hfirst]
  split
  · rfl
  · rename_i h _
    split
    · rfl
    · exact State.afterLoss_requeued _ t q h
    · have hagain := State.captureAlarm_requeued ((s.captureAlarm (overflowOf d.frame.kind)).setStatus h.number
        (.pending .second none)) t q (overflowOf .handoff)
      rw [← State.afterLoss_requeued, ← hagain]
      rfl

theorem State.kept_captureAlarm (s : State) (inc : Incident) :
    (s.captureAlarm inc).port = s.port ∧ (s.captureAlarm inc).holdMask = s.holdMask
      ∧ (s.captureAlarm inc).nodeState = s.nodeState ∧ (s.captureAlarm inc).time = s.time := by
  unfold State.captureAlarm
  split <;> exact ⟨rfl, rfl, rfl, rfl⟩

theorem State.kept_afterLoss (s : State) (h : Handoff) :
    (s.afterLoss h).port = s.port ∧ (s.afterLoss h).holdMask = s.holdMask
      ∧ (s.afterLoss h).nodeState = s.nodeState ∧ (s.afterLoss h).time = s.time := by
  obtain ⟨hp1, hm1, hn1, ht1⟩ := State.kept_captureAlarm { s with faultLatch := true } (s.lostIncident h)
  obtain ⟨hp2, hm2, hn2, ht2⟩ := State.kept_captureAlarm
    ({ s with faultLatch := true }.captureAlarm (s.lostIncident h)) (overflowOf .incident)
  have hlost := And.intro (hp2.trans hp1) (And.intro (hm2.trans hm1) (And.intro (hn2.trans hn1) (ht2.trans ht1)))
  unfold State.afterLoss
  dsimp only
  split <;> exact hlost

/-- A discard leaves the queue, the mask, the node state and the time. -/
theorem State.kept_afterDiscard (s : State) (d : TxEntry) :
    (s.afterDiscard d).port = s.port ∧ (s.afterDiscard d).holdMask = s.holdMask
      ∧ (s.afterDiscard d).nodeState = s.nodeState ∧ (s.afterDiscard d).time = s.time := by
  have hfirst := State.kept_captureAlarm s (overflowOf d.frame.kind)
  have hloss {u : State} (hu : u.port = s.port ∧ u.holdMask = s.holdMask ∧ u.nodeState = s.nodeState ∧ u.time = s.time)
      (h : Handoff) : (u.afterLoss h).port = s.port ∧ (u.afterLoss h).holdMask = s.holdMask
        ∧ (u.afterLoss h).nodeState = s.nodeState ∧ (u.afterLoss h).time = s.time := by
    obtain ⟨hp, hm, hn, ht⟩ := State.kept_afterLoss u h
    obtain ⟨hp', hm', hn', ht'⟩ := hu
    exact ⟨hp.trans hp', hm.trans hm', hn.trans hn', ht.trans ht'⟩
  unfold State.afterDiscard
  dsimp only
  split
  · exact hfirst
  · rename_i h _
    split
    · exact hfirst
    · exact hloss hfirst h
    · refine hloss ?_ h
      obtain ⟨hp, hm, hn, ht⟩ := State.kept_captureAlarm
        ((s.captureAlarm (overflowOf d.frame.kind)).setStatus h.number (.pending .second none)) (overflowOf .handoff)
      obtain ⟨hp', hm', hn', ht'⟩ := hfirst
      exact ⟨hp.trans hp', hm.trans hm', hn.trans hn', ht.trans ht'⟩

/-! ### The obligation -/

theorem exec_periodTimerExpiry_of_running {s : State} {d : Nat} (h : s.periodTimer = some d) :
    exec .periodTimerExpiry s = finish s (s.reach d).offerHoldState := by
  show execPeriodTimerExpiry s = _
  unfold execPeriodTimerExpiry
  rw [h]

theorem urgency_offered_holdState (m : HoldMask) (n : NodeState) :
    (TxEntry.offered (.holdState m n) none).urgency = 0 := rfl

/-- R132, R149: at a full queue the HOLD_STATE of the period timer takes the place of the youngest of the least
urgent. -/
theorem State.offerHoldState_of_full {s : State} {v : TxEntry} {q tail : List TxEntry} (hs : s.serving = true)
    (hqueue : s.port.queue = q ++ v :: tail) (hl : s.port.queue.length = 16)
    (hq : s.port.queue.Pairwise (fun a b => a.urgency ≤ b.urgency)) (hv : v.onBus = false)
    (ht : ∀ b ∈ tail, b.onBus = true) (hnone : s.port.queue.any TxEntry.isHoldState = false) (hu : 0 < v.urgency)
    (howner : v.owner ≠ none → v.frame.kind = .handoff) :
    s.offerHoldState = (s.afterDiscard v).requeued (some (s.time + Config.periodTime))
      (insertByUrgency (.offered (.holdState s.holdMask .inService) none) (q ++ tail)) := by
  have hin : s.nodeState = .inService := beq_iff_eq.mp hs
  have hoff : ¬((TxEntry.offered (.holdState s.holdMask .inService) none).isHoldState = true
      ∧ s.port.queue.any TxEntry.isHoldState = true) := by simp [hnone]
  have henq := enqueue_of_full hl hoff (by rw [hqueue]; exact takeYoungest_of_split hv ht q)
  rw [urgency_offered_holdState, if_pos hu] at henq
  have hoffer := State.offer_of_discard (s := { s with periodTimer := some (s.time + Config.periodTime) }) hs hq howner henq
  have hbody : s.offerHoldState = { s with periodTimer := some (s.time + Config.periodTime) }.offer
      (.holdState s.holdMask .inService) none := by
    rw [← hin]
    exact if_pos hs
  rw [hbody, hoffer, ← State.afterDiscard_requeued]
  rfl

/-- The HOLD_STATE that has entered the queue is the only one there, and takes the mask as it then is. -/
theorem State.settle_of_requeued {u : State} {m : HoldMask} {q : List TxEntry} (t : Option Nat)
    (hn : u.nodeState = .inService) (hm : u.holdMask = m) (hq : ∀ e ∈ q, e.isHoldState = false) (b : State) :
    let w := b.settle (u.requeued t (insertByUrgency (.offered (.holdState m .inService) none) q))
    w.apartFromFrames = u.apartFromFrames
      ∧ (w.port.queue.map TxEntry.frame).Perm (.holdState w.holdMask .inService :: q.map TxEntry.frame) := by
  have hs : (u.requeued t (insertByUrgency (.offered (.holdState m .inService) none) q)).serving = true :=
    beq_iff_eq.mpr hn
  have hany : (u.requeued t (insertByUrgency (.offered (.holdState m .inService) none) q)).port.queue.any
      TxEntry.isHoldState = true :=
    List.any_eq_true.mpr ⟨_, (mem_insertByUrgency _ _ _).mpr (.inl rfl), rfl⟩
  intro w
  refine ⟨State.apartFromFrames_settle_of_any hany hs b, ?_⟩
  rw [State.frames_settle_of_any hs hany (fun e he hh => ?_) b]
  · refine ((insertByUrgency_perm _ q).map _).trans ?_
    rw [List.map_cons]
    refine List.Perm.of_eq (congrArg₂ List.cons rfl (List.map_congr_left fun e he => ?_))
    unfold TxEntry.masked
    rw [if_neg (by simp [hq e he])]
  · rcases (mem_insertByUrgency _ _ _).mp he with rfl | he
    · exact congrArg (OutFrame.holdState · .inService) hm.symm
    · rw [hq e he] at hh
      exact Bool.noConfusion hh

/-- What a state apart from its frames still says. -/
theorem State.kept_of_frames {s u : State} (h : s.apartFromFrames = u.apartFromFrames) :
    s.time = u.time ∧ s.capture = u.capture ∧ s.faultLatch = u.faultLatch ∧ s.handoffs = u.handoffs :=
  ⟨(congrArg State.time h :), (congrArg State.capture h :), (congrArg State.faultLatch h :),
    (congrArg State.handoffs h :)⟩

/-- Settles O34: a frame finds its place, replaces the HOLD_STATE, or displaces the youngest of the least urgent, whose
discard is told. -/
theorem fullQueueDiscardsTheYoungestLeastUrgent : Obligations.FullQueueDiscardsTheYoungestLeastUrgent := by
  unfold Obligations.FullQueueDiscardsTheYoungestLeastUrgent
  refine ⟨fun e q hl hq hrep => ?room, fun e h before after he hh hother => ?holdState,
    fun e v q tail hl hq hv ht hrep => ?full, fun s f owner q d hs hq howner h => State.offer_of_discard hs hq howner h,
    fun s deadline v q tail hs htimer hqueue hl hq hv ht hnone hu howner => ?period⟩
  case room =>
    obtain ⟨before, after, hsplit, hb, ha, hins⟩ := insertByUrgency_split e hq
    have hcap : Config.transmitCapacity = 16 := rfl
    refine ⟨before, after, hsplit, hb, ha, ?_⟩
    unfold enqueue
    rw [if_neg (mt Bool.and_eq_true_iff.mp hrep), if_pos (by omega), hins]
  case holdState =>
    have hany : (before ++ h :: after).any TxEntry.isHoldState = true :=
      List.any_eq_true.mpr ⟨h, by simp, hh⟩
    have hkeep (l : List TxEntry) (hl : ∀ a ∈ l, a.isHoldState = false) : replaceHoldState e.frame l = l :=
      (List.map_congr_left (g := id) fun a ha => by simp [hl a ha]).trans (List.map_id l)
    have hmap : replaceHoldState e.frame (before ++ h :: after)
        = replaceHoldState e.frame before ++ { h with frame := e.frame, replaced := h.onBus }
          :: replaceHoldState e.frame after := by
      simp [replaceHoldState, hh]
    rw [enqueue_of_holdState he hany, hmap, hkeep before fun a ha => hother a (List.mem_append_left _ ha),
      hkeep after fun a ha => hother a (List.mem_append_right _ ha)]
  case full =>
    have henq := enqueue_of_full hl hrep (takeYoungest_of_split hv ht q)
    have hsub : (q ++ tail).Sublist (q ++ v :: tail) := List.Sublist.append_left (List.sublist_cons_self v tail) q
    have hrest := hq.sublist hsub
    refine ⟨fun hlt => ?_, fun hle => henq.trans (if_neg (Nat.not_lt.mpr hle))⟩
    rw [henq, if_pos hlt]
    refine ⟨rfl, insertByUrgency_perm e _, ?_, insertByUrgency_sorted e _ hrest,
      fun a ha hau => insertByUrgency_behind hrest ha hau⟩
    rw [length_insertByUrgency]
    simp only [List.length_append, List.length_cons] at hl ⊢
    omega
  case period =>
    have hin : s.nodeState = .inService := beq_iff_eq.mp hs
    have hbody := State.offerHoldState_of_full (s := { s with time := max s.time deadline }) hs hqueue hl hq hv ht hnone hu
      howner
    obtain ⟨-, hm, hn, htime⟩ := State.kept_afterDiscard { s with time := max s.time deadline } v
    have hcapture := State.capture_afterDiscard_of_none (s := { s with time := max s.time deadline }) (d := v)
    have hlost (n : Nat) (h : Handoff) (a : Attempt) (t : Option Nat) :=
      State.lost_afterDiscard (s := { s with time := max s.time deadline }) (d := v) (n := n) (h := h) (a := a) (t := t)
    generalize State.afterDiscard { s with time := max s.time deadline } v = u at *
    obtain ⟨hapart, hframes⟩ := State.settle_of_requeued (some (max s.time deadline + Config.periodTime)) (hn.trans hin) hm
      (q := q ++ tail) (fun e he => by
        refine Bool.eq_false_iff.mpr (List.any_eq_false.mp hnone e ?_)
        rw [hqueue]
        simp only [List.mem_append, List.mem_cons] at he ⊢
        tauto) s
    obtain ⟨ht', hc', hl', hh'⟩ := State.kept_of_frames hapart
    refine ⟨_, (exec_periodTimerExpiry_of_running htimer).trans (congrArg (finish s) hbody), hapart, hframes, fun hc => ?_,
      fun n h a timer hn hh hstat => ?_⟩
    · exact (hc'.trans (hcapture hc)).trans (by rw [ht'.trans htime])
    · obtain ⟨hlatch, hpending⟩ := hlost n h a timer hn hh hstat
      exact ⟨hl'.trans hlatch, (State.isPending_congr hh' n).trans hpending⟩

end Sys2Proof.Machine
end

section
/-! SUPPORT. What an offer can take from the pool (R91, R92, R95): the records of wait list entries that are lost, and
nothing else. -/

namespace Sys2Proof.Machine

/-- Between the states only records of the wait list have been freed; a frozen capture has kept its alarm, and a set
fault latch stays set. -/
def Sheds (s u : State) : Prop :=
  s.free <+: u.free ∧ u.waitList ⊆ s.waitList ∧ (∀ x, s.capture = some x → u.capture = some x)
    ∧ (s.faultLatch = true → u.faultLatch = true)
    ∧ ∀ i, u.record i = s.record i ∨ u.record i = Record.blank ∧ ∃ e ∈ s.waitList, e.record = i

theorem Sheds.refl (s : State) : Sheds s s :=
  ⟨List.prefix_rfl, List.Subset.refl _, fun _ h => h, id, fun _ => .inl rfl⟩

theorem Sheds.trans {s u v : State} (h : Sheds s u) (h' : Sheds u v) : Sheds s v := by
  obtain ⟨hf, hw, hc, hl, hr⟩ := h
  obtain ⟨hf', hw', hc', hl', hr'⟩ := h'
  refine ⟨hf.trans hf', fun e he => hw (hw' he), fun x hx => hc' x (hc x hx), hl' ∘ hl, fun i => ?_⟩
  rcases hr' i with hi | ⟨hi, e, he, hei⟩
  · rw [hi]
    exact hr i
  · exact .inr ⟨hi, e, hw he, hei⟩

/-- R10: a record that stands in no wait list entry stays as it is. -/
theorem Sheds.record {s u : State} (h : Sheds s u) {i : RecIx} (hi : ∀ e ∈ s.waitList, e.record ≠ i) :
    u.record i = s.record i := by
  obtain ⟨-, -, -, -, hr⟩ := h
  rcases hr i with hr | ⟨-, e, he, hei⟩
  · exact hr
  · exact absurd hei (hi e he)

theorem Sheds.blank {s u : State} (h : Sheds s u) {i : RecIx} (hi : s.record i = Record.blank) :
    u.record i = Record.blank := by
  obtain ⟨-, -, -, -, hr⟩ := h
  rcases hr i with hr | ⟨hr, -⟩
  · exact hr.trans hi
  · exact hr

namespace Sheds
variable {s u : State}

/-- R154: a frozen capture counts the alarm. -/
theorem captureAlarm (h : Sheds s u) (inc : Incident) : Sheds s (u.captureAlarm inc) := by
  refine h.trans ?_
  unfold State.captureAlarm
  split
  · rename_i hc
    exact ⟨List.prefix_rfl, List.Subset.refl _, fun x hx => absurd (hc.symm.trans hx) nofun, id, fun _ => .inl rfl⟩
  · exact Sheds.refl u

theorem offerReport (h : Sheds s u) (f : OutFrame) : Sheds s (u.offerReport f) := by
  have halarm (q : List TxEntry) (inc : Incident) := captureAlarm (u := u.setQueue q) h inc
  unfold State.offerReport State.noteDiscard
  split
  · split
    · exact h
    · exact halarm _ _
  · exact h

theorem raise (h : Sheds s u) (inc : Incident) : Sheds s (u.raise inc) := by
  unfold State.raise
  split
  · exact (h.captureAlarm inc).offerReport _
  · exact h.offerReport _

/-- R129: the fault latch is set. -/
theorem latched (h : Sheds s u) : Sheds s { u with faultLatch := true } :=
  h.trans ⟨List.prefix_rfl, List.Subset.refl _, fun _ hx => hx, fun _ => rfl, fun _ => .inl rfl⟩

/-- R95: a context that leaves the wait list frees its record. -/
theorem resolve (h : Sheds s u) (n : Nat) (o : HandoffOutcome) : Sheds s (u.resolve n o) := by
  refine h.trans ?_
  unfold State.resolve
  split
  · rename_i e he
    refine ⟨List.prefix_append _ _, List.eraseP_subset, fun _ hx => hx, id, fun i => ?_⟩
    rw [State.record_freeRecord_eq_ite]
    split
    · rename_i hi
      exact .inr ⟨rfl, e, List.mem_of_find?_eq_some he, hi.symm⟩
    · exact .inl rfl
  · exact Sheds.refl u

theorem lose (h : Sheds s u) (n : Nat) : Sheds s (u.lose n) := by
  unfold State.lose
  split
  · split
    · exact (h.latched.raise _).resolve n .lost
    · exact h
  · exact h

theorem secondAttempt (h : Sheds s u) (n : Nat) : Sheds s (u.secondAttempt n) := by
  have halarm (q : List TxEntry) (inc : Incident) :=
    captureAlarm (u := (u.setStatus n (.pending .second none)).setQueue q) h inc
  unfold State.secondAttempt
  split
  · exact h
  · split
    · exact h
    · split
      · exact halarm _ _
      · exact (halarm _ _).lose _

theorem attemptExpired (h : Sheds s u) (n : Nat) : Sheds s (u.attemptExpired n) := by
  unfold State.attemptExpired
  split
  · split
    · exact h.secondAttempt n
    · exact h.lose n
    · exact h
  · exact h

theorem offer (h : Sheds s u) (f : OutFrame) (o : Option Nat) : Sheds s (u.offer f o) := by
  have halarm (q : List TxEntry) (inc : Incident) := captureAlarm (u := u.setQueue q) h inc
  unfold State.offer
  split
  · split
    · exact h
    · split
      · exact halarm _ _
      · exact (halarm _ _).attemptExpired _
  · exact h

theorem updateMask (h : Sheds s u) : Sheds s u.updateMask := by
  unfold State.updateMask
  split
  · exact h
  · unfold State.offerHoldState
    split
    · exact offer (u := { u with holdMask := u.formMask, periodTimer := some (u.time + Config.periodTime) }) h _ _
    · exact h

theorem setLines (h : Sheds s u) : Sheds s u.setLines := h

/-- R91, R92, R149: what follows an event discards at worst. -/
theorem settle (h : Sheds s u) (b : State) : Sheds s (b.settle u) := by
  have hghosts : Sheds s (b.timeGhosts u) := h
  exact hghosts.updateMask.updateMask.setLines

end Sheds

/-! ### Freeing several records (R14) -/

theorem State.free_freeRecords (is : List RecIx) (s : State) : (s.freeRecords is).free = s.free ++ is := by
  induction is generalizing s with
  | nil => exact (List.append_nil _).symm
  | cons i is ih => exact (ih (s.freeRecord i)).trans (List.append_assoc s.free [i] is)

/-- R14: freeing records writes the pool alone. -/
theorem State.freeRecords_eq (is : List RecIx) (s : State) :
    s.freeRecords is = { s with records := (s.freeRecords is).records, free := (s.freeRecords is).free } :=
  List.foldlRecOn (motive := fun u : State => u = { s with records := u.records, free := u.free }) is State.freeRecord
    rfl fun _ hu _ _ => by rw [hu]; rfl

theorem State.record_freeRecords (is : List RecIx) (s : State) (i : RecIx) :
    (s.freeRecords is).record i = if i ∈ is then Record.blank else s.record i := by
  induction is generalizing s with
  | nil => rfl
  | cons j is ih =>
    rw [show s.freeRecords (j :: is) = (s.freeRecord j).freeRecords is from rfl, ih, State.record_freeRecord_eq_ite]
    by_cases hi : i ∈ is
    · rw [if_pos hi, if_pos (List.mem_cons_of_mem j hi)]
    · by_cases hj : i = j
      · rw [if_neg hi, if_pos hj, if_pos (hj ▸ List.mem_cons_self)]
      · rw [if_neg hi, if_neg hj, if_neg (by simp [hi, hj])]

end Sys2Proof.Machine
end

section
/-! SUPPORT. The commands of the cut list: CUT_ENTRY, ENTRY_WITHDRAW, LIST_CLEAR and RELEASE_ONE (R108 to R112). -/

namespace Sys2Proof.Machine

/-! ### A refreshed roster (R135) -/

@[simp] theorem State.cutList_refreshed (s : State) (origin : Station) :
    (s.refreshed origin).cutList = s.cutList := by unfold State.refreshed; split <;> rfl

@[simp] theorem State.free_refreshed (s : State) (origin : Station) : (s.refreshed origin).free = s.free := by
  unfold State.refreshed; split <;> rfl

@[simp] theorem State.record_refreshed (s : State) (origin : Station) (i : RecIx) :
    (s.refreshed origin).record i = s.record i := by unfold State.refreshed; split <;> rfl

/-! ### CUT_ENTRY (R108, R109) -/

/-- R109: the result of a CUT_ENTRY, its checks in their order. -/
def State.entryResult (s : State) (p : CutEntryPayload) : CommandResult :=
  let c := s.slotCfg 0
  if p.tag = 0 then .refusedValue
  else if p.destination.toNat < c.reachFirst ∨ c.reachLast < p.destination.toNat then .refusedValue
  else if p.expectedAxles.toNat < 2 ∨ 250 < p.expectedAxles.toNat then .refusedValue
  else if 3 < p.cutClass.toNat ∨ 1 < p.inspect.toNat then .refusedValue
  else if ∃ i ∈ s.cutList, (s.record i).tag = p.tag then .refusedDuplicate
  else if 24 ≤ s.cutList.length then .refusedFull
  else .done

theorem State.entryResult_refreshed (s : State) (origin : Station) (p : CutEntryPayload) :
    (s.refreshed origin).entryResult p = s.entryResult p := by
  simp [State.entryResult]

theorem State.isSome_cutPlace_iff (s : State) (tag : Tag) :
    (s.cutPlace tag).isSome = true ↔ ∃ i ∈ s.cutList, (s.record i).tag = tag := by
  simp [State.cutPlace, List.findIdx?_isSome]

theorem SlotConfig.inReach_eq_false_iff_or (c : SlotConfig) (d : Nat) :
    c.inReach d = false ↔ d < c.reachFirst ∨ c.reachLast < d := by
  rw [SlotConfig.inReach_eq_false_iff, not_and_or, Nat.not_le, Nat.not_le]

/-- R109: an entry is appended where every check passes, and a refused one changes nothing. -/
theorem State.enterCut_eq (s : State) (p : CutEntryPayload) :
    s.enterCut p = (s.entryResult p, if s.entryResult p = .done then s.appendEntry p else s) := by
  show _ = (fun x => (x, if x = .done then s.appendEntry p else s)) (s.entryResult p)
  unfold State.enterCut State.entryResult
  simp only [SlotConfig.inReach_eq_false_iff_or, State.isSome_cutPlace_iff, Config.expectedLimit,
    Config.cutListCapacity]
  simp only [apply_ite (fun x : CommandResult => (x, if x = .done then s.appendEntry p else s)), reduceCtorEq,
    if_false, if_true]
  congr!

theorem State.appendEntry_of_free {s : State} {p : CutEntryPayload} {r : RecIx} {free : List RecIx}
    (h : s.free = r :: free) : s.appendEntry p
      = { s with free := free, cutList := s.cutList ++ [r] }.setRecord r (enteredRecord p) := by
  unfold State.appendEntry
  rw [State.allocate_eq_some_iff.mpr ⟨free, h, rfl⟩]
  rfl

/-- Settles O42: the checks in their order decide the reply, and an accepted entry is the only change. -/
theorem cutEntryIsCheckedAndAppended : Obligations.CutEntryIsCheckedAndAppended := by
  unfold Obligations.CutEntryIsCheckedAndAppended
  intro s origin p h hr s0 reply c result
  have hresult : s0.entryResult p = result := s.entryResult_refreshed origin p
  have hact := s0.enterCut_eq p
  rw [hresult] at hact
  refine ⟨fun hrefused => ?refused, fun hdone r free hfree => ?done⟩
  case refused =>
    rw [if_neg hrefused] at hact
    exact Leaves.of_crestCommand h hr rfl hact (State.port_refreshed s origin) (State.nodeState_refreshed s origin)
  case done =>
    rw [if_pos hdone, State.appendEntry_of_free (by rwa [State.free_refreshed])] at hact
    rw [hdone, State.cutList_refreshed] at hact
    have hrecord : enteredRecord p = ⟨p.tag, p.destination.toNat, none, p.expectedAxles.toNat, p.cutClass.toNat,
        decide (p.inspect = 1), {}, none, none, none⟩ := rfl
    rw [hrecord] at hact
    exact Leaves.of_crestCommand h hr rfl hact (State.port_refreshed s origin) (State.nodeState_refreshed s origin)

/-! ### ENTRY_WITHDRAW, LIST_CLEAR and RELEASE_ONE (R110 to R112) -/

theorem State.cutPlace_of_split {s : State} {tag : Tag} {before after : List RecIx} {r : RecIx}
    (hl : s.cutList = before ++ r :: after) (hr : (s.record r).tag = tag)
    (hb : ∀ i ∈ before, (s.record i).tag ≠ tag) : s.cutPlace tag = some before.length := by
  unfold State.cutPlace
  rw [hl, List.findIdx?_append, List.findIdx?_eq_none_iff.mpr fun i hi => by simpa using hb i hi]
  simp [List.findIdx?_cons, hr]

theorem State.cutPlace_eq_none {s : State} {tag : Tag} (h : ∀ i ∈ s.cutList, (s.record i).tag ≠ tag) :
    s.cutPlace tag = none :=
  List.findIdx?_eq_none_iff.mpr fun i hi => by simpa using h i hi

theorem State.withdrawCut_of_split {s : State} {tag : Tag} {before after : List RecIx} {r : RecIx}
    (hl : s.cutList = before ++ r :: after) (hr : (s.record r).tag = tag) (h0 : tag ≠ 0)
    (hb : ∀ i ∈ before, (s.record i).tag ≠ tag) :
    s.withdrawCut tag = (.done, { s with cutList := before ++ after }.freeRecord r) := by
  have hget : s.cutList[before.length]? = some r := by simp [hl]
  have herase : s.cutList.eraseIdx before.length = before ++ after := by
    rw [hl, List.eraseIdx_append_of_length_le (Nat.le_refl _)]
    simp
  unfold State.withdrawCut
  rw [State.cutPlace_of_split hl hr hb]
  dsimp only
  rw [hget]
  dsimp only
  rw [if_neg h0, herase]

theorem State.withdrawCut_of_absent {s : State} {tag : Tag}
    (h : tag = 0 ∨ ∀ i ∈ s.cutList, (s.record i).tag ≠ tag) : s.withdrawCut tag = (.refusedState, s) := by
  unfold State.withdrawCut
  rcases h with h | h
  · split
    · rfl
    · split
      · rfl
      · rw [if_pos h]
  · rw [State.cutPlace_eq_none h]

theorem State.releaseHead_of_tag {s : State} {tag : Tag} {r : RecIx} {rest : List RecIx} (hl : s.cutList = r :: rest)
    (hr : (s.record r).tag = tag) :
    s.releaseHead tag = (.done, s.setRecord r { s.record r with inspect := false }) := by
  unfold State.releaseHead
  rw [hl]
  exact if_pos hr

theorem State.releaseHead_of_absent {s : State} {tag : Tag} (h : ∀ r ∈ s.cutList.head?, (s.record r).tag ≠ tag) :
    s.releaseHead tag = (.refusedState, s) := by
  unfold State.releaseHead
  cases hl : s.cutList with
  | nil => rfl
  | cons r rest => exact if_neg (h r (by simp [hl]))

theorem State.cutList_of_reports {s u : State} (h : s.apartFromReports = u.apartFromReports) :
    s.cutList = u.cutList :=
  (congrArg State.cutList h :)

/-- R125: an empty cut list holds the signal at STOP. -/
theorem State.signal_settle_of_empty (b : State) {s : State} (h : s.cutList = []) : (b.settle s).signal = .stop := by
  have hlist : (b.settle s).cutList = s.cutList := State.cutList_of_reports (State.apartFromReports_settle b s)
  rw [State.signal_settle]
  refine State.decideSignal_of_not_mayRelease fun ⟨_, _, _, _, r, rest, hhead, _⟩ => ?_
  rw [hlist, h] at hhead
  cases hhead

theorem State.free_of_frames {s u : State} (h : s.apartFromFrames = u.apartFromFrames) : s.free = u.free :=
  (congrArg State.free h :)

theorem State.record_of_frames {s u : State} (h : s.apartFromFrames = u.apartFromFrames) (i : RecIx) :
    s.record i = u.record i :=
  (congrArg (fun x => State.record x i) h :)

/-- Settles O43: the three commands at the list, and RELEASE_ONE at its head, with the refusals of an absent tag. -/
theorem cutListCommandsDoWhatTheirRulesSay : Obligations.CutListCommandsDoWhatTheirRulesSay := by
  unfold Obligations.CutListCommandsDoWhatTheirRulesSay
  intro s origin target h hr s0
  have hport : s0.port = s.port := State.port_refreshed s origin
  have hnode : s0.nodeState = s.nodeState := State.nodeState_refreshed s origin
  have hlist : s0.cutList = s.cutList := State.cutList_refreshed s origin
  have hrecord (i : RecIx) : s0.record i = s.record i := State.record_refreshed s origin i
  refine ⟨fun tag before r after hl ht h0 hb => ?withdrawn, fun tag ha => ?absent, ?clear,
    fun tag r rest hl ht => ?released, fun tag ha => ?noHead⟩
  case withdrawn =>
    refine Leaves.of_crestCommand h hr rfl (State.withdrawCut_of_split (s := s0) (hlist.trans hl) ?_ h0 ?_) hport hnode
    · rwa [hrecord]
    · simpa only [hrecord] using hb
  case absent =>
    refine Leaves.of_crestCommand h hr rfl (State.withdrawCut_of_absent (s := s0) ?_) hport hnode
    simpa only [hlist, hrecord] using ha
  case released =>
    have hact := State.releaseHead_of_tag (s := s0) (tag := tag) (hlist.trans hl) (by rwa [hrecord])
    rw [hrecord] at hact
    exact Leaves.of_crestCommand h hr rfl hact hport hnode
  case noHead =>
    refine Leaves.of_crestCommand h hr rfl (State.releaseHead_of_absent (s := s0) ?_) hport hnode
    simpa only [hlist, hrecord] using ha
  case clear =>
    have hact : State.clearCuts s0 = (.done, { s0 with cutList := [] }.freeRecords s.cutList) := by
      rw [← hlist]
      rfl
    have hfree0 : State.free { s0 with cutList := [] } = s.free := State.free_refreshed s origin
    have hrecord0 (i : RecIx) : State.record { s0 with cutList := [] } i = s.record i := State.record_refreshed s origin i
    have hcrest : s0.cfg.role = .crest := (congrArg NodeConfig.role (State.cfg_refreshed s origin)).trans hr
    have hbody : s.takeListClear origin target
        = ({ s0 with cutList := [] }.freeRecords s.cutList).offer (replyFrame .listClear 0 .done) none := by
      refine (State.hearYard_of_takesCommand h _).trans ?_
      rw [show crestOnly s0 State.clearCuts = State.clearCuts s0 from if_pos hcrest, hact]
      rfl
    have hexec : exec (.listClear origin target) s = finish s _ := congrArg (finish s) hbody
    have hoff := State.freeRecords_apartFromReports s.cutList { s0 with cutList := [] }
    have hkept := State.freeRecords_eq s.cutList { s0 with cutList := [] }
    obtain ⟨t, hnext, hreports, hroom⟩ : Leaves (.listClear origin target) s
        ({ s0 with cutList := [] }.freeRecords s.cutList) [replyFrame .listClear 0 .done] :=
      Leaves.of_crestCommand h hr rfl hact ((congrArg State.port hkept).trans hport) ((congrArg State.nodeState hkept).trans hnode)
    have ht : t = s.settle _ := Host.Outcome.next.inj (hnext.symm.trans hexec)
    have hsheds : Sheds ({ s0 with cutList := [] }.freeRecords s.cutList) t :=
      ht ▸ ((Sheds.refl _).offer (replyFrame .listClear 0 .done) none).settle s
    have hsignal : t.signal = .stop := by
      rw [ht]
      exact State.signal_settle_of_empty s (State.cutList_of_reports ((State.apartFromReports_offer _ _ _).trans hoff) :)
    clear ht
    refine ⟨t, hnext, ?_, hsignal, hreports.trans hoff, ?_, fun i hi => ?_, fun hr2 => ?_⟩
    · exact (State.cutList_of_reports (hreports.trans hoff) :)
    · have hfree := hsheds.1
      rwa [State.free_freeRecords, hfree0] at hfree
    · exact hsheds.blank (by rw [State.record_freeRecords, if_pos hi])
    · obtain ⟨hframes, hsent, -⟩ := hroom hr2
      refine ⟨?_, hsent _ List.mem_cons_self, fun i => ?_⟩
      · rw [State.free_of_frames hframes, State.free_freeRecords, hfree0]
      · rw [State.record_of_frames hframes, State.record_freeRecords, hrecord0]

end Sys2Proof.Machine
end

section
/-! SUPPORT. The slot commands of the yard computer: SLOT_BLOCK, SLOT_FREE and SLOT_FLUSH (R30, R56, R57, R84). -/

namespace Sys2Proof.Machine

@[simp] theorem State.time_refreshed (s : State) (origin : Station) : (s.refreshed origin).time = s.time := by
  unfold State.refreshed; split <;> rfl

theorem State.kept_refreshed (s : State) (origin : Station) :
    (s.refreshed origin).handoffs = s.handoffs ∧ (s.refreshed origin).waitList = s.waitList
      ∧ (s.refreshed origin).faultLatch = s.faultLatch ∧ (s.refreshed origin).capture = s.capture := by
  unfold State.refreshed
  split <;> exact ⟨rfl, rfl, rfl, rfl⟩

theorem State.waitList_of_frames {s u : State} (h : s.apartFromFrames = u.apartFromFrames) : s.waitList = u.waitList :=
  (congrArg State.waitList h :)

/-- R159: a command acts on the slot its argument names, where that is not OFF. -/
theorem slotArgument_of_on {s : State} {slot : Byte} {k : SlotIx} (hk : k.val = slot.toNat)
    (hs : (s.slot k).service ≠ .off) (act : State → SlotIx → CommandResult × State) :
    slotArgument s slot act = act s k := by
  unfold slotArgument
  rw [slotOfNat_eq_some_iff.mpr hk]
  exact if_neg hs

/-! ### SLOT_BLOCK and SLOT_FREE (R56, R57) -/

theorem State.blockSlot_of_open {s : State} {k : SlotIx}
    (h : (s.slot k).service = .inUse ∨ (s.slot k).service = .failed) :
    s.blockSlot k = (.done, s.setSlot k ((s.slot k).takenOut .blocked)) :=
  (if_pos h).trans (by rw [Slot.abandon_eq])

theorem State.blockSlot_of_closed {s : State} {k : SlotIx}
    (h : (s.slot k).service = .settling ∨ (s.slot k).service = .blocked) : s.blockSlot k = (.refusedState, s) := by
  refine if_neg fun ho => ?_
  rcases h with h | h <;> rw [h] at ho <;> simp at ho

/-- R57: the slot may be taken into use again. -/
def Slot.mayBeFreed (x : Slot) : Prop :=
  (x.service = .failed ∨ x.service = .blocked) ∧ x.zone = [] ∧ x.foulingOccupied = false

/-- R57: the slot in use, its point at rest as its inputs show it. -/
def Slot.freed (x : Slot) : Slot :=
  { x with
    service := .inUse
    point := pointShownBy x.provedNormal x.provedReverse
    driveNormal := false
    driveReverse := false }

theorem State.freeSlot_of_mayBeFreed {s : State} {k : SlotIx} (h : (s.slot k).mayBeFreed) :
    s.freeSlot k = if (s.slot k).freed.point = .unproved then
        (.done, s.setSlot k ((s.slot k).freed.thrownToward (s.freeTarget k) (s.slotCfg k).retries
          (s.time + (s.slotCfg k).throwLimit)))
      else (.done, (s.setSlot k (s.slot k).freed).evaluateThrow k) := by
  have hrest : { (s.slot k).rest (s.slot k).detected with service := ServiceState.inUse } = (s.slot k).freed := by
    rw [Slot.detected_eq]
    rfl
  have hbody : s.freeSlot k = _ := if_pos h
  rw [hbody, hrest]
  rfl

theorem State.freeSlot_of_not_mayBeFreed {s : State} {k : SlotIx} (h : ¬(s.slot k).mayBeFreed) :
    s.freeSlot k = (.refusedState, s) := if_neg h

theorem State.freeTarget_of_cons {s : State} {k : SlotIx} {r : RecIx} (h : r ∈ (s.slot k).queue.head?) :
    s.freeTarget k = (s.slotCfg k).wantedLeg (s.record r).destination := by
  obtain ⟨rest, hq⟩ := List.head?_eq_some_iff.mp h
  unfold State.freeTarget
  rw [hq]
  rfl

theorem State.freeTarget_of_nil {s : State} {k : SlotIx} (h : (s.slot k).queue = []) : s.freeTarget k = .normal := by
  unfold State.freeTarget
  rw [h]

/-- Settles O45: SLOT_BLOCK takes a slot in use or FAILED out; SLOT_FREE takes one that is clear back, and throws an
unproved point. -/
theorem slotCommandsBlockAndFree : Obligations.SlotCommandsBlockAndFree := by
  unfold Obligations.SlotCommandsBlockAndFree
  intro s origin target slot k h hk hoff s0 x block frees free y
  have hport : s0.port = s.port := State.port_refreshed s origin
  have hnode : s0.nodeState = s.nodeState := State.nodeState_refreshed s origin
  have hslot : s0.slot k = x := State.slot_refreshed s origin k
  have hcfg : s0.slotCfg k = s.slotCfg k := State.slotCfg_refreshed s origin k
  have htime : s0.time = s.time := State.time_refreshed s origin
  have hon : (s0.slot k).service ≠ .off := by rwa [hslot]
  have hfree (hx : free) : s0.freeSlot k = _ := State.freeSlot_of_mayBeFreed (s := s0) (by rw [hslot]; exact hx)
  have hunproved (hx : free) (hy : y.point = .unproved) (leg : Leg) (hleg : s0.freeTarget k = leg) :
      frees (s0.setSlot k (y.thrownToward leg (s.slotCfg k).retries (s.time + (s.slotCfg k).throwLimit))) .done := by
    have hact := (slotArgument_of_on hk hon State.freeSlot).trans (hfree hx)
    rw [hslot, hcfg, htime, hleg, if_pos (show x.freed.point = .unproved from hy)] at hact
    exact Leaves.of_yardCommand h rfl hact hport hnode
  refine ⟨fun hx => ?blocked, fun hx => ?notBlocked, fun hx hy => ?proved, fun hx hy => ⟨fun r hr => ?head, fun hq => ?empty⟩,
    fun hx => ?notFreed⟩
  case blocked =>
    have hact := (slotArgument_of_on hk hon State.blockSlot).trans (State.blockSlot_of_open (by rw [hslot]; exact hx))
    rw [hslot] at hact
    exact Leaves.of_yardCommand h rfl hact hport hnode
  case notBlocked =>
    have hact := (slotArgument_of_on hk hon State.blockSlot).trans (State.blockSlot_of_closed (by rw [hslot]; exact hx))
    exact Leaves.of_yardCommand h rfl hact hport hnode
  case proved =>
    have hact := (slotArgument_of_on hk hon State.freeSlot).trans (hfree hx)
    rw [hslot, if_neg (show ¬x.freed.point = .unproved from hy)] at hact
    exact Leaves.of_yardCommand h rfl hact ((State.port_evaluateThrow _ _).trans hport)
      ((State.nodeState_evaluateThrow _ _).trans hnode)
  case head =>
    refine hunproved hx hy _ ?_
    rw [State.freeTarget_of_cons (s := s0) (by rw [hslot]; exact hr), hcfg, State.record_refreshed]
  case empty => exact hunproved hx hy _ (State.freeTarget_of_nil (by rw [hslot]; exact hq))
  case notFreed =>
    have hact := (slotArgument_of_on hk hon State.freeSlot).trans
      (State.freeSlot_of_not_mayBeFreed (by rw [hslot]; exact hx))
    exact Leaves.of_yardCommand h rfl hact hport hnode

/-! ### SLOT_FLUSH (R30, R84) -/

theorem Passage.discard_of_none {p : Passage} (h : p.sentNumber = none) (s : State) : Passage.discard s p = s := by
  unfold Passage.sentNumber at h
  unfold Passage.discard
  cases hp : p.handoff <;> simp_all

theorem Passage.discard_of_some {p : Passage} {n : Nat} (h : p.sentNumber = some n) (s : State) :
    Passage.discard s p = s.dropHandoff n := by
  unfold Passage.sentNumber at h
  unfold Passage.discard
  cases hp : p.handoff <;> simp_all

/-- R84: the contexts of the passages flushed end. -/
theorem State.foldl_discard_eq (ps : List Passage) (s : State) :
    ps.foldl Passage.discard s
      = { s with handoffs := s.handoffs.filter (fun h => decide (h.number ∉ ps.filterMap Passage.sentNumber)) } := by
  induction ps generalizing s with
  | nil => simp
  | cons p ps ih =>
    rw [List.foldl_cons, ih]
    cases hp : p.sentNumber with
    | none => rw [Passage.discard_of_none hp, List.filterMap_cons_none hp]
    | some n =>
      rw [Passage.discard_of_some hp, List.filterMap_cons_some hp]
      refine congrArg (fun l => { s with handoffs := l }) ?_
      show (s.handoffs.filter _).filter _ = _
      rw [List.filter_filter]
      refine List.filter_congr fun h _ => ?_
      simp [bne, Bool.and_comm, beq_eq_decide]

/-- R30, R84: the slot after a flush. -/
def Slot.flushed (x : Slot) : Slot :=
  { x with
    expected := none
    queue := []
    recent := []
    zone := if x.foulingOccupied = true then x.zone else [] }

/-- R30, R84: the records a flush frees: the queue's, and with the circuit clear the passages'. -/
def Slot.flushRecords (x : Slot) : List RecIx :=
  x.queue ++ (if x.foulingOccupied = true then [] else x.zone.map Passage.record)

/-- R84: the handoffs whose contexts a flush discards. -/
def Slot.flushNumbers (x : Slot) : List Nat := if x.foulingOccupied = true then [] else x.sentNumbers

theorem State.freeRecords_append (is js : List RecIx) (s : State) :
    s.freeRecords (is ++ js) = (s.freeRecords is).freeRecords js := List.foldl_append

/-- R14: freeing records commutes with a change that writes no pool. -/
theorem State.map_freeRecords {g : State → State} (hg : ∀ u i, (g u).freeRecord i = g (u.freeRecord i)) (s : State)
    (is : List RecIx) : g (s.freeRecords is) = (g s).freeRecords is :=
  (List.foldl_hom g hg).symm

/-- R84: the zone flushed, where the queue is empty. -/
theorem State.flushZone_of_empty {s : State} {k : SlotIx} (h : (s.slot k).queue = []) :
    s.flushZone k = { s.setSlot k { s.slot k with zone := [] } with
      handoffs := s.handoffs.filter (fun h => decide (h.number ∉ (s.slot k).sentNumbers)) }.freeRecords
        ((s.slot k).zone.map Passage.record) := by
  unfold State.flushZone
  dsimp only
  rw [State.foldl_discard_eq]
  refine State.evaluateThrow_of_empty ?_
  rw [State.slot_freeRecords]
  exact (congrArg Slot.queue (State.slot_setSlot s k _)).trans h

/-- R30, R84: a flush empties the slot, frees its records and discards its contexts, and has no head to throw for. -/
theorem State.flushSlot_eq (s : State) (k : SlotIx) :
    s.flushSlot k = (.done, { s.setSlot k (s.slot k).flushed with
      handoffs := s.handoffs.filter (fun h => decide (h.number ∉ (s.slot k).flushNumbers)) }.freeRecords
        (s.slot k).flushRecords) := by
  have hslot : (s.emptyQueue k).slot k = (s.slot k).unsynced := by
    rw [State.emptyQueue_eq, State.slot_freeRecords, State.slot_setSlot]
  have hhandoffs : (s.emptyQueue k).handoffs = s.handoffs := by
    rw [State.emptyQueue_eq]
    exact (congrArg State.handoffs (State.freeRecords_eq _ _) :)
  refine congrArg (Prod.mk CommandResult.done) ?_
  by_cases hocc : (s.slot k).foulingOccupied = true
  · have hkept : (s.slot k).flushed = (s.slot k).unsynced := by simp [Slot.flushed, Slot.unsynced, hocc]
    have hall : s.handoffs.filter (fun h => decide (h.number ∉ (s.slot k).flushNumbers)) = s.handoffs := by
      simp [Slot.flushNumbers, hocc]
    rw [if_pos (by rw [hslot]; exact hocc), State.emptyQueue_eq, hkept, hall, Slot.flushRecords, if_pos hocc,
      List.append_nil]
    rfl
  · have hcleared : { (s.slot k).unsynced with zone := [] } = (s.slot k).flushed := by
      simp [Slot.flushed, Slot.unsynced, hocc]
    rw [if_neg (by rw [hslot]; exact hocc), State.flushZone_of_empty (by rw [hslot]; rfl), hslot, hcleared, hhandoffs,
      State.emptyQueue_eq, Slot.flushRecords, if_neg hocc, State.freeRecords_append,
      State.map_freeRecords (g := fun u => { u.setSlot k (s.slot k).flushed with
        handoffs := s.handoffs.filter (fun h => decide (h.number ∉ (s.slot k).unsynced.sentNumbers)) })
        fun _ _ => rfl]
    refine congrArg (fun u => State.freeRecords (State.freeRecords u _) _) ?_
    rw [State.setSlot_setSlot, Slot.flushNumbers, if_neg hocc]
    rfl

/-- Settles O46: with the circuit occupied the zone list stays, else it goes with its records and contexts. -/
theorem slotFlushEmptiesTheSlot : Obligations.SlotFlushEmptiesTheSlot := by
  unfold Obligations.SlotFlushEmptiesTheSlot
  intro s origin target slot k h hk hoff s0 x zone freed dropped
  have hslot : s0.slot k = x := State.slot_refreshed s origin k
  have hon : (s0.slot k).service ≠ .off := by rwa [hslot]
  have hact := (slotArgument_of_on hk hon State.flushSlot).trans (s0.flushSlot_eq k)
  rw [hslot] at hact
  obtain ⟨hhandoffs, hwait, hlatch, hcapture⟩ := State.kept_refreshed s origin
  have hport : s0.port = s.port := State.port_refreshed s origin
  have hnode : s0.nodeState = s.nodeState := State.nodeState_refreshed s origin
  have hkept := State.freeRecords_eq x.flushRecords
    { s0.setSlot k x.flushed with handoffs := s0.handoffs.filter (fun h => decide (h.number ∉ x.flushNumbers)) }
  have hreports := State.freeRecords_apartFromReports x.flushRecords
    { s0.setSlot k x.flushed with handoffs := s0.handoffs.filter (fun h => decide (h.number ∉ x.flushNumbers)) }
  obtain ⟨t, hnext, hoff, hroom⟩ := Leaves.of_yardCommand (c := .slotFlush origin target slot) h rfl hact
    ((congrArg State.port hkept).trans hport) ((congrArg State.nodeState hkept).trans hnode)
  refine ⟨t, hnext, hoff.trans hreports, fun hr => ?_⟩
  obtain ⟨hframes, hsent, -⟩ := hroom hr
  obtain ⟨-, hc, hl, hh⟩ := State.kept_of_frames hframes
  refine ⟨hsent _ List.mem_cons_self, ?_, fun i => ?_, ?_, ?_, ?_, ?_⟩
  · rw [State.free_of_frames hframes, State.free_freeRecords]
    exact congrArg (· ++ freed) (State.free_refreshed s origin)
  · rw [State.record_of_frames hframes, State.record_freeRecords]
    exact congrArg (ite (i ∈ freed) Record.blank) (State.record_refreshed s origin i)
  · rw [hh, hkept]
    exact congrArg (List.filter _) hhandoffs
  · rw [State.waitList_of_frames hframes, hkept]
    exact hwait
  · rw [hl, hkept]
    exact hlatch
  · rw [hc, hkept]
    exact hcapture

end Sys2Proof.Machine
end

section
/-! SUPPORT. HANDOFF_REPLY and START at the sender of a handoff (R93 to R95, R97). -/

namespace Sys2Proof.Machine

/-- R146: a frame heard whose payload names this node acts on the state with its roster refreshed. -/
theorem State.hearTarget_of_hears {s : State} {origin : Station} {target : Byte} (h : s.hears origin)
    (ht : target.toNat = s.cfg.node) (act : State → State) :
    s.hearTarget origin target act = act (s.refreshed origin) := by
  refine (State.hear_of_hears h _).trans (if_pos ?_)
  rwa [State.cfg_refreshed]

theorem State.handoffRecord_refreshed (s : State) (origin : Station) (h : Handoff) :
    (s.refreshed origin).handoffRecord h = s.handoffRecord h := by
  unfold State.refreshed
  split <;> rfl

/-! ### HANDOFF_REPLY (R93, R94, R169) -/

theorem Handoff.matchedBy_iff (h : Handoff) (origin : Station) (p : ReplyPayload) :
    h.matchedBy origin p = true ↔ h.answeredBy origin p := by
  unfold Handoff.matchedBy Handoff.answeredBy
  cases h.status <;> simp [and_assoc]

theorem handoffResultOfCode_handoffResultCode (r : HandoffResult) : handoffResultOfCode (handoffResultCode r) = some r := by
  cases r <;> rfl

/-- R169: a result code above 5 is none. -/
theorem handoffResultOfCode_eq_none {n : Nat} (h : 5 < n) : handoffResultOfCode n = none := by
  obtain ⟨m, rfl⟩ := Nat.exists_eq_add_of_lt h
  rw [show 5 + m + 1 = m + 6 by omega]
  rfl

/-- R94: a refusing result. -/
theorem HandoffResult.refuses_iff (r : HandoffResult) :
    r.refuses = true ↔ r = .refusedFull ∨ r = .refusedNotReady ∨ r = .refusedUnknownFeed := by
  cases r <;> simp [HandoffResult.refuses]

/-- R93, R169: a reply that matches no context, or whose result is none, is ignored. -/
theorem State.matchReply_of_none {s : State} {origin : Station} {p : ReplyPayload}
    (h : 5 < p.result.toNat ∨ ∀ x ∈ s.handoffs, ¬x.answeredBy origin p) : s.matchReply origin p = s := by
  unfold State.matchReply
  rcases h with h | h
  · rw [handoffResultOfCode_eq_none h]
  · have hfind : s.handoffs.find? (fun x => x.matchedBy origin p) = none :=
      List.find?_eq_none.mpr fun x hx => mt (x.matchedBy_iff origin p).mp (h x hx)
    rw [hfind]
    split <;> rfl

/-- R93: the first context that matches takes the reply. -/
theorem State.matchReply_of_split {s : State} {origin : Station} {p : ReplyPayload} {before after : List Handoff}
    {h : Handoff} {r : HandoffResult} (hs : s.handoffs = before ++ h :: after)
    (hb : ∀ x ∈ before, ¬x.answeredBy origin p) (hh : h.answeredBy origin p)
    (hr : handoffResultCode r = p.result.toNat) : s.matchReply origin p = s.takeResult h r := by
  have hfind : s.handoffs.find? (fun x => x.matchedBy origin p) = some h := by
    rw [hs, List.find?_append, List.find?_eq_none.mpr fun x hx => mt (x.matchedBy_iff origin p).mp (hb x hx)]
    simp [(h.matchedBy_iff origin p).mpr hh]
  unfold State.matchReply
  rw [← hr, handoffResultOfCode_handoffResultCode]
  dsimp only
  rw [hfind]

/-- Settles O41: the context the reply answers resolves, in its passage or out of the wait list, and a refusal is told
first. -/
theorem handoffRepliesResolveTheirContext : Obligations.HandoffRepliesResolveTheirContext := by
  unfold Obligations.HandoffRepliesResolveTheirContext
  intro s origin p h htarget s0
  obtain ⟨hhandoffs, hwait, -, hcapture⟩ := State.kept_refreshed s origin
  have hqueue : s0.port.queue = s.port.queue := port_queue_refreshed s origin
  have hexec : exec (.handoffReply origin p) s = finish s (s0.matchReply origin p) :=
    congrArg (finish s) (State.hearTarget_of_hears h htarget _)
  obtain ⟨hs, -, -⟩ := h
  have hserving : s0.serving = true := beq_iff_eq.mpr ((State.nodeState_refreshed s origin).trans hs)
  refine ⟨fun hn => ?ignored, fun before after x result hl hb hx hnodup hcode => ?_⟩
  case ignored =>
    refine Leaves.of_body (hexec.trans (congrArg (finish s) (State.matchReply_of_none ?_))) hqueue
    rwa [hhandoffs]
  intro r inc refusing
  have hmatch : s0.matchReply origin p = s0.takeResult x result :=
    State.matchReply_of_split (hhandoffs.trans hl) hb hx hcode
  rw [hmatch] at hexec
  have hquiet (hnot : ¬refusing) : s0.takeResult x result = s0.resolve x.number (.answered result) :=
    if_neg (mt (HandoffResult.refuses_iff result).mp hnot)
  have hinc : s0.replyRefusal x result = inc := by
    unfold State.replyRefusal refusedIncident
    rw [State.handoffRecord_refreshed]
  have hrefused (hyes : refusing) :
      s0.takeResult x result = (State.raise { s0 with faultLatch := true } inc).resolve x.number (.answered result) := by
    rw [← hinc]
    exact if_pos ((HandoffResult.refuses_iff result).mpr hyes)
  have hraise : Offered s (State.raise { s0 with faultLatch := true } inc)
      (State.captureAlarm { s0 with faultLatch := true } inc) [s.reportOf inc] := by
    rw [← State.reportOf_congr (u := { s0 with faultLatch := true }) hcapture]
    exact (Offered.of_queue (v := { s0 with faultLatch := true }) hqueue).raise_alarm (by simp) hserving inc rfl
  have hraiseWait : (State.raise { s0 with faultLatch := true } inc).waitList = s.waitList :=
    (State.waitList_raise _ _).trans hwait
  refine ⟨fun hw => ⟨fun hnot => ?settles, fun hyes => ?refuses⟩,
    fun first y rest hw hy hf => ⟨fun hnot => ?leaves, fun hyes => ?refusedWaiting⟩⟩
  case settles =>
    have hbody := (hquiet hnot).trans (State.resolve_of_not_waiting (s := s0) (by rw [hwait]; exact hw) _)
    exact Leaves.of_body (hexec.trans (congrArg (finish s) hbody)) hqueue
  case refuses =>
    have hbody := (hrefused hyes).trans (State.resolve_of_not_waiting (by rw [hraiseWait]; exact hw) _)
    refine Leaves.of_reported (hexec.trans (congrArg (finish s) hbody)) ?_ (s.kind_reportOf_ne_holdState inc)
    exact (hraise.map (fun u => u.setStatus x.number (.resolved (.answered result))) fun _ _ _ _ => rfl).reported
  case leaves =>
    have hbody := (hquiet hnot).trans (State.resolve_of_waiting (s := s0) (by rw [hwait]; exact hw) hy hf _)
    exact Leaves.of_body (hexec.trans (congrArg (finish s) hbody)) hqueue
  case refusedWaiting =>
    have hbody := (hrefused hyes).trans (State.resolve_of_waiting (by rw [hraiseWait]; exact hw) hy hf _)
    refine Leaves.of_reported (hexec.trans (congrArg (finish s) hbody)) ?_ (s.kind_reportOf_ne_holdState inc)
    have hmap := hraise.map (fun u => ({ u with waitList := first ++ rest }.dropHandoff x.number).freeRecord y.record)
      fun _ _ _ _ => rfl
    refine hmap.reported.congr_frames ?_
    unfold State.captureAlarm
    dsimp only
    split <;> rfl

/-! ### START at the handoff unit (R97) -/

/-- A frame of the handoff waits in the queue. -/
def Owned (q : List TxEntry) (n : Nat) : Prop := ∃ e ∈ q, e.owner = some n

theorem Owned.enqueue {q : List TxEntry} {n : Nat} (h : Owned q n) (x : TxEntry)
    (hr : q.length < Config.transmitCapacity) : Owned (enqueue x q).1 n := by
  obtain ⟨e, he, ho⟩ := h
  unfold Machine.enqueue
  split
  · refine ⟨_, List.mem_map_of_mem he, ?_⟩
    split <;> exact ho
  · exact ⟨e, (mem_insertByUrgency x e q).mpr (.inr he), ho⟩

/-- R148: a HOLD_STATE that follows an event leaves every handoff its place. -/
theorem Owned.settle {s : State} {n : Nat} (h : Owned s.port.queue n) (hr : s.hasRoom 1) (b : State) :
    Owned (b.settle s).port.queue n := by
  have hroom : (b.timeGhosts s).hasRoom 1 := hr
  unfold State.settle
  rw [State.port_setLines, State.updateMask_updateMask_of_room _ hroom, State.updateMask_of_room _ hroom]
  split
  · exact h
  · split
    · exact h.enqueue _ hr
    · exact h

/-- R97: the queue after a context has returned to attempt 1: with a new copy where no frame of it waits. -/
def Handoff.requeued (h : Handoff) (q : List TxEntry) : List TxEntry :=
  if q.any (fun e => e.owner == some h.number) = true then q
  else (enqueue (.offered (.handoff h.frame) (some h.number)) q).1

theorem any_owner_iff (q : List TxEntry) (n : Nat) : q.any (fun e => e.owner == some n) = true ↔ Owned q n := by
  simp [Owned, List.any_eq_true]

section
variable {q : List TxEntry} (h : Handoff) (hr : q.length < Config.transmitCapacity)
include hr

theorem Handoff.requeued_of_not_owned (ho : ¬Owned q h.number) :
    h.requeued q = insertByUrgency (.offered (.handoff h.frame) (some h.number)) q := by
  unfold Handoff.requeued enqueue
  rw [if_neg (mt (any_owner_iff q h.number).mp ho), if_neg (by simp [TxEntry.offered, TxEntry.isHoldState, OutFrame.kind]),
    if_pos hr]

omit hr in
theorem Handoff.requeued_of_owned (ho : Owned q h.number) : h.requeued q = q :=
  if_pos ((any_owner_iff q h.number).mpr ho)

theorem Handoff.length_requeued : (h.requeued q).length ≤ q.length + 1 := by
  by_cases ho : Owned q h.number
  · rw [h.requeued_of_owned ho]
    exact Nat.le_succ _
  · rw [h.requeued_of_not_owned hr ho, length_insertByUrgency]

theorem Handoff.mem_requeued {e : TxEntry} (he : e ∈ q) : e ∈ h.requeued q := by
  by_cases ho : Owned q h.number
  · rwa [h.requeued_of_owned ho]
  · rw [h.requeued_of_not_owned hr ho]
    exact (mem_insertByUrgency _ e q).mpr (.inr he)

theorem Handoff.owned_requeued : Owned (h.requeued q) h.number := by
  by_cases ho : Owned q h.number
  · rwa [h.requeued_of_owned ho]
  · rw [h.requeued_of_not_owned hr ho]
    exact ⟨_, (mem_insertByUrgency _ _ q).mpr (.inl rfl), rfl⟩

/-- R97: only the context's own copy is new. -/
theorem Handoff.owned_of_requeued {n : Nat} (hn : Owned (h.requeued q) n) : n = h.number ∨ Owned q n := by
  by_cases ho : Owned q h.number
  · rw [h.requeued_of_owned ho] at hn
    exact .inr hn
  · rw [h.requeued_of_not_owned hr ho] at hn
    obtain ⟨e, he, hen⟩ := hn
    rcases (mem_insertByUrgency _ e q).mp he with rfl | he
    · exact .inl (Option.some.inj hen).symm
    · exact .inr ⟨e, he, hen⟩

end

/-- A context back in its first attempt. -/
def Handoff.restarted (h : Handoff) : Handoff := { h with status := .pending .first none }

/-- R97: with room a PENDING context returns to attempt 1. -/
theorem State.requeue_of_room {s : State} {h : Handoff} (hs : s.serving = true) (hp : s.isPending h.number = true)
    (hr : s.hasRoom 1) :
    s.requeue h = (s.setStatus h.number (.pending .first none)).setQueue (h.requeued s.port.queue) := by
  unfold State.requeue Handoff.requeued
  dsimp only
  rw [if_neg (by simp [hp])]
  split
  · rfl
  · exact (State.offer_of_room (s.setStatus h.number (.pending .first none)) _ _ hr).trans (if_pos hs)

/-- R97: what the return of several contexts leaves, where the queue has room for all of them. -/
theorem State.requeue_all_of_room (l : List Handoff) (s : State) (hs : s.serving = true)
    (hp : ∀ h ∈ l, s.isPending h.number = true) (hd : (l.map Handoff.number).Nodup) (hr : s.hasRoom (l.length + 1)) :
    let v := l.foldl State.requeue s
    v.hasRoom 1
      ∧ v.handoffs = s.handoffs.map (fun x => if x.number ∈ l.map Handoff.number then x.restarted else x)
      ∧ (∀ e ∈ s.port.queue, e ∈ v.port.queue) ∧ (∀ h ∈ l, Owned v.port.queue h.number)
      ∧ ∀ h ∈ l, ¬Owned s.port.queue h.number → v.holdsFrame (.handoff h.frame) := by
  induction l generalizing s with
  | nil => exact ⟨hr, by simp, fun _ h => h, by simp, by simp⟩
  | cons h l ih =>
    obtain ⟨hnot, hd⟩ := List.nodup_cons.mp hd
    have hroom : s.port.queue.length < Config.transmitCapacity := by
      unfold State.hasRoom at hr
      rw [List.length_cons] at hr
      omega
    have hbody := State.requeue_of_room hs (hp h List.mem_cons_self) hroom
    have hlength := h.length_requeued hroom
    obtain ⟨hfits, hhandoffs, hkeeps, howned, hsent⟩ := ih (s.requeue h) (by rw [hbody]; exact hs)
      (fun x hx => by
        rw [hbody]
        exact State.isPending_setStatus_pending (hp x (List.mem_cons_of_mem h hx)) _ _ _) hd
      (by
        rw [hbody]
        unfold State.hasRoom at hr ⊢
        rw [List.length_cons] at hr
        show (h.requeued s.port.queue).length + (l.length + 1) ≤ _
        omega)
    have hqueue : (s.requeue h).port.queue = h.requeued s.port.queue := congrArg (fun u => u.port.queue) hbody
    rw [hqueue] at hkeeps hsent
    refine ⟨hfits, ?_, fun e he => hkeeps e (h.mem_requeued hroom he), fun x hx => ?_, fun x hx ho => ?_⟩
    · refine hhandoffs.trans ?_
      rw [hbody]
      show (s.handoffs.map _).map _ = _
      rw [List.map_map]
      refine List.map_congr_left fun x _ => ?_
      by_cases hx : x.number = h.number <;> simp [hx, Handoff.restarted]
    · rcases List.mem_cons.mp hx with rfl | hx
      · obtain ⟨e, he, hen⟩ := x.owned_requeued hroom
        exact ⟨e, hkeeps e he, hen⟩
      · exact howned x hx
    · rcases List.mem_cons.mp hx with rfl | hx
      · refine List.mem_map.mpr ⟨.offered (.handoff x.frame) (some x.number), hkeeps _ ?_, rfl⟩
        rw [x.requeued_of_not_owned hroom ho]
        exact (mem_insertByUrgency _ _ _).mpr (.inl rfl)
      · refine hsent x hx fun hnow => ?_
        rcases h.owned_of_requeued hroom hnow with hxh | hold
        · exact hnot (hxh ▸ List.mem_map_of_mem hx)
        · exact ho hold

/-- A number names one handoff. -/
theorem State.handoff?_of_mem {s : State} (hd : (s.handoffs.map Handoff.number).Nodup) {h : Handoff}
    (hh : h ∈ s.handoffs) : s.handoff? h.number = some h := by
  obtain ⟨x, hx⟩ : ∃ x, s.handoff? h.number = some x :=
    Option.isSome_iff_exists.mp (List.find?_isSome.mpr ⟨h, hh, beq_self_eq_true _⟩)
  have heq := List.inj_on_of_nodup_map hd (State.mem_of_handoff? hx) hh (State.number_of_handoff? hx)
  rw [hx, heq]

theorem Handoff.pendingToward_iff (h : Handoff) (station : Nat) :
    h.pendingToward station = true ↔ h.frame.targetStation = station ∧ ∃ a timer, h.status = .pending a timer := by
  unfold Handoff.pendingToward
  cases h.status <;> simp

/-- The parts of a START at roster and slots leave the handoffs and the port. -/
theorem State.kept_started (s : State) (origin : Nat) :
    (s.started origin).handoffs = s.handoffs ∧ (s.started origin).port = s.port
      ∧ (s.started origin).nodeState = s.nodeState := by
  have hone (u : State) (k : SlotIx) : (u.startSlot origin k).handoffs = u.handoffs
      ∧ (u.startSlot origin k).port = u.port ∧ (u.startSlot origin k).nodeState = u.nodeState := by
    by_cases hk : u.feeds origin k
    · rw [State.startSlot_of_feeds hk, State.freeRecords_eq]
      exact ⟨rfl, rfl, rfl⟩
    · rw [State.startSlot_of_not_feeds hk]
      exact ⟨rfl, rfl, rfl⟩
  unfold State.started
  rw [State.startSlots_eq]
  refine List.foldlRecOn (motive := fun u : State => u.handoffs = s.handoffs ∧ u.port = s.port
    ∧ u.nodeState = s.nodeState) _ _ ⟨rfl, rfl, rfl⟩ fun u hu k _ => ?_
  obtain ⟨hh, hp, hn⟩ := hu
  obtain ⟨hh', hp', hn'⟩ := hone u k
  exact ⟨hh'.trans hh, hp'.trans hp, hn'.trans hn⟩

/-- Settles O37: every PENDING context toward the station is back in its first attempt, with a frame in the queue. -/
theorem startReturnsHandoffsToTheFirstAttempt : Obligations.StartReturnsHandoffsToTheFirstAttempt := by
  unfold Obligations.StartReturnsHandoffsToTheFirstAttempt
  intro s origin role slotCount sum h hd hr toward
  obtain ⟨hhandoffs, hport, hnode⟩ := s.kept_started origin.toNat
  have hbody := State.takeStart_of_hears h
  obtain ⟨hs, -, -⟩ := h
  let l := s.handoffs.filter (fun x => x.pendingToward origin.toNat)
  have hl : (s.started origin.toNat).handoffs.filter (fun x => x.pendingToward origin.toNat) = l := by rw [hhandoffs]
  have hlength : l.length ≤ s.handoffs.length := List.length_filter_le _ _
  have hmem (x : Handoff) : x ∈ l ↔ x ∈ s.handoffs ∧ toward x := by
    rw [List.mem_filter, Handoff.pendingToward_iff]
  have hpending (x : Handoff) (hx : x ∈ l) : (s.started origin.toNat).isPending x.number = true := by
    obtain ⟨hxs, -, a, timer, hstat⟩ := (hmem x).mp hx
    rw [State.isPending_congr hhandoffs]
    exact State.isPending_of_handoff? (State.handoff?_of_mem hd hxs) hstat
  obtain ⟨hfits, hback, hkeeps, howned, hsent⟩ := State.requeue_all_of_room l (s.started origin.toNat)
    (beq_iff_eq.mpr (hnode.trans hs)) hpending (hd.sublist (List.filter_sublist.map _)) (by
      unfold State.hasRoom at hr ⊢
      rw [hport]
      omega)
  have hexec : exec (.start origin role slotCount sum) s = finish s (l.foldl State.requeue (s.started origin.toNat)) := by
    refine congrArg (finish s) (hbody.trans ?_)
    rw [← hl]
    rfl
  generalize l.foldl State.requeue (s.started origin.toNat) = v at *
  have hafter : (s.settle v).handoffs = v.handoffs := by
    obtain ⟨-, -, -, hh⟩ := State.kept_of_frames (State.apartFromFrames_settle_of_room s v hfits)
    exact hh
  have hnumbers (x : Handoff) (hx : x ∈ s.handoffs) : x.number ∈ l.map Handoff.number ↔ toward x := by
    refine ⟨fun hn => ?_, fun ht => List.mem_map_of_mem ((hmem x).mpr ⟨hx, ht⟩)⟩
    obtain ⟨y, hy, hyx⟩ := List.mem_map.mp hn
    obtain ⟨hys, hyt⟩ := (hmem y).mp hy
    rwa [← List.inj_on_of_nodup_map hd hys hx hyx]
  rw [hhandoffs] at hback
  refine ⟨s.settle v, hexec, ?_, fun x hx ht => ⟨?_, ?_, fun hnone => ?_⟩, fun x hx ht => ?_⟩
  · rw [hafter, hback, List.map_map]
    refine List.map_congr_left fun x _ => ?_
    dsimp only [Function.comp_def]
    split <;> rfl
  · rw [hafter, hback]
    exact List.mem_map.mpr ⟨x, hx, if_pos ((hnumbers x hx).mpr ht)⟩
  · exact (howned x ((hmem x).mpr ⟨hx, ht⟩)).settle hfits s
  · have hnot : ¬Owned (s.started origin.toNat).port.queue x.number := by
      rw [hport]
      rintro ⟨e, he, hen⟩
      exact hnone e he hen
    obtain ⟨e, he, hef⟩ := List.mem_map.mp (hsent x ((hmem x).mpr ⟨hx, ht⟩) hnot)
    rcases State.settle_keeps_of_room s v hfits e he with hh | he'
    · rw [TxEntry.isHoldState, hef] at hh
      cases hh
    · exact List.mem_map.mpr ⟨e, he', hef⟩
  · rw [hafter, hback]
    exact List.mem_map.mpr ⟨x, hx, if_neg (mt (hnumbers x hx).mp ht)⟩

end Sys2Proof.Machine
end

section
/-! SUPPORT. The end of the census (R167): the node enters service with START, HOLD_STATE and the captured alarm. -/

namespace Sys2Proof.Machine

/-! ### The slots enter service (R167 step 1) -/

theorem Slot.enterService_eq (x : Slot) : x.enterService =
    { x with
      service := if x.foulingOccupied = true then .settling else .inUse
      point := pointShownBy x.provedNormal x.provedReverse
      ghostRaised := false } := by
  unfold Slot.enterService
  rw [Slot.detected_eq]

theorem State.enterSlot_eq (s : State) (k : SlotIx) :
    s.enterSlot k = s.setSlot k (if k.val < s.cfg.slotCount then (s.slot k).enterService else s.slot k) := by
  unfold State.enterSlot
  split
  · rfl
  · exact (State.setSlot_self s k).symm

theorem State.enterSlots_eq (s : State) : s.enterSlots = { s with slots := s.enterSlots.slots } := by
  unfold State.enterSlots
  simp only [State.enterSlot_eq]
  rfl

theorem State.slot_enterSlots (s : State) (k : SlotIx) :
    s.enterSlots.slot k = if k.val < s.cfg.slotCount then (s.slot k).enterService else s.slot k := by
  have hk := mem_slotOrder k
  simp only [List.mem_cons, List.not_mem_nil, or_false] at hk
  unfold State.enterSlots
  rcases hk with rfl | rfl | rfl | rfl <;> simp [State.enterSlot_eq]

/-! ### The three frames (R167 steps 3 to 5) -/

/-- R154: the captured alarm, as it is reported when the node enters service. -/
def State.capturedFrames (s : State) : List OutFrame :=
  match s.capture with
  | none => []
  | some c => [.incident c.incident true]

theorem State.offer_of_empty {s : State} {f : OutFrame} (hs : s.serving = true) (hq : s.port.queue = []) :
    s.offer f none = s.setQueue [.offered f none] := by
  have hroom : s.hasRoom 1 := by
    unfold State.hasRoom
    rw [hq]
    decide
  rw [State.offer_of_room s f none hroom, if_pos hs, hq]
  simp [enqueue, insertByUrgency, Config.transmitCapacity]

/-- R147: the first HOLD_STATE stands behind the START. -/
theorem State.firstHoldState_of_start {s : State} {f : OutFrame} (hs : s.nodeState = .inService)
    (hf : f.kind = .start) (hq : s.port.queue = [.offered f none]) :
    s.firstHoldState = { s with holdMask := s.formMask, periodTimer := some (s.time + Config.periodTime) }.setQueue
      [.offered f none, .offered (.holdState s.formMask .inService) none] := by
  have hroom : { s with holdMask := s.formMask }.hasRoom 1 := by
    unfold State.hasRoom
    rw [hq]
    exact (by decide : 2 ≤ 16)
  have hplace : (enqueue (.offered (.holdState s.formMask .inService) none) [.offered f none]).1
      = [.offered f none, .offered (.holdState s.formMask .inService) none] := by
    have hhold : (TxEntry.offered f none).isHoldState = false := by simp [TxEntry.isHoldState, TxEntry.offered, hf]
    have hurgency : (TxEntry.offered f none).urgency = 0 := by
      simp [TxEntry.urgency, TxEntry.offered, OutFrame.urgency, hf, kindUrgency]
    simp [enqueue, hhold, insertByUrgency, hurgency, urgency_offered_holdState, Config.transmitCapacity]
  refine (State.offerHoldState_of_room (s := { s with holdMask := s.formMask }) (beq_iff_eq.mpr hs) hroom).trans ?_
  show State.setQueue _ (enqueue _ s.port.queue).1 = _
  rw [hq, hplace]

/-- R167 step 5: the captured alarm stands behind them. -/
theorem State.reportCapture_of_frames {s : State} {f g : OutFrame} (hs : s.serving = true) (hf : f.urgency = 0)
    (hg : g.urgency = 0) (hq : s.port.queue = [.offered f none, .offered g none]) :
    s.reportCapture = s.setQueue ([.offered f none, .offered g none] ++ s.capturedFrames.map (TxEntry.offered · none)) := by
  unfold State.reportCapture State.capturedFrames
  cases s.capture with
  | none =>
    rw [List.map_nil, List.append_nil, ← hq]
    rfl
  | some c =>
    have hroom : s.hasRoom 1 := by
      unfold State.hasRoom
      rw [hq]
      exact (by decide : 3 ≤ 16)
    have hplace : (enqueue (.offered (.incident c.incident true) none) [.offered f none, .offered g none]).1
        = [.offered f none, .offered g none, .offered (.incident c.incident true) none] := by
      have hu : (TxEntry.offered (.incident c.incident true) none).urgency = 3 := rfl
      have hfu : (TxEntry.offered f none).urgency = 0 := hf
      have hgu : (TxEntry.offered g none).urgency = 0 := hg
      have hhold : (TxEntry.offered (.incident c.incident true) none).isHoldState = false := rfl
      simp [enqueue, hhold, insertByUrgency, hu, hfu, hgu, Config.transmitCapacity]
    dsimp only
    rw [State.offerReport_of_room _ _ hroom, if_pos hs, hq, hplace]
    rfl

/-- The node in service, its slots `slots`, under a mask. -/
def State.enteredWith (s : State) (time : Nat) (slots : Vector Slot 4) (m : HoldMask) (q : List TxEntry) : State :=
  { s with
    nodeState := .inService
    censusStart := none
    time := time
    slots := slots
    holdMask := m
    periodTimer := some (time + Config.periodTime)
    port := { s.port with queue := q } }

/-- R167: the node as it enters service, with its frames in their order and its mask formed. -/
theorem State.enterService_of_empty {s : State} (start : Nat) (hq : s.port.queue = []) :
    ∃ m, s.enterService start = s.enteredWith (max s.time (start + Config.censusTime))
          (s.reach (start + Config.censusTime)).enterSlots.slots m
          ([.offered (.start s.cfg.role s.cfg.slotCount s.cfg.imageSum) none, .offered (.holdState m .inService) none]
            ++ s.capturedFrames.map (TxEntry.offered · none))
      ∧ (s.enterService start).formMask = m := by
  have hslots := State.enterSlots_eq (s.reach (start + Config.censusTime))
  generalize (s.reach (start + Config.censusTime)).enterSlots.slots = slots at *
  let s1 : State := { s with
    nodeState := .inService, censusStart := none, time := max s.time (start + Config.censusTime), slots := slots }
  let f : OutFrame := .start s.cfg.role s.cfg.slotCount s.cfg.imageSum
  have hoffer : s1.offer f none = s1.setQueue [.offered f none] := State.offer_of_empty rfl hq
  have hhold := State.firstHoldState_of_start (s := s1.setQueue [.offered f none]) rfl rfl rfl
  have hcapture := State.reportCapture_of_frames
    (s := { s1 with holdMask := s1.formMask, periodTimer := some (s1.time + Config.periodTime) }.setQueue
      [.offered f none, .offered (.holdState s1.formMask .inService) none]) (f := f)
    (g := .holdState s1.formMask .inService) rfl rfl rfl rfl
  have hbody : s.enterService start = s.enteredWith s1.time slots s1.formMask
      ([.offered f none, .offered (.holdState s1.formMask .inService) none]
        ++ s.capturedFrames.map (TxEntry.offered · none)) := by
    unfold State.enterService
    rw [hslots]
    show ((s1.offer f none).firstHoldState).reportCapture = _
    rw [hoffer, hhold]
    exact hcapture
  exact ⟨s1.formMask, hbody, by rw [hbody]; exact State.formMask_congr rfl rfl rfl rfl rfl⟩

theorem exec_censusEnd_of_census {s : State} {start : Nat} (hs : s.nodeState = .census) (h : s.censusStart = some start) :
    exec .censusEnd s = finish s (s.enterService start) := by
  refine congrArg (finish s) ((if_pos hs).trans ?_)
  rw [h]

theorem State.kept_settle_of_formed {s : State} (hf : s.formMask = s.holdMask) (b : State) :
    (b.settle s).port = s.port ∧ (b.settle s).apartFromFrames = s.apartFromFrames ∧ (b.settle s).holdMask = s.holdMask
      ∧ (b.settle s).periodTimer = s.periodTimer := by
  rw [State.settle_of_formed hf]
  exact ⟨rfl, by rw [State.apartFromFrames_setLines, State.apartFromFrames_timeGhosts], rfl, rfl⟩

/-- Settles O8: the slots enter service as their inputs show them, the three frames stand in the empty queue, and the
other blocks stay. -/
theorem censusEndEntersService : Obligations.CensusEndEntersService := by
  unfold Obligations.CensusEndEntersService
  refine fun s => ⟨fun hs => Leaves.of_idle (congrArg (finish s) (if_neg hs)), fun start hs hstart hq hl hoff => ?_⟩
  have hexec := exec_censusEnd_of_census hs hstart
  obtain ⟨m, hbody, hmask⟩ := State.enterService_of_empty start hq
  have hslots (k : SlotIx) := State.slot_enterSlots (s.reach (start + Config.censusTime)) k
  rw [hbody] at hexec hmask
  generalize hv : (s.reach (start + Config.censusTime)).enterSlots.slots = v at *
  generalize hb : s.enteredWith (max s.time (start + Config.censusTime)) v m _ = b at *
  obtain ⟨hport, hframes, hhold, hperiod⟩ := State.kept_settle_of_formed (s := b) (by rw [hmask, ← hb]; rfl) s
  have hslot (k : SlotIx) : (s.settle b).slot k = (s.slot k).timeGhost
      (if k.val < s.cfg.slotCount then (s.slot k).enterService else s.slot k) (max s.time (start + 2000))
      (s.slotCfg k).gapTime := by
    rw [State.slot_settle, ← hb]
    refine congrArg (fun x => (s.slot k).timeGhost x (max s.time (start + 2000)) (s.slotCfg k).gapTime) ?_
    rw [← hv]
    exact hslots k
  have hsignal := State.signal_settle_of_empty s (s := b) (by rw [← hb]; exact hl)
  have hnext : exec .censusEnd s = .next (s.settle b) := hexec
  generalize s.settle b = t at *
  rw [← hb] at hport hframes hhold hperiod
  have htime : t.time = max s.time (start + 2000) := (congrArg State.time hframes :)
  refine ⟨t, hnext, (congrArg State.nodeState hframes :), (congrArg State.censusStart hframes :), htime, fun k => ?_,
    fun k hk hocc hzone => ?_, ?_, ?_, hsignal, (congrArg State.records hframes :), (congrArg State.free hframes :),
    (congrArg State.config hframes :), (congrArg State.capture hframes :), (congrArg State.furtherAlarms hframes :),
    (congrArg State.handoffs hframes :), (congrArg State.waitList hframes :), (congrArg State.faultLatch hframes :),
    (congrArg State.closures hframes :), (congrArg State.watches hframes :), (congrArg State.roster hframes :),
    (congrArg State.crestPassage hframes :), (congrArg State.startSent hframes :)⟩
  · rw [hslot, Slot.apartFromTimer_timeGhost, Slot.enterService_eq]
  · rw [hslot, if_pos hk, htime]
    refine Slot.ghostTimer_timeGhost_of_begins ?_ ?_
    · simp [Slot.ghost, Slot.enterService, hocc, hzone]
    · simp [Slot.ghost, hoff k]
  · rw [hport, hhold]
    show List.map TxEntry.frame (_ ++ s.capturedFrames.map (TxEntry.offered · none)) = _
    rw [List.map_append, List.map_map]
    refine congrArg₂ (· ++ ·) rfl ?_
    unfold State.capturedFrames
    cases s.capture <;> rfl
  · rw [hperiod, htime]
    rfl

end Sys2Proof.Machine
end

section
/-! SUPPORT. A forward commit axle that begins a passage (R24, R25, R43, R45, R54, R55, R62, R65): what the slot consumes,
the late throw, the decisions about the record, and the passage at the tail of the zone list. -/

namespace Sys2Proof.Machine

/-! ### A record in one place (R12) -/

theorem PoolLaw.queued_not_waiting {s : State} (h : PoolLaw s) {k : SlotIx} {r : RecIx} (hr : r ∈ (s.slot k).queue) :
    ∀ e ∈ s.waitList, e.record ≠ r := by
  intro e he her
  have hone := Pooled.count (held := []) h r
  have hqueued := List.one_le_count_iff.mpr (State.mem_queuedRecords hr)
  have hwaits := List.one_le_count_iff.mpr (List.mem_map.mpr ⟨e, he, her⟩ : r ∈ s.waitList.map WaitEntry.record)
  omega

theorem PoolLaw.free_not_waiting {s : State} (h : PoolLaw s) {r : RecIx} (hr : r ∈ s.free) :
    ∀ e ∈ s.waitList, e.record ≠ r := by
  intro e he her
  have hone := Pooled.count (held := []) h r
  have hfree := List.one_le_count_iff.mpr hr
  have hwaits := List.one_le_count_iff.mpr (List.mem_map.mpr ⟨e, he, her⟩ : r ∈ s.waitList.map WaitEntry.record)
  omega

/-! ### The late throw (R45) -/

theorem Slot.afterLateThrow_of_mayThrow {x : Slot} {leg : Leg} (h : x.mayThrow leg) (c : SlotConfig) (now : Nat) :
    x.afterLateThrow c leg now = x.thrownToward leg c.retries (now + c.throwLimit) := if_pos h

theorem Slot.afterLateThrow_of_not_mayThrow {x : Slot} {leg : Leg} (h : ¬x.mayThrow leg) (c : SlotConfig) (now : Nat) :
    x.afterLateThrow c leg now = x := if_neg h

/-- R45: a late throw changes the point and its drive alone. -/
theorem Slot.afterLateThrow_eq (x : Slot) (c : SlotConfig) (leg : Leg) (now : Nat) :
    x.afterLateThrow c leg now = { x with
      point := (x.afterLateThrow c leg now).point
      driveNormal := (x.afterLateThrow c leg now).driveNormal
      driveReverse := (x.afterLateThrow c leg now).driveReverse } := by
  unfold Slot.afterLateThrow
  split <;> rfl

theorem State.lateThrow_eq (s : State) (k : SlotIx) (r : RecIx) :
    s.lateThrow k r
      = s.setSlot k ((s.slot k).afterLateThrow (s.slotCfg k) ((s.slotCfg k).wantedLeg (s.record r).destination) s.time) := by
  by_cases h : (s.slot k).mayThrow (s.wantedLeg k r)
  · refine (if_pos ((Slot.mayThrow_iff _ _).mp h)).trans ?_
    exact congrArg (s.setSlot k) (Slot.afterLateThrow_of_mayThrow h _ _).symm
  · refine (if_neg (mt (Slot.mayThrow_iff _ _).mpr h)).trans ((State.setSlot_self s k).symm.trans ?_)
    exact congrArg (s.setSlot k) (Slot.afterLateThrow_of_not_mayThrow h _ _).symm

/-! ### The decisions about the record (R43, R55) -/

/-- R43: the record with STRAY as it applies. -/
def State.strayMarked (s : State) (k : SlotIx) (r : RecIx) : Record :=
  if s.strays k (s.record r) = true then (s.record r).flagged { stray := true } else s.record r

/-- R43: the notice of a record that is a stray anew. -/
def State.strayFrames (s : State) (k : SlotIx) (r : RecIx) : List OutFrame :=
  if s.strays k (s.record r) = true ∧ (s.record r).flags.stray = false then
    [.incident (strayIncident k (s.record r)) false]
  else []

theorem State.strays_eq_false_iff (s : State) (k : SlotIx) (r : Record) :
    s.strays k r = false ↔ (r.anonymous || (s.slotCfg k).inReach r.destination) = true := by
  unfold State.strays Record.anonymous SlotConfig.inReach
  cases h : r.tag == 0 <;> simp_all [bne]

theorem Record.flagged_stray_self {r : Record} (h : r.flags.stray = true) : r.flagged { stray := true } = r := by
  obtain ⟨_, _, _, _, _, _, flags, _, _, _⟩ := r
  obtain ⟨⟩ := flags
  simp_all [Record.flagged, Flags.union]

theorem State.setRecord_self (s : State) (i : RecIx) : s.setRecord i (s.record i) = s := by
  simp [State.setRecord, State.record]

theorem State.setRecord_setRecord (s : State) (i : RecIx) (r r' : Record) :
    (s.setRecord i r).setRecord i r' = s.setRecord i r' := by
  simp [State.setRecord]

theorem Offered.record {s v u : State} {sends : List OutFrame} (h : Offered s v u sends) (i : RecIx) :
    v.record i = u.record i := by rw [h.alike]; rfl

theorem Offered.slot {s v u : State} {sends : List OutFrame} (h : Offered s v u sends) (k : SlotIx) :
    v.slot k = u.slot k := by rw [h.alike]; rfl

theorem forall_mem_cons_incident {inc : Incident} {captured : Bool} {sends : List OutFrame}
    (hk : ∀ g ∈ sends, g.kind ≠ .holdState) : ∀ g ∈ OutFrame.incident inc captured :: sends, g.kind ≠ .holdState :=
  List.forall_mem_cons.mpr ⟨FrameKind.noConfusion, hk⟩

section
variable {s v u : State} {sends : List OutFrame} (h : Offered s v u sends) (hk : ∀ g ∈ sends, g.kind ≠ .holdState)
  (hv : v.serving = true)
include h hk hv

/-- R43: what the STRAY decision does. -/
theorem Offered.decideStray (k : SlotIx) (r : RecIx) :
    Offered s (v.decideStray k r) (u.setRecord r (u.strayMarked k r)) (u.strayFrames k r ++ sends) := by
  have hmap := h.map (fun x => x.addFlags r { stray := true }) fun _ _ _ _ => rfl
  have hself : u.setRecord r (u.record r) = u := State.setRecord_self u r
  unfold State.decideStray State.strayMarked State.strayFrames
  rw [h.record, h.slotCfg]
  cases hs : u.strays k (u.record r) with
  | false =>
    rw [if_pos ((u.strays_eq_false_iff k _).mp hs), if_neg Bool.false_ne_true, if_neg (by simp), hself]
    exact h
  | true =>
    have hnot : ¬((u.record r).anonymous || (u.slotCfg k).inReach (u.record r).destination) = true :=
      mt (u.strays_eq_false_iff k _).mpr (by simp [hs])
    rw [if_neg hnot, if_pos rfl]
    cases hf : (u.record r).flags.stray with
    | true =>
      rw [if_pos rfl, if_neg (by simp), Record.flagged_stray_self hf, hself]
      exact h
    | false =>
      rw [if_neg Bool.false_ne_true, if_pos ⟨rfl, rfl⟩]
      exact hmap.raise_notice hk hv _ rfl

/-- R55: the record with DIVERTED as it applies. -/
def State.divertMarked (s : State) (k : SlotIx) (intended : Option Leg) (r : RecIx) : Record :=
  if s.diverts k intended r = true then (s.record r).flagged { diverted := true } else s.record r

/-- R55: the notice of a divert that a leader caused. -/
def State.divertFrames (s : State) (k : SlotIx) (intended : Option Leg) (r : RecIx) : List OutFrame :=
  match intended with
  | none => []
  | some leg =>
    if leg ≠ s.wantedLeg k r ∧ (s.slot k).leaderInTheWay = true then
      [.incident (catchUpIncident s k r leg) false]
    else []

/-- R55: what the DIVERTED decision does. -/
theorem Offered.decideDivert (k : SlotIx) (intended : Option Leg) (r : RecIx) :
    Offered s (v.decideDivert k intended r) (u.setRecord r (u.divertMarked k intended r))
      (u.divertFrames k intended r ++ sends) := by
  have hmap := h.map (fun x => x.addFlags r { diverted := true }) fun _ _ _ _ => rfl
  have hself : u.setRecord r (u.record r) = u := State.setRecord_self u r
  have hwanted : v.wantedLeg k r = u.wantedLeg k r := by
    unfold State.wantedLeg
    rw [h.record, h.slotCfg]
  have hinc (leg : Leg) : catchUpIncident v k r leg = catchUpIncident u k r leg := by
    unfold catchUpIncident
    simp only [h.record, h.slot]
  unfold State.decideDivert State.divertMarked State.divertFrames State.diverts
  cases intended with
  | none =>
    rw [if_neg Bool.false_ne_true, hself]
    exact h
  | some leg =>
    dsimp only
    rw [hwanted, h.slot]
    by_cases hleg : leg = u.wantedLeg k r
    · rw [if_pos hleg, if_neg (by simp [hleg]), if_neg (fun hc => hc.1 hleg), hself]
      exact h
    · have hne : (leg != u.wantedLeg k r) = true := bne_iff_ne.mpr hleg
      rw [if_neg hleg, if_pos hne]
      by_cases hlead : (u.slot k).leaderInTheWay = true
      · rw [if_pos hlead, if_pos ⟨hleg, hlead⟩, hinc]
        exact hmap.raise_notice hk hv _ rfl
      · rw [if_neg hlead, if_neg fun hc => hlead hc.2]
        exact hmap

end

/-! ### The passage begins (R62, R65) -/

/-- R42: the leg a record wants at a slot. -/
def State.wantedBy (s : State) (k : SlotIx) (r : RecIx) : Leg := (s.slotCfg k).wantedLeg (s.record r).destination

/-- R45: the slot once a record's late throw has started. -/
def State.thrownFor (s : State) (k : SlotIx) (r : RecIx) : Slot :=
  (s.slot k).afterLateThrow (s.slotCfg k) (s.wantedBy k r) s.time

/-- R43, R55: the record once its passage has begun. -/
def State.openedRecord (s : State) (k : SlotIx) (r : RecIx) : Record :=
  if s.diverts k (s.thrownFor k r).intendedLeg r = true then (s.strayMarked k r).flagged { diverted := true }
  else s.strayMarked k r

/-- R62: the slot once a record's passage has begun. -/
def State.openedSlot (s : State) (k : SlotIx) (r : RecIx) (consumed : Option Seq) : Slot :=
  { s.thrownFor k r with
    zone := (s.slot k).zone ++ [Passage.begun r consumed (s.thrownFor k r).intendedLeg (s.record r).expectedAxles s.time
      (s.slotCfg k).stallTime] }

/-- The state once a record's passage has begun. -/
def State.opened (s : State) (k : SlotIx) (r : RecIx) (consumed : Option Seq) : State :=
  (s.setRecord r (s.openedRecord k r)).setSlot k (s.openedSlot k r consumed)

/-- R43, R55: the notices of a begin. -/
def State.openedFrames (s : State) (k : SlotIx) (r : RecIx) : List OutFrame :=
  ((s.lateThrow k r).setRecord r ((s.lateThrow k r).strayMarked k r)).divertFrames k (s.thrownFor k r).intendedLeg r
    ++ (s.lateThrow k r).strayFrames k r

theorem Record.kept_strayMarked (s : State) (k : SlotIx) (r : RecIx) :
    (s.strayMarked k r).tag = (s.record r).tag ∧ (s.strayMarked k r).destination = (s.record r).destination
      ∧ (s.strayMarked k r).expectedAxles = (s.record r).expectedAxles := by
  unfold State.strayMarked
  split <;> exact ⟨rfl, rfl, rfl⟩

theorem State.diverts_iff (s : State) (k : SlotIx) (intended : Option Leg) (r : RecIx) :
    s.diverts k intended r = true ↔ ∃ leg, intended = some leg ∧ leg ≠ s.wantedBy k r := by
  unfold State.diverts State.wantedBy State.wantedLeg
  cases intended <;> simp [bne]

theorem State.kind_strayFrames (s : State) (k : SlotIx) (r : RecIx) : ∀ g ∈ s.strayFrames k r, g.kind ≠ .holdState := by
  unfold State.strayFrames
  split
  · exact List.forall_mem_singleton.mpr FrameKind.noConfusion
  · exact List.forall_mem_nil _

theorem State.kind_divertFrames (s : State) (k : SlotIx) (intended : Option Leg) (r : RecIx) :
    ∀ g ∈ s.divertFrames k intended r, g.kind ≠ .holdState := by
  unfold State.divertFrames
  split
  · exact List.forall_mem_nil _
  · split
    · exact List.forall_mem_singleton.mpr FrameKind.noConfusion
    · exact List.forall_mem_nil _

/-- R62, R65: a passage at the tail of the zone list. -/
def State.passageAdded (s : State) (k : SlotIx) (r : RecIx) (consumed : Option Seq) (intended : Option Leg) : State :=
  s.setSlot k { s.slot k with
    zone := (s.slot k).zone ++ [Passage.begun r consumed intended (s.record r).expectedAxles s.time
      (s.slotCfg k).stallTime] }

/-- R44: with a passage in the zone no throw is evaluated. -/
theorem State.openPassage_eq (s : State) (k : SlotIx) (r : RecIx) (consumed : Option Seq) :
    s.openPassage k r consumed = (((s.lateThrow k r).decideStray k r).decideDivert k
      ((s.lateThrow k r).slot k).intendedLeg r).passageAdded k r consumed ((s.lateThrow k r).slot k).intendedLeg := by
  refine State.evaluateThrow_of_zone ?_
  rw [State.slot_setSlot]
  exact List.append_ne_nil_of_right_ne_nil _ (List.cons_ne_nil _ _)

/-- What the decisions and the passage leave, in one. -/
theorem State.opened_eq (s : State) (k : SlotIx) (r : RecIx) (consumed : Option Seq) :
    (((s.lateThrow k r).setRecord r ((s.lateThrow k r).strayMarked k r)).setRecord r
      (((s.lateThrow k r).setRecord r ((s.lateThrow k r).strayMarked k r)).divertMarked k
        (s.thrownFor k r).intendedLeg r)).passageAdded k r consumed (s.thrownFor k r).intendedLeg
      = s.opened k r consumed := by
  have hzone : (s.thrownFor k r).zone = (s.slot k).zone :=
    (congrArg Slot.zone ((s.slot k).afterLateThrow_eq (s.slotCfg k) (s.wantedBy k r) s.time) :)
  obtain ⟨-, hdest, haxles⟩ := Record.kept_strayMarked s k r
  have hrecord : ((s.setSlot k (s.thrownFor k r)).setRecord r (s.strayMarked k r)).divertMarked k
      (s.thrownFor k r).intendedLeg r = s.openedRecord k r := by
    have hdiverts : ((s.setSlot k (s.thrownFor k r)).setRecord r (s.strayMarked k r)).diverts k
        (s.thrownFor k r).intendedLeg r = s.diverts k (s.thrownFor k r).intendedLeg r := by
      unfold State.diverts State.wantedLeg
      rw [State.record_setRecord, hdest]
      rfl
    unfold State.divertMarked State.openedRecord
    rw [hdiverts, State.record_setRecord]
  have hkeeps : (s.openedRecord k r).expectedAxles = (s.record r).expectedAxles := by
    unfold State.openedRecord
    split <;> exact haxles
  have hthrow : s.lateThrow k r = s.setSlot k (s.thrownFor k r) := s.lateThrow_eq k r
  have hmark : (s.setSlot k (s.thrownFor k r)).strayMarked k r = s.strayMarked k r := rfl
  rw [hthrow, hmark, hrecord, State.setRecord_setRecord]
  unfold State.passageAdded State.opened State.openedSlot
  rw [State.record_setRecord, hkeeps, ← hzone, ← State.setSlot_setRecord, State.slot_setSlot,
    State.setSlot_setSlot]
  rfl

/-- R65, steps 2 to 5: what the begin of a passage does. -/
theorem Offered.openPassage {s v u : State} {sends : List OutFrame} (h : Offered s v u sends)
    (hk : ∀ g ∈ sends, g.kind ≠ .holdState) (hv : v.serving = true) (k : SlotIx) (r : RecIx) (consumed : Option Seq) :
    Offered s (v.openPassage k r consumed) (u.opened k r consumed) (u.openedFrames k r ++ sends) := by
  have hthrow : Offered s (v.lateThrow k r) (u.lateThrow k r) sends := by
    refine h.map (fun x => x.lateThrow k r) fun x c n q => ?_
    rw [State.lateThrow_eq, State.lateThrow_eq]
    rfl
  have hslot : (v.lateThrow k r).slot k = u.thrownFor k r := by
    rw [hthrow.slot, State.lateThrow_eq, State.slot_setSlot]
    rfl
  have hserving : (v.lateThrow k r).serving = true := by
    rw [State.lateThrow_eq]
    exact hv
  have hstray := hthrow.decideStray hk hserving k r
  have hkstray : ∀ g ∈ (u.lateThrow k r).strayFrames k r ++ sends, g.kind ≠ .holdState :=
    List.forall_mem_append.mpr ⟨State.kind_strayFrames _ k r, hk⟩
  have hdivert := hstray.decideDivert hkstray (hstray.serving.trans (hthrow.serving.symm.trans hserving)) k
    (u.thrownFor k r).intendedLeg r
  have hpassage := hdivert.map (fun x => x.passageAdded k r consumed (u.thrownFor k r).intendedLeg) fun _ _ _ _ => rfl
  rw [State.openPassage_eq, hslot, State.openedFrames, List.append_assoc, ← u.opened_eq]
  exact hpassage

theorem State.length_openedFrames (s : State) (k : SlotIx) (r : RecIx) : (s.openedFrames k r).length ≤ 2 := by
  have hstray : ((s.lateThrow k r).strayFrames k r).length ≤ 1 := by
    unfold State.strayFrames
    split <;> simp
  have hdivert (u : State) (intended : Option Leg) : (u.divertFrames k intended r).length ≤ 1 := by
    unfold State.divertFrames
    split
    · simp
    · split <;> simp
  have := hdivert ((s.lateThrow k r).setRecord r ((s.lateThrow k r).strayMarked k r)) (s.thrownFor k r).intendedLeg
  unfold State.openedFrames
  rw [List.length_append]
  omega

theorem State.kind_openedFrames (s : State) (k : SlotIx) (r : RecIx) : ∀ g ∈ s.openedFrames k r, g.kind ≠ .holdState :=
  List.forall_mem_append.mpr ⟨State.kind_divertFrames _ k _ r, State.kind_strayFrames _ k r⟩

theorem State.mem_openedFrames_of_stray {s : State} {k : SlotIx} {r : RecIx} (h : s.strays k (s.record r) = true)
    (hf : (s.record r).flags.stray = false) : .incident (strayIncident k (s.record r)) false ∈ s.openedFrames k r := by
  refine List.mem_append_right _ ?_
  have hframes : (s.lateThrow k r).strayFrames k r = s.strayFrames k r := by
    rw [State.lateThrow_eq]
    rfl
  rw [hframes, State.strayFrames, if_pos ⟨h, hf⟩]
  exact List.mem_singleton.mpr rfl

/-- The tags of records do not follow their other fields. -/
theorem State.tag_setRecord {s : State} {i : RecIx} {r : Record} (h : r.tag = (s.record i).tag) (j : RecIx) :
    ((s.setRecord i r).record j).tag = (s.record j).tag := by
  rw [State.record_setRecord_eq_ite]
  split
  · rename_i hj
    rw [hj, h]
  · rfl

theorem State.youngestTag_setRecord {s : State} {i : RecIx} {r : Record} (h : r.tag = (s.record i).tag) (k : SlotIx) :
    (s.setRecord i r).youngestTag k = s.youngestTag k := by
  have hslot : (s.setRecord i r).slot k = s.slot k := rfl
  unfold State.youngestTag
  rw [hslot]
  split
  · exact State.tag_setRecord h _
  · rfl

theorem catchUpIncident_eq (s : State) (k : SlotIx) (r : RecIx) (leg : Leg) : catchUpIncident s k r leg
    = ⟨.catchUpDivert, some k, (s.record r).tag, s.youngestTag k, .intended leg⟩ := rfl

theorem Slot.leaderInTheWay_iff (x : Slot) :
    x.leaderInTheWay = true ↔ x.service = .inUse ∧ (x.zone ≠ [] ∨ x.foulingOccupied = true) := by
  simp [Slot.leaderInTheWay]

theorem State.mem_openedFrames_of_divert {s : State} {k : SlotIx} {r : RecIx} {leg : Leg}
    (h : (s.thrownFor k r).intendedLeg = some leg) (hw : leg ≠ s.wantedBy k r)
    (hl : (s.thrownFor k r).leaderInTheWay = true) :
    .incident ⟨.catchUpDivert, some k, (s.record r).tag, s.youngestTag k, .intended leg⟩ false ∈ s.openedFrames k r := by
  have hthrow : s.lateThrow k r = s.setSlot k (s.thrownFor k r) := s.lateThrow_eq k r
  have hzone : (s.thrownFor k r).zone = (s.slot k).zone :=
    (congrArg Slot.zone ((s.slot k).afterLateThrow_eq (s.slotCfg k) (s.wantedBy k r) s.time) :)
  obtain ⟨htag, hdest, -⟩ := Record.kept_strayMarked s k r
  have hmark : (s.setSlot k (s.thrownFor k r)).strayMarked k r = s.strayMarked k r := rfl
  refine List.mem_append_left _ ?_
  rw [hthrow, hmark, h]
  have hwanted : ((s.setSlot k (s.thrownFor k r)).setRecord r (s.strayMarked k r)).wantedLeg k r = s.wantedBy k r := by
    unfold State.wantedLeg
    rw [State.record_setRecord, hdest]
    rfl
  have hslot : ((s.setSlot k (s.thrownFor k r)).setRecord r (s.strayMarked k r)).slot k = s.thrownFor k r :=
    State.slot_setSlot s k _
  have hyoungest : ((s.setSlot k (s.thrownFor k r)).setRecord r (s.strayMarked k r)).youngestTag k = s.youngestTag k := by
    refine (State.youngestTag_setRecord (s := s.setSlot k (s.thrownFor k r)) htag k).trans ?_
    unfold State.youngestTag
    rw [State.slot_setSlot, hzone]
    rfl
  have hinc : catchUpIncident ((s.setSlot k (s.thrownFor k r)).setRecord r (s.strayMarked k r)) k r leg
      = ⟨.catchUpDivert, some k, (s.record r).tag, s.youngestTag k, .intended leg⟩ := by
    rw [catchUpIncident_eq, State.record_setRecord, htag, hyoungest]
  unfold State.divertFrames
  dsimp only
  rw [hwanted, hslot, if_pos ⟨hw, hl⟩, hinc]
  exact List.mem_singleton.mpr rfl

/-- R64: the begin of a passage is what the axle does at a zone list that takes it so. -/
theorem State.commitForward_of_begins {s : State} {k : SlotIx} (h : (s.slot k).beginsPassage) :
    s.commitForward k = s.beginPassage k := by
  unfold State.commitForward
  rcases h with h | ⟨p, hz, hp, hg⟩
  · rw [h]
    rfl
  · rw [hz]
    have hnot : ¬(p.gapRunning = true ∨ Config.zoneCapacity ≤ 1) := by simp [hg, Config.zoneCapacity]
    exact (if_pos hp).trans (if_neg hnot)

theorem State.reports_opened (s : State) (k : SlotIx) (r : RecIx) (consumed : Option Seq) :
    (s.opened k r consumed).apartFromReports = (s.setSlot k (s.openedSlot k r consumed)).apartFromReports := by
  unfold State.opened
  rw [State.apartFromReports_setSlot, State.apartFromReports_setSlot]
  rfl

theorem State.record_opened (s : State) (k : SlotIx) (r : RecIx) (consumed : Option Seq) :
    (s.opened k r consumed).record r = s.openedRecord k r :=
  State.record_setRecord s r _

/-! ### An announced passage (R24) -/

section
variable {s : State} {k : SlotIx} {e : Seq} {r : RecIx} {rest : List RecIx}

theorem State.consume_of_head (he : (s.slot k).expected = some e) (hq : (s.slot k).queue = r :: rest)
    (hd : distance e (s.queuedSeq r) = 0) : s.consume k = some (s.consumeHead k e r rest) := by
  unfold State.consume
  rw [he, hq]
  exact if_pos hd

/-- R24: the state once the head is consumed. -/
def State.headConsumed (s : State) (k : SlotIx) (e : Seq) (r : RecIx) (rest : List RecIx) : State :=
  (s.setRecord r { s.record r with timing := none }).setSlot k
    { (s.slot k).consume e .announced (s.record r).tag with queue := rest }

/-- R45: the late throw does not look at what a slot consumes. -/
theorem Slot.afterLateThrow_consumed (x : Slot) (c : SlotConfig) (leg : Leg) (now : Nat) (a : Option Seq)
    (q : List RecIx) (l : List RecentEntry) :
    Slot.afterLateThrow { x with expected := a, queue := q, recent := l } c leg now
      = { x.afterLateThrow c leg now with expected := a, queue := q, recent := l } := by
  by_cases h : x.mayThrow leg
  · rw [Slot.afterLateThrow_of_mayThrow h]
    exact Slot.afterLateThrow_of_mayThrow (x := { x with expected := a, queue := q, recent := l }) h c now
  · rw [Slot.afterLateThrow_of_not_mayThrow h]
    exact Slot.afterLateThrow_of_not_mayThrow (x := { x with expected := a, queue := q, recent := l }) h c now

theorem State.wantedBy_headConsumed :
    (s.headConsumed k e r rest).wantedBy k r = s.wantedBy k r := by
  unfold State.wantedBy State.headConsumed
  rw [State.record_setSlot, State.record_setRecord]
  rfl

theorem State.thrownFor_headConsumed : (s.headConsumed k e r rest).thrownFor k r
    = { s.thrownFor k r with
        expected := some (e + 1)
        queue := rest
        recent := pushRecent ⟨e, .announced, (s.record r).tag⟩ (s.slot k).recent } := by
  have hslot : (s.headConsumed k e r rest).slot k = { (s.slot k) with
      expected := some (e + 1)
      queue := rest
      recent := pushRecent ⟨e, .announced, (s.record r).tag⟩ (s.slot k).recent } := State.slot_setSlot _ k _
  unfold State.thrownFor
  rw [State.wantedBy_headConsumed, hslot, Slot.afterLateThrow_consumed]
  rfl

theorem State.record_headConsumed : (s.headConsumed k e r rest).record r = { s.record r with timing := none } :=
  State.record_setRecord s r _

/-- Reports and the slot apart, the head's consumption has changed nothing. -/
theorem State.reports_setSlot_headConsumed (x : Slot) :
    ((s.headConsumed k e r rest).setSlot k x).apartFromReports = (s.setSlot k x).apartFromReports := by
  unfold State.headConsumed
  rw [State.setSlot_setSlot, State.apartFromReports_setSlot, State.apartFromReports_setSlot]
  rfl

/-- R43: the STRAY decision does not look at the queue timing. -/
theorem State.strayMarked_headConsumed : (s.headConsumed k e r rest).strayMarked k r
    = { s.strayMarked k r with timing := none } := by
  have hstrays : (s.headConsumed k e r rest).strays k { s.record r with timing := none } = s.strays k (s.record r) := rfl
  unfold State.strayMarked
  rw [State.record_headConsumed, hstrays]
  split <;> rfl

theorem State.youngestTag_headConsumed : (s.headConsumed k e r rest).youngestTag k = s.youngestTag k := by
  refine Eq.trans ?_ (State.youngestTag_setRecord (s := s) (i := r) (r := { s.record r with timing := none }) rfl k)
  unfold State.youngestTag State.headConsumed
  rw [State.slot_setSlot]
  rfl

end

/-- Settles O9: the head is consumed, and its passage begins with the decisions of `State.opened`. -/
theorem commitAxleBeginsAnAnnouncedPassage : Obligations.CommitAxleBeginsAnAnnouncedPassage := by
  unfold Obligations.CommitAxleBeginsAnAnnouncedPassage
  intro s k e r rest hs hbegins he hq hd x wanted y strayed diverts
  have hserving := State.serving_of_slotServing hs
  let u := s.headConsumed k e r rest
  have hoffered := (Offered.of_queue (s := s) (v := u) rfl).openPassage (by simp) hserving k r (some e)
  rw [List.append_nil] at hoffered
  have hexec : exec (.commitAxleForward k) s = finish s (u.openPassage k r (some e)) := by
    refine (if_pos hs).trans (congrArg (finish s) ((State.commitForward_of_begins hbegins).trans ?_))
    unfold State.beginPassage
    rw [State.consume_of_head he hq hd]
    rfl
  obtain ⟨t, hnext, hreports, hroom⟩ := Leaves.of_reported hexec hoffered.reported (u.kind_openedFrames k r)
  have hsheds : Sheds (u.openPassage k r (some e)) t :=
    Host.Outcome.next.inj (hexec.symm.trans hnext) ▸ (Sheds.refl _).settle s
  have hthrown : u.thrownFor k r = { y with
      expected := some (e + 1)
      queue := rest
      recent := pushRecent ⟨e, .announced, (s.record r).tag⟩ (s.slot k).recent } := State.thrownFor_headConsumed
  have hwanted : u.wantedBy k r = wanted := State.wantedBy_headConsumed
  have hdiverts : u.diverts k (u.thrownFor k r).intendedLeg r = true ↔ diverts := by
    rw [State.diverts_iff, hthrown, hwanted]
    exact Iff.rfl
  refine ⟨t, hnext, ?_, fun hpool => ?_, fun hr => ⟨fun hstray hflag => ?_, fun leg hleg hne huse hlead => ?_⟩⟩
  · refine (hreports.trans (u.reports_opened k r (some e))).trans ?_
    unfold State.openedSlot
    have hzone : (u.slot k).zone = x.zone := (congrArg Slot.zone (State.slot_setSlot _ k _) :)
    rw [hthrown, State.record_headConsumed, hzone]
    exact State.reports_setSlot_headConsumed _
  · have hwait : (u.openPassage k r (some e)).waitList = s.waitList := by rw [hoffered.alike]; rfl
    have hrecord : t.record r = u.openedRecord k r := by
      rw [hsheds.record (by rw [hwait]; exact hpool.queued_not_waiting (k := k) (by rw [hq]; exact List.mem_cons_self)),
        hoffered.record, State.record_opened]
    have hmark : u.strayMarked k r = { strayed with timing := none } := State.strayMarked_headConsumed
    rw [hrecord]
    unfold State.openedRecord
    rw [hmark]
    exact ⟨fun h => by rw [if_pos (hdiverts.mpr h)]; rfl, fun h => if_neg (mt hdiverts.mp h)⟩
  · obtain ⟨-, hsent, -⟩ := hroom (Nat.le_trans (Nat.add_le_add_left (Nat.succ_le_succ (u.length_openedFrames k r)) _) hr)
    have hmem := State.mem_openedFrames_of_stray (s := u) (k := k) (r := r)
    rw [State.record_headConsumed] at hmem
    exact hsent _ (hmem hstray hflag)
  · obtain ⟨-, hsent, -⟩ := hroom (Nat.le_trans (Nat.add_le_add_left (Nat.succ_le_succ (u.length_openedFrames k r)) _) hr)
    have hmem := State.mem_openedFrames_of_divert (s := u) (k := k) (r := r) (leg := leg) (by rw [hthrown]; exact hleg)
      (by rw [hwanted]; exact hne)
    rw [State.record_headConsumed, State.youngestTag_headConsumed, hthrown] at hmem
    have hkept := x.afterLateThrow_eq (s.slotCfg k) wanted s.time
    refine hsent _ (hmem ((Slot.leaderInTheWay_iff _).mpr ⟨huse, ?_⟩))
    show y.zone ≠ [] ∨ y.foulingOccupied = true
    rw [show y = _ from hkept]
    exact hlead

end Sys2Proof.Machine
end

section
/-! SUPPORT. A forward commit axle that begins a passage of no announced record (R24, R25, R62, R65). -/

namespace Sys2Proof.Machine

/-! ### A frozen capture (R154) -/

theorem State.record_captureAlarm (s : State) (inc : Incident) (i : RecIx) :
    (s.captureAlarm inc).record i = s.record i := by
  unfold State.captureAlarm
  split <;> rfl

theorem State.capture_raise_of_some {s : State} {x : Captured} (h : s.capture = some x) (inc : Incident) :
    (s.raise inc).capture = some x := by
  obtain ⟨-, -, hcapture, -⟩ := (Sheds.refl s).raise inc
  exact hcapture x h

theorem State.capture_raise_alarm_of_none {s : State} (h : s.capture = none) {inc : Incident}
    (ha : isAlarm inc.kind = true) : (s.raise inc).capture = some ⟨inc, s.time⟩ := by
  obtain ⟨-, -, hcapture, -⟩ := (Sheds.refl (s.captureAlarm inc)).offerReport (.incident inc (s.capture == none))
  unfold State.raise
  rw [if_pos ha]
  exact hcapture _ (State.capture_captureAlarm_of_none h inc)

theorem State.capture_openPassage_of_some {s : State} {x : Captured} (h : s.capture = some x) (k : SlotIx) (r : RecIx)
    (consumed : Option Seq) : (s.openPassage k r consumed).capture = some x := by
  have hthrow : (s.lateThrow k r).capture = some x := by
    rw [State.lateThrow_eq]
    exact h
  have hstray {u : State} (hu : u.capture = some x) : (u.decideStray k r).capture = some x := by
    unfold State.decideStray
    split
    · exact hu
    · split
      · exact hu
      · exact State.capture_raise_of_some (s := u.addFlags r { stray := true }) hu _
  have hdivert {u : State} (hu : u.capture = some x) (intended : Option Leg) :
      (u.decideDivert k intended r).capture = some x := by
    unfold State.decideDivert
    split
    · exact hu
    · split
      · exact hu
      · split
        · exact State.capture_raise_of_some (s := u.addFlags r { diverted := true }) hu _
        · exact hu
  rw [State.openPassage_eq]
  exact hdivert (hstray hthrow) _

/-! ### What the slot consumes (R24, R25) -/

/-- R25: what an anonymous passage adds to the recent list. -/
def Slot.recentAfter (x : Slot) : List RecentEntry :=
  match x.expected with
  | some e => pushRecent ⟨e, .anonymous, 0⟩ x.recent
  | none => x.recent

/-- R24: the slot once one sequence has gone by. -/
def Slot.letBy (x : Slot) : Slot :=
  { x with expected := x.expected.map (fun e => e + 1), queue := x.queue, recent := x.recentAfter }

theorem Slot.letBy_of_none {x : Slot} (h : x.expected = none) : x.letBy = x := by
  obtain ⟨⟩ := x
  cases h
  rfl

theorem Slot.letBy_of_some {x : Slot} {e : Seq} (h : x.expected = some e) : x.letBy = x.consume e .anonymous 0 := by
  obtain ⟨⟩ := x
  cases h
  rfl

/-- R24, R25: the UNANNOUNCED_CUT of an anonymous passage. -/
def State.unannouncedAt (s : State) (k : SlotIx) : Incident :=
  ⟨.unannouncedCut, some k, 0, s.headTag k, .unannounced (s.slot k).expected⟩

/-- R24: the state once a blank record is allocated and a sequence let by. -/
def State.blankConsumed (s : State) (k : SlotIx) (free : List RecIx) : State :=
  { s with free := free }.setSlot k (s.slot k).letBy

theorem unannouncedIncident_eq (s : State) (k : SlotIx) :
    unannouncedIncident s k (s.slot k).expected = s.unannouncedAt k := rfl

theorem State.consume_of_anonymous {s : State} {k : SlotIx} {r : RecIx} {free : List RecIx} (hf : s.free = r :: free)
    (h : ∀ e, (s.slot k).expected = some e → ∀ i ∈ (s.slot k).queue.head?, distance e (s.queuedSeq i) ≠ 0) :
    s.consume k = some ⟨(s.blankConsumed k free).raise (s.unannouncedAt k), r, (s.slot k).expected⟩ := by
  have hallocate : s.allocate = some (r, { s with free := free }) := State.allocate_eq_some_iff.mpr ⟨free, hf, rfl⟩
  rw [← unannouncedIncident_eq]
  unfold State.consume
  cases he : (s.slot k).expected with
  | none =>
    unfold State.consumeUnsynced State.blankConsumed
    rw [hallocate, Slot.letBy_of_none he, show State.setSlot { s with free := free } k (s.slot k) = { s with free := free } from
      State.setSlot_self { s with free := free } k]
  | some e =>
    have hanonymous : s.consumeAnonymous k e
        = some ⟨(s.blankConsumed k free).raise (unannouncedIncident s k (some e)), r, some e⟩ := by
      unfold State.consumeAnonymous State.blankConsumed
      rw [hallocate, Slot.letBy_of_some he]
    dsimp only
    split
    · exact hanonymous
    · rename_i i rest hq
      exact (if_neg (h e he i (by rw [hq]; rfl))).trans hanonymous

/-! ### The blank record -/

theorem State.strays_blank (s : State) (k : SlotIx) : s.strays k Record.blank = false := rfl

section
variable {s : State} {k : SlotIx} {r : RecIx} (hr : s.record r = Record.blank)
include hr

theorem State.strayMarked_of_blank : s.strayMarked k r = Record.blank := by
  unfold State.strayMarked
  rw [hr, State.strays_blank, if_neg Bool.false_ne_true]

theorem State.openedFrames_length_of_blank : (s.openedFrames k r).length ≤ 1 := by
  have hstray : (s.lateThrow k r).strayFrames k r = [] := by
    have hrecord : (s.lateThrow k r).record r = Record.blank := by
      rw [State.lateThrow_eq]
      exact hr
    unfold State.strayFrames
    rw [hrecord, State.strays_blank, if_neg (by simp)]
  have hdivert (u : State) (intended : Option Leg) : (u.divertFrames k intended r).length ≤ 1 := by
    unfold State.divertFrames
    split
    · simp
    · split <;> simp
  unfold State.openedFrames
  rw [hstray, List.append_nil]
  exact hdivert _ _

theorem State.openedRecord_of_blank : s.openedRecord k r =
    if s.diverts k (s.thrownFor k r).intendedLeg r = true then Record.blank.flagged { diverted := true }
    else Record.blank := by
  unfold State.openedRecord
  rw [State.strayMarked_of_blank hr]

end

/-- Settles O10: a blank record is allocated, UNANNOUNCED_CUT is raised, and the passage begins with the decisions of
`State.opened`. -/
theorem commitAxleBeginsAnAnonymousPassage : Obligations.CommitAxleBeginsAnAnonymousPassage := by
  unfold Obligations.CommitAxleBeginsAnAnonymousPassage
  intro s k r free hs hbegins hf hblank hne x wanted y inc
  have hserving := State.serving_of_slotServing hs
  let a := s.blankConsumed k free
  let u := a.captureAlarm inc
  have halarm : Offered s (a.raise inc) u [s.reportOf inc] :=
    (Offered.of_queue (s := s) (v := a) rfl).raise_alarm (by simp) hserving inc rfl
  have hkreport : ∀ g ∈ [s.reportOf inc], g.kind ≠ .holdState := s.kind_reportOf_ne_holdState inc
  have hoffered := halarm.openPassage hkreport (halarm.serving.trans ((State.captureAlarm_serving a inc).trans hserving))
    k r x.expected
  have hexec : exec (.commitAxleForward k) s = finish s ((a.raise inc).openPassage k r x.expected) := by
    refine (if_pos hs).trans (congrArg (finish s) ((State.commitForward_of_begins hbegins).trans ?_))
    unfold State.beginPassage
    rw [State.consume_of_anonymous hf hne]
    rfl
  obtain ⟨t, hnext, hreports, hroom⟩ := Leaves.of_reported hexec hoffered.reported
    (List.forall_mem_append.mpr ⟨u.kind_openedFrames k r, hkreport⟩)
  have hsheds : Sheds ((a.raise inc).openPassage k r x.expected) t :=
    Host.Outcome.next.inj (hexec.symm.trans hnext) ▸ (Sheds.refl _).settle s
  have hrecord : u.record r = Record.blank := (State.record_captureAlarm a inc r).trans hblank
  have hslot : u.slot k = x.letBy := (State.slot_captureAlarm a inc k).trans (State.slot_setSlot _ k _)
  have hcfg : u.slotCfg k = s.slotCfg k := State.slotCfg_captureAlarm a inc k
  have htime : u.time = s.time := (State.time_of_reports (State.apartFromReports_captureAlarm a inc) :)
  have hwanted : u.wantedBy k r = wanted := by
    unfold State.wantedBy
    rw [hrecord, hcfg]
    rfl
  have hthrown : u.thrownFor k r
      = { y with expected := x.expected.map (fun e => e + 1), queue := x.queue, recent := x.recentAfter } := by
    unfold State.thrownFor
    rw [hwanted, hcfg, htime, hslot]
    exact Slot.afterLateThrow_consumed x _ _ _ _ _ _
  have hdiverts : u.diverts k (u.thrownFor k r).intendedLeg r = true ↔ ∃ leg, y.intendedLeg = some leg ∧ leg ≠ wanted := by
    rw [State.diverts_iff, hthrown, hwanted]
    exact Iff.rfl
  have hkept : { y with expected := x.expected.map (fun e => e + 1), queue := x.queue, recent := x.recentAfter }
      = { y with expected := x.expected.map (fun e => e + 1), recent := x.recentAfter } := by
    rw [show y = _ from x.afterLateThrow_eq (s.slotCfg k) wanted s.time]
  refine ⟨t, hnext, ?_, fun hpool => ?_, fun hc => ?_, fun hr => ?_⟩
  · have hset (z : Slot) : (u.setSlot k z).apartFromReports = (s.setSlot k z).apartFromReports := by
      rw [State.apartFromReports_setSlot, State.apartFromReports_setSlot,
        show u.apartFromReports = a.apartFromReports from State.apartFromReports_captureAlarm a inc,
        show a.apartFromReports = _ from State.apartFromReports_setSlot _ _ _, State.setSlot_setSlot]
      rfl
    refine (hreports.trans (u.reports_opened k r x.expected)).trans ?_
    unfold State.openedSlot
    rw [hthrown, hkept, hslot, hrecord, hcfg, htime]
    exact hset _
  · have hwait : ((a.raise inc).openPassage k r x.expected).waitList = s.waitList := by
      rw [hoffered.alike]
      exact State.waitList_captureAlarm a inc
    have hafter : t.record r = u.openedRecord k r := by
      rw [hsheds.record (by rw [hwait]; exact hpool.free_not_waiting (by rw [hf]; exact List.mem_cons_self)),
        hoffered.record, State.record_opened]
    rw [hafter, State.openedRecord_of_blank hrecord]
    by_cases hd : u.diverts k (u.thrownFor k r).intendedLeg r = true
    · rw [if_pos hd]
      exact ⟨rfl, rfl, rfl, fun _ => hdiverts.mp hd, fun _ => rfl⟩
    · rw [if_neg hd]
      exact ⟨rfl, rfl, rfl, fun h => Bool.noConfusion h, fun h => absurd (hdiverts.mpr h) hd⟩
  · obtain ⟨-, -, hcapture, -⟩ := hsheds
    refine hcapture _ (State.capture_openPassage_of_some ?_ k r x.expected)
    exact State.capture_raise_alarm_of_none (s := a) hc rfl
  · have hlength := u.openedFrames_length_of_blank (k := k) hrecord
    obtain ⟨-, hsent, -⟩ := hroom (by
      unfold State.hasRoom at hr ⊢
      rw [List.length_append, List.length_singleton]
      omega)
    exact hsent _ (List.mem_append_right _ List.mem_cons_self)

end Sys2Proof.Machine
end

section
/-! SUPPORT. The receiver's rules (R98 to R104): `State.Decides` says what a slot does with a handoff offered to it, and
there is one lemma for each of the rules' outcomes. HANDOFF frames, local handoffs and crest releases share them. -/

namespace Sys2Proof.Machine

/-! ### The rules in their order -/

/-- R98, R99: the slot listens to the source of the handoff. -/
def State.admits (s : State) (k : SlotIx) (source : FeedSource) : Prop :=
  (s.slotCfg k).fedBy source = true ∧ (s.slot k).service ≠ .off ∧ (s.slot k).service ≠ .settling

section
variable {s : State} {k : SlotIx} {a : Announcement}

theorem State.receive_of_unfed (h : (s.slot k).service = .off ∨ (s.slotCfg k).fedBy a.source = false) :
    s.receive k a = (s, .refusedUnknownFeed) := if_pos h

theorem State.receive_of_settling (hf : (s.slotCfg k).fedBy a.source = true) (h : (s.slot k).service = .settling) :
    s.receive k a = (s, .refusedNotReady) :=
  (if_neg (by simp [hf, h])).trans (if_pos h)

theorem State.receive_of_unsynced (h : s.admits k a.source) (he : (s.slot k).expected = none) :
    s.receive k a = s.takeAnnounced k a := by
  obtain ⟨hf, hoff, hsettling⟩ := h
  refine (if_neg (by simp [hf, hoff])).trans ((if_neg hsettling).trans ?_)
  rw [he]

theorem State.receive_of_ahead (h : s.admits k a.source) {e : Seq} (he : (s.slot k).expected = some e)
    (hd : distance e a.seq < 128) : s.receive k a = s.receiveAhead k a := by
  obtain ⟨hf, hoff, hsettling⟩ := h
  refine (if_neg (by simp [hf, hoff])).trans ((if_neg hsettling).trans ?_)
  rw [he]
  exact if_pos hd

theorem State.receive_of_behind (h : s.admits k a.source) {e : Seq} (he : (s.slot k).expected = some e)
    (hd : 128 ≤ distance e a.seq) : s.receive k a = s.receiveBehind k a := by
  obtain ⟨hf, hoff, hsettling⟩ := h
  refine (if_neg (by simp [hf, hoff])).trans ((if_neg hsettling).trans ?_)
  rw [he]
  exact if_neg (Nat.not_lt.mpr hd)

theorem State.receiveAhead_of_queued (h : ∃ i ∈ (s.slot k).queue, s.queuedSeq i = a.seq) :
    s.receiveAhead k a = (s, .duplicate) :=
  if_pos (List.any_eq_true.mpr (by simpa using h))

theorem State.receiveAhead_of_new (h : ∀ i ∈ (s.slot k).queue, s.queuedSeq i ≠ a.seq) :
    s.receiveAhead k a = if 6 ≤ (s.slot k).queue.length then (s, .refusedFull) else s.takeAnnounced k a :=
  if_neg (by simpa using h)

/-! ### Joining the queue (R21, R100) -/

/-- R21: the place a distance has in a queue. -/
theorem insertByDistance_split {dist : RecIx → Nat} {r : RecIx} {before after : List RecIx}
    (hb : ∀ i ∈ before, dist i < dist r) (ha : ∀ i ∈ after.head?, dist r < dist i) :
    insertByDistance dist r (before ++ after) = before ++ r :: after := by
  induction before with
  | nil =>
    cases after with
    | nil => rfl
    | cons i after => exact if_pos (ha i rfl)
  | cons i before ih =>
    obtain ⟨hi, hb⟩ := List.forall_mem_cons.mp hb
    exact (if_neg (Nat.lt_asymm hi)).trans (congrArg (i :: ·) (ih hb))

/-- R21, R22: a record with these contents stands in the queue behind `before` and ahead of `after`; at the front it is
the new head. -/
def State.takenInto (s : State) (k : SlotIx) (r : RecIx) (record : Record) (e : Seq) (before after : List RecIx) : State :=
  let x := (s.setRecord r record).setSlot k { s.slot k with expected := some e, queue := before ++ r :: after }
  if before = [] then x.evaluateThrow k else x

/-- R21: the record as it stands in the queue. -/
def State.queuedRecord (s : State) (k : SlotIx) (seq : Seq) (r : Record) : Record :=
  { r with feedSeq := some seq, timing := some (queueTiming s.time (s.slotCfg k).overdueTime) }

/-- R21: where the handoff finds its place. -/
structure State.placed (s : State) (k : SlotIx) (seq e : Seq) (r : RecIx) (before after : List RecIx) : Prop where
  queue : (s.slot k).queue = before ++ after
  apart : r ∉ (s.slot k).queue
  ahead : ∀ i ∈ before, distance e (s.queuedSeq i) < distance e seq
  behind : ∀ i ∈ after.head?, distance e seq < distance e (s.queuedSeq i)

theorem State.insertRecord_of_placed {seq e : Seq} {r : RecIx} {before after : List RecIx}
    (he : (s.slot k).expected.getD seq = e) (h : s.placed k seq e r before after) :
    s.insertRecord k seq r = s.takenInto k r (s.queuedRecord k seq (s.record r)) e before after := by
  obtain ⟨hq, hr, hb, ha⟩ := h
  have hapart : r ∉ before ++ after := hq ▸ hr
  let u := s.setRecord r (s.queuedRecord k seq (s.record r))
  have hown : u.queuedSeq r = seq := by
    unfold State.queuedSeq
    rw [State.record_setRecord]
    rfl
  have hother {i : RecIx} (hi : i ∈ before ++ after) : u.queuedSeq i = s.queuedSeq i := by
    unfold State.queuedSeq
    rw [State.record_setRecord_eq_ite, if_neg (by rintro rfl; exact hapart hi)]
  have hplace : insertByDistance (fun i => distance e (u.queuedSeq i)) r (s.slot k).queue = before ++ r :: after := by
    rw [hq]
    refine insertByDistance_split (fun i hi => ?_) (fun i hi => ?_)
    · rw [hown, hother (List.mem_append_left _ hi)]
      exact hb i hi
    · rw [hown, hother (List.mem_append_right _ (List.mem_of_mem_head? hi))]
      exact ha i hi
  have hhead : (before ++ r :: after).head? = some r ↔ before = [] := by
    cases before with
    | nil => simp
    | cons i before =>
      refine iff_of_false (fun hi => hapart ?_) (List.cons_ne_nil i before)
      exact Option.some.inj hi ▸ List.mem_cons_self
  let q := insertByDistance (fun i => distance e (u.queuedSeq i)) r (s.slot k).queue
  let x := u.setSlot k { s.slot k with expected := some e, queue := q }
  have hinsert : s.insertRecord k seq r = if q.head? = some r then x.evaluateThrow k else x := by
    subst he
    rfl
  have hjoins : x = u.setSlot k { s.slot k with expected := some e, queue := before ++ r :: after } := by
    rw [← hplace]
  rw [hinsert, hjoins]
  exact if_congr (by rw [show q = _ from hplace]; exact hhead) rfl rfl

theorem State.takeAnnounced_of_offered {e : Seq} {r : RecIx} {before after : List RecIx} (ho : a.offered = some r)
    (he : (s.slot k).expected.getD a.seq = e) (h : s.placed k a.seq e r before after) :
    s.takeAnnounced k a = (s.takenInto k r (s.queuedRecord k a.seq (s.record r)) e before after, .queued) := by
  unfold State.takeAnnounced
  rw [ho, ← State.insertRecord_of_placed he h]

theorem State.takeAnnounced_of_free {e : Seq} {new : RecIx} {free before after : List RecIx} (ho : a.offered = none)
    (hf : s.free = new :: free) (he : (s.slot k).expected.getD a.seq = e)
    (h : s.placed k a.seq e new before after) :
    s.takeAnnounced k a = ({ s with free := free }.takenInto k new
      (a.contents.announced a.seq s.time (s.slotCfg k).overdueTime) e before after, .queued) := by
  let u := ({ s with free := free } : State).setRecord new a.contents.newRecord
  have hother {i : RecIx} (hi : i ∈ (s.slot k).queue) : u.queuedSeq i = s.queuedSeq i := by
    unfold State.queuedSeq
    rw [State.record_setRecord_eq_ite, if_neg (by rintro rfl; exact h.apart hi)]
    rfl
  have hplaced : u.placed k a.seq e new before after := by
    refine ⟨h.queue, h.apart, fun i hi => ?_, fun i hi => ?_⟩
    · rw [hother (by rw [h.queue]; exact List.mem_append_left _ hi)]
      exact h.ahead i hi
    · rw [hother (by rw [h.queue]; exact List.mem_append_right _ (List.mem_of_mem_head? hi))]
      exact h.behind i hi
  unfold State.takeAnnounced State.allocate
  rw [ho, hf]
  refine congrArg (·, Receipt.queued) ((State.insertRecord_of_placed (s := u) he hplaced).trans ?_)
  unfold State.takenInto
  rw [State.setRecord_setRecord, State.record_setRecord]
  rfl

/-! ### Behind (R102 to R104) -/

theorem State.adopter_eq (s : State) (zone : List Passage) (seq : Seq) :
    zone.findIdx? (fun p => p.consumed == some seq && s.isAnonymous p) = s.adopter zone seq := by
  refine congrArg (fun f => zone.findIdx? f) (funext fun p => ?_)
  rw [Bool.eq_iff_iff]
  simp [State.isAnonymous]

/-- R102, R104: the recent list or the zone list says that nothing takes the handoff. -/
def State.nothingTakes (s : State) (k : SlotIx) (seq : Seq) (tag : Tag) : Prop :=
  let entry := (s.slot k).recent.find? (fun y => y.seq == seq)
  let passage := s.adopter (s.slot k).zone seq
  entry = none ∨ (∃ other, other ≠ tag ∧ entry = some ⟨seq, .announced, other⟩)
    ∨ (∃ other, entry = some ⟨seq, .anonymous, other⟩
      ∧ (passage = none ∨ ∃ n q, passage = some n ∧ (s.slot k).zone[n]? = some q ∧ q.taken ≠ none))

theorem State.receiveBehind_of_resend
    (h : (s.slot k).recent.find? (fun y => y.seq == a.seq) = some ⟨a.seq, .announced, a.contents.tag⟩) :
    s.receiveBehind k a = (s, .duplicate) := by
  unfold State.receiveBehind
  rw [h]
  exact if_pos rfl

theorem State.receiveBehind_of_late (h : s.nothingTakes k a.seq a.contents.tag) :
    s.receiveBehind k a = s.refuseLate k a := by
  unfold State.receiveBehind
  rcases h with h | ⟨tag, hne, h⟩ | ⟨tag, h, hzone⟩
  · rw [h]
  · rw [h]
    exact if_neg hne
  · rw [h]
    dsimp only
    unfold State.receiveAnonymous State.passage
    rw [State.adopter_eq]
    rcases hzone with hzone | ⟨n, q, hzone, hq, htaken⟩
    · rw [hzone]
    · obtain ⟨leg, htaken⟩ := Option.ne_none_iff_exists'.mp htaken
      rw [hzone]
      dsimp only
      rw [hq]
      dsimp only
      rw [htaken]

theorem State.receiveBehind_of_adopter {tag : Tag} {n : Nat} {q : Passage}
    (h : (s.slot k).recent.find? (fun y => y.seq == a.seq) = some ⟨a.seq, .anonymous, tag⟩)
    (hn : s.adopter (s.slot k).zone a.seq = some n) (hq : (s.slot k).zone[n]? = some q) (ht : q.taken = none) :
    s.receiveBehind k a = (s.adopt k n q a, .adopted) := by
  unfold State.receiveBehind
  rw [h]
  dsimp only
  unfold State.receiveAnonymous State.passage
  rw [State.adopter_eq, hn]
  dsimp only
  rw [hq]
  dsimp only
  rw [ht]

end

/-! ### Adoption (R43, R85, R103) -/

theorem State.strayFrames_writeAdoption (s : State) (k : SlotIx) (n : Nat) (q : Passage) (a : Announcement) :
    (s.writeAdoption k n q a).strayFrames k q.record = s.adoptionNotices k q a.seq a.contents := by
  have hrecord : (s.writeAdoption k n q a).record q.record = (s.record q.record).identified a.seq a.contents :=
    State.record_setRecord s _ _
  unfold State.strayFrames State.adoptionNotices
  rw [hrecord]
  rfl

theorem State.afterAdoption_eq (s : State) (k : SlotIx) (n : Nat) (q : Passage) (a : Announcement) :
    ((s.writeAdoption k n q a).setRecord q.record ((s.writeAdoption k n q a).strayMarked k q.record)).divertAdopted k q
      = s.afterAdoption k n q a.seq a.contents := by
  let r := (s.record q.record).identified a.seq a.contents
  let strayed := if s.strays k r = true then r.flagged { stray := true } else r
  let w := s.writeAdoption k n q a
  have hrecord : w.record q.record = r := State.record_setRecord s _ _
  have hmarked : w.strayMarked k q.record = strayed := by
    unfold State.strayMarked
    rw [hrecord]
    rfl
  have hdest : strayed.destination = r.destination := by
    unfold strayed
    split <;> rfl
  have hdiverts : (w.setRecord q.record strayed).diverts k q.intended q.record = true
      ↔ ∃ leg, q.intended = some leg ∧ leg ≠ (s.slotCfg k).wantedLeg r.destination := by
    rw [State.diverts_iff, ← hdest]
    unfold State.wantedBy
    rw [State.record_setRecord]
    rfl
  have hidentified : s.identifiedAt k q a.seq a.contents
      = if (w.setRecord q.record strayed).diverts k q.intended q.record = true then strayed.flagged { diverted := true }
        else strayed := by
    unfold State.identifiedAt
    cases hi : q.intended with
    | none => exact (if_neg (by simp [State.diverts])).symm
    | some leg =>
      have hleg : (w.setRecord q.record strayed).diverts k (some leg) q.record = true
          ↔ leg ≠ (s.slotCfg k).wantedLeg r.destination := by simpa [hi] using hdiverts
      exact (ite_not (leg = (s.slotCfg k).wantedLeg r.destination) _ _).symm.trans (if_congr hleg.symm rfl rfl)
  let y := { s.slot k with
    zone := (s.slot k).zone.set n (q.identified a.contents.expectedAxles)
    recent := (s.slot k).recent.map (fun x : RecentEntry =>
      if x.seq = a.seq then ⟨a.seq, .announced, a.contents.tag⟩ else x) }
  have hwrites (r' : Record) : w.setRecord q.record r' = (s.setRecord q.record r').setSlot k y :=
    State.setRecord_setRecord (s.setSlot k y) q.record r r'
  rw [show (s.writeAdoption k n q a).strayMarked k q.record = strayed from hmarked]
  unfold State.divertAdopted State.afterAdoption
  rw [hidentified, ← hwrites]
  split
  · unfold State.addFlags
    rw [State.record_setRecord]
    exact State.setRecord_setRecord w _ _ _
  · rfl

/-- R103: what an adoption does. -/
theorem Offered.adopt {s v u : State} {sends : List OutFrame} (h : Offered s v u sends)
    (hk : ∀ g ∈ sends, g.kind ≠ .holdState) (hv : v.serving = true) (k : SlotIx) (n : Nat) (q : Passage)
    (a : Announcement) :
    Offered s (v.adopt k n q a) ((u.afterAdoption k n q a.seq a.contents).captureAlarm (lateIncident k a true))
      ((u.afterAdoption k n q a.seq a.contents).reportOf (lateIncident k a true)
        :: (u.adoptionNotices k q a.seq a.contents ++ sends)) := by
  have hwritten := h.map (fun x => x.writeAdoption k n q a) fun _ _ _ _ => rfl
  have hstray := hwritten.decideStray hk hv k q.record
  have hdivert := hstray.map (fun x => x.divertAdopted k q) fun x c n l => by
    have hsame : (x.withOffers c n l).diverts k q.intended q.record = x.diverts k q.intended q.record := rfl
    unfold State.divertAdopted
    rw [hsame]
    split <;> rfl
  rw [State.strayFrames_writeAdoption, State.afterAdoption_eq] at hdivert
  have hkstray := (List.forall_mem_append (p := fun g : OutFrame => g.kind ≠ .holdState)).mpr
    ⟨(u.writeAdoption k n q a).kind_strayFrames k q.record, hk⟩
  rw [State.strayFrames_writeAdoption] at hkstray
  exact hdivert.raise_alarm hkstray (hdivert.serving.trans (h.serving.symm.trans hv)) (lateIncident k a true) rfl

/-! ### What the slot decides -/

/-- The slot's decision on a handoff in a state is the receipt `x`; it leaves `w` and offers `sends`, also where reports
have gone ahead of it. -/
structure State.Decides (u : State) (k : SlotIx) (a : Announcement) (x : Receipt) (w : State)
    (sends : List OutFrame) : Prop where
  serving : w.serving = u.serving
  kind : ∀ g ∈ sends, g.kind ≠ .holdState
  receives : ∀ (s v : State) (earlier : List OutFrame), Offered s v u earlier → (∀ g ∈ earlier, g.kind ≠ .holdState) →
    v.serving = true → ∃ t, v.receive k a = (t, x) ∧ Offered s t w (sends ++ earlier)

section
variable {u : State} {k : SlotIx} {a : Announcement}

/-- A decision that offers nothing. -/
theorem State.Decides.of_map {x : Receipt} (f : State → State)
    (hf : ∀ y c n q, f (y.withOffers c n q) = (f y).withOffers c n q) (hs : (f u).serving = u.serving)
    (h : ∀ c n q, (u.withOffers c n q).receive k a = (f (u.withOffers c n q), x)) : u.Decides k a x (f u) [] := by
  refine ⟨hs, List.forall_mem_nil _, fun s v earlier hv _ _ => ⟨f v, ?_, hv.map f hf⟩⟩
  rw [hv.alike]
  exact h _ _ _

theorem State.decides_unfed (h : (u.slot k).service = .off ∨ (u.slotCfg k).fedBy a.source = false) :
    u.Decides k a .refusedUnknownFeed u [] :=
  .of_map id (fun _ _ _ _ => rfl) rfl fun c n q => State.receive_of_unfed (s := u.withOffers c n q) h

theorem State.decides_settling (hf : (u.slotCfg k).fedBy a.source = true) (h : (u.slot k).service = .settling) :
    u.Decides k a .refusedNotReady u [] :=
  .of_map id (fun _ _ _ _ => rfl) rfl fun c n q => State.receive_of_settling (s := u.withOffers c n q) hf h

theorem State.takenInto_withOffers (k : SlotIx) (r : RecIx) (record : Record) (e : Seq) (before after : List RecIx)
    (y : State) (c : Option Captured) (n : Nat) (q : List TxEntry) :
    (y.withOffers c n q).takenInto k r record e before after
      = (y.takenInto k r record e before after).withOffers c n q := by
  unfold State.takenInto
  split
  · exact State.evaluateThrow_withOffers k ((y.setRecord r record).setSlot k _) c n q
  · rfl

theorem State.serving_takenInto (y : State) (k : SlotIx) (r : RecIx) (record : Record) (e : Seq)
    (before after : List RecIx) : (y.takenInto k r record e before after).serving = y.serving := by
  unfold State.takenInto
  split
  · exact congrArg (· == NodeState.inService) (State.nodeState_evaluateThrow _ k)
  · rfl

/-- R98, R101: the slot has room for a handoff under a new sequence; `e` is the sequence it then expects. -/
def State.accepts (s : State) (k : SlotIx) (seq e : Seq) : Prop :=
  (s.slot k).expected = none ∧ e = seq
  ∨ (s.slot k).expected = some e ∧ distance e seq < 128 ∧ (s.slot k).queue.length < 6
    ∧ ∀ i ∈ (s.slot k).queue, s.queuedSeq i ≠ seq

theorem State.accepts.expected {s : State} {seq e : Seq} (h : s.accepts k seq e) :
    (s.slot k).expected.getD seq = e := by
  rcases h with ⟨he, hseq⟩ | ⟨he, -⟩
  · rw [he]
    exact hseq.symm
  · rw [he]
    rfl

section
variable (h : u.admits k a.source)
include h

theorem State.receive_of_accepts {e : Seq} (he : u.accepts k a.seq e) : u.receive k a = u.takeAnnounced k a := by
  rcases he with ⟨he, -⟩ | ⟨he, hd, hl, hn⟩
  · exact State.receive_of_unsynced h he
  · exact (State.receive_of_ahead h he hd).trans ((State.receiveAhead_of_new hn).trans (if_neg (Nat.not_le.mpr hl)))

/-- R100: a record of the pool takes the handoff. -/
theorem State.decides_taken {e : Seq} {new : RecIx} {free before after : List RecIx} (ho : a.offered = none)
    (he : u.accepts k a.seq e) (hf : u.free = new :: free) (hp : u.placed k a.seq e new before after) :
    u.Decides k a .queued ({ u with free := free }.takenInto k new
      (a.contents.announced a.seq u.time (u.slotCfg k).overdueTime) e before after) [] := by
  refine .of_map (fun x => { x with free := free }.takenInto k new
    (a.contents.announced a.seq u.time (u.slotCfg k).overdueTime) e before after)
    (fun y c n q => State.takenInto_withOffers k new _ e before after { y with free := free } c n q)
    (State.serving_takenInto _ k new _ e before after) fun c n q => ?_
  have hplaced : (u.withOffers c n q).placed k a.seq e new before after := ⟨hp.queue, hp.apart, hp.ahead, hp.behind⟩
  exact (State.receive_of_accepts (u := u.withOffers c n q) h he).trans
    (State.takeAnnounced_of_free (s := u.withOffers c n q) ho hf he.expected hplaced)

/-- R101: the crest's record joins the queue. -/
theorem State.decides_joined {e : Seq} {r : RecIx} {before after : List RecIx} (ho : a.offered = some r)
    (he : u.accepts k a.seq e) (hp : u.placed k a.seq e r before after) :
    u.Decides k a .queued (u.takenInto k r (u.queuedRecord k a.seq (u.record r)) e before after) [] := by
  refine .of_map (fun x => x.takenInto k r (u.queuedRecord k a.seq (u.record r)) e before after)
    (State.takenInto_withOffers k r _ e before after) (State.serving_takenInto u k r _ e before after) fun c n q => ?_
  have hplaced : (u.withOffers c n q).placed k a.seq e r before after := ⟨hp.queue, hp.apart, hp.ahead, hp.behind⟩
  exact (State.receive_of_accepts (u := u.withOffers c n q) h he).trans
    (State.takeAnnounced_of_offered (s := u.withOffers c n q) ho he.expected hplaced)

section
variable {e : Seq} (he : (u.slot k).expected = some e)
include he

section
variable (hd : distance e a.seq < 128)
include hd

theorem State.decides_queued (hq : ∃ i ∈ (u.slot k).queue, u.queuedSeq i = a.seq) : u.Decides k a .duplicate u [] :=
  .of_map id (fun _ _ _ _ => rfl) rfl fun c n q => (State.receive_of_ahead (s := u.withOffers c n q) h he hd).trans
    (State.receiveAhead_of_queued (s := u.withOffers c n q) hq)

theorem State.decides_full (hn : ∀ i ∈ (u.slot k).queue, u.queuedSeq i ≠ a.seq) (hl : 6 ≤ (u.slot k).queue.length) :
    u.Decides k a .refusedFull u [] :=
  .of_map id (fun _ _ _ _ => rfl) rfl fun c n q => (State.receive_of_ahead (s := u.withOffers c n q) h he hd).trans
    ((State.receiveAhead_of_new (s := u.withOffers c n q) hn).trans (if_pos hl))

end

section
variable (hd : 128 ≤ distance e a.seq)
include hd

theorem State.decides_resend
    (hr : (u.slot k).recent.find? (fun y => y.seq == a.seq) = some ⟨a.seq, .announced, a.contents.tag⟩) :
    u.Decides k a .duplicate u [] :=
  .of_map id (fun _ _ _ _ => rfl) rfl fun c n q => (State.receive_of_behind (s := u.withOffers c n q) h he hd).trans
    (State.receiveBehind_of_resend (s := u.withOffers c n q) hr)

/-- R104: nothing takes it, and it is LATE. -/
theorem State.decides_late (hn : u.nothingTakes k a.seq a.contents.tag) :
    u.Decides k a .late (u.captureAlarm (lateIncident k a false)) [u.reportOf (lateIncident k a false)] := by
  refine ⟨State.captureAlarm_serving u _, u.kind_reportOf_ne_holdState _, fun s v earlier hv hk hs => ?_⟩
  refine ⟨v.raise (lateIncident k a false), ?_, hv.raise_alarm hk hs _ rfl⟩
  rw [hv.alike]
  let y := u.withOffers v.capture v.furtherAlarms v.port.queue
  exact (State.receive_of_behind (s := y) h he hd).trans (State.receiveBehind_of_late (s := y) hn)

/-- R103: the anonymous passage adopts it. -/
theorem State.decides_adopted {tag : Tag} {n : Nat} {p : Passage}
    (hr : (u.slot k).recent.find? (fun y => y.seq == a.seq) = some ⟨a.seq, .anonymous, tag⟩)
    (hn : u.adopter (u.slot k).zone a.seq = some n) (hp : (u.slot k).zone[n]? = some p) (ht : p.taken = none) :
    u.Decides k a .adopted ((u.afterAdoption k n p a.seq a.contents).captureAlarm (lateIncident k a true))
      (u.adoptionNotices k p a.seq a.contents ++ [u.reportOf (lateIncident k a true)]) := by
  refine ⟨State.captureAlarm_serving _ _, List.forall_mem_append.mpr ⟨?_, u.kind_reportOf_ne_holdState _⟩,
    fun s v earlier hv hk hs => ⟨v.adopt k n p a, ?_, ?_⟩⟩
  · rw [← State.strayFrames_writeAdoption u k n p a]
    exact State.kind_strayFrames _ k p.record
  · rw [hv.alike]
    let y := u.withOffers v.capture v.furtherAlarms v.port.queue
    exact (State.receive_of_behind (s := y) h he hd).trans (State.receiveBehind_of_adopter (s := y) hr hn hp ht)
  · rw [List.append_assoc]
    exact (hv.adopt hk hs k n p a).perm List.perm_middle.symm

end

end

end

end

end Sys2Proof.Machine
end

section
/-! SUPPORT. HANDOFF frames (R98 to R105, R169): what the receiver decides and what it answers. -/

namespace Sys2Proof.Machine

/-- R169: the check of a HANDOFF's fields. -/
theorem payloadAcceptable_iff (p : HandoffPayload) : payloadAcceptable p = true ↔ HandoffInRange p := by
  have hflag (b : Bool) (c : Prop) [Decidable c] : b = decide c ↔ (b = true ↔ c) := by
    rw [Bool.eq_iff_iff, decide_eq_true_iff]
  unfold payloadAcceptable HandoffInRange
  simp only [Bool.and_eq_true, decide_eq_true_eq, beq_iff_eq, and_assoc, hflag]
  exact Iff.rfl

/-- Only which frames are offered counts, and how many. -/
theorem Leaves.perm {c : Instr} {s u : State} {sends sends' : List OutFrame} (h : Leaves c s u sends)
    (hp : sends.Perm sends') : Leaves c s u sends' := by
  obtain ⟨t, hnext, hreports, hroom⟩ := h
  refine ⟨t, hnext, hreports, fun hs => ?_⟩
  obtain ⟨hframes, hsent, hkept, hnew⟩ := hroom (hp.length_eq ▸ hs)
  refine ⟨hframes, fun f hf => hsent f (hp.mem_iff.mpr hf), hkept, fun e he => ?_⟩
  exact (hnew e he).imp_right (Or.imp_left hp.mem_iff.mp)

/-- R135: a frame heard changes nothing but the roster. -/
theorem State.refreshed_eq (s : State) (origin : Station) : ∃ roster, s.refreshed origin = { s with roster := roster } := by
  unfold State.refreshed
  split
  · exact ⟨_, rfl⟩
  · exact ⟨s.roster, rfl⟩

/-- R98: the announcement a HANDOFF frame makes. -/
def frameAnnouncement (origin : Station) (p : HandoffPayload) : Announcement :=
  ⟨.leg origin.toNat p.sourceSlot.toNat p.sourceLeg, p.seq, payloadContents p, none⟩

theorem State.fedBy_iff (s : State) (k : SlotIx) (origin : Station) (p : HandoffPayload) :
    (s.slotCfg k).fedBy (frameAnnouncement origin p).source = true ↔ s.fedBy k origin p := by
  simp [frameAnnouncement, SlotConfig.fedBy, State.fedBy, and_assoc]

theorem State.offered_refreshed {s u : State} {origin : Station} (h : s.hears origin) (hu : s.refreshed origin = u) :
    Offered s u u [] ∧ u.serving = true := by
  obtain ⟨hs, -, -⟩ := h
  subst hu
  exact ⟨Offered.of_queue (port_queue_refreshed s origin), beq_iff_eq.mpr ((State.nodeState_refreshed s origin).trans hs)⟩

section
variable {s u : State} {origin : Station} {p : HandoffPayload} (h : s.hears origin)
  (ht : p.target.toNat = s.cfg.node) (hu : s.refreshed origin = u)
include h ht hu

/-- R105: the frame is answered once, with what the receiver has decided. -/
theorem Leaves.of_receipt {v w : State} {x : Receipt} {sends : List OutFrame}
    (hreceive : u.receiveFrame origin p = (v, x)) (hoffered : Offered s v w sends)
    (hk : ∀ g ∈ sends, g.kind ≠ .holdState) (hv : v.serving = true) :
    Leaves (.handoff origin p) s w
      (sends ++ [.handoffReply origin.toNat p.targetSlot.toNat p.seq p.tag x.result]) := by
  have hbody : s.takeHandoff origin p
      = v.offer (.handoffReply origin.toNat p.targetSlot.toNat p.seq p.tag x.result) none :=
    (State.hearTarget_of_hears h ht _).trans (congrArg (replyTo origin p) (hu ▸ hreceive))
  have hexec : exec (.handoff origin p) s = finish s _ := congrArg (finish s) hbody
  refine (Leaves.of_reported hexec (hoffered.reported.offer hk hv _ none)
    (List.forall_mem_cons.mpr ⟨?_, hk⟩)).perm (List.perm_append_singleton _ _).symm
  exact FrameKind.noConfusion

/-- R98, R169: a frame that no slot of the node can take. -/
theorem Leaves.of_unknownFeed (hreceive : u.receiveFrame origin p = (u, .refusedUnknownFeed)) :
    Leaves (.handoff origin p) s u
      [.handoffReply origin.toNat p.targetSlot.toNat p.seq p.tag .refusedUnknownFeed] := by
  obtain ⟨hquiet, hserving⟩ := State.offered_refreshed h hu
  exact Leaves.of_receipt h ht hu hreceive hquiet (by simp) hserving

section
variable {k : SlotIx} (hk : k.val = p.targetSlot.toNat) (hr : HandoffInRange p)
include hk hr

/-- How a claim is shown of a frame that a slot decides on. -/
theorem Leaves.of_decides {x : Receipt} {w : State} {sends : List OutFrame}
    (hd : u.Decides k (frameAnnouncement origin p) x w sends) :
    Leaves (.handoff origin p) s w
      (sends ++ [.handoffReply origin.toNat p.targetSlot.toNat p.seq p.tag x.result]) := by
  obtain ⟨hquiet, hserving⟩ := State.offered_refreshed h hu
  obtain ⟨t, hreceive, hoffered⟩ := hd.receives s u [] hquiet (by simp) hserving
  rw [List.append_nil] at hoffered
  have hframe : u.receiveFrame origin p = u.receive k (frameAnnouncement origin p) := by
    unfold State.receiveFrame
    rw [slotOfNat_eq_some_iff.mpr hk]
    exact if_pos ((payloadAcceptable_iff p).mpr hr)
  exact Leaves.of_receipt h ht hu (hframe.trans hreceive) hoffered hd.kind
    (hoffered.serving.trans (hd.serving.trans hserving))

end

end

/-- Settles O38: each refusal is one outcome of the receiver's rules, and the slot is as it was. -/
theorem handoffsAreRefused : Obligations.HandoffsAreRefused := by
  unfold Obligations.HandoffsAreRefused
  intro s origin p h ht reply
  obtain ⟨roster, hu⟩ := s.refreshed_eq origin
  rw [hu]
  refine ⟨fun hunknown => ?unknown, fun k hk hr hf => ?_⟩
  case unknown =>
    refine Leaves.of_unknownFeed h ht hu ?_
    let u : State := { s with roster := roster }
    show u.receiveFrame origin p = _
    unfold State.receiveFrame
    cases hslot : slotOfNat p.targetSlot.toNat with
    | none => rfl
    | some k =>
      have hk := slotOfNat_eq_some_iff.mp hslot
      dsimp only
      by_cases hr : HandoffInRange p
      · refine (if_pos ((payloadAcceptable_iff p).mpr hr)).trans (State.receive_of_unfed ?_)
        rcases hunknown with hunknown | hunknown | ⟨j, hj, hunknown⟩
        · exact absurd k.isLt (by omega)
        · exact absurd hr hunknown
        · obtain rfl : j = k := Fin.ext (hj.trans hk.symm)
          exact hunknown.imp_right fun hf => Bool.eq_false_iff.mpr (mt (s.fedBy_iff j origin p).mp hf)
      · exact if_neg (mt (payloadAcceptable_iff p).mp hr)
  have hfed := (s.fedBy_iff k origin p).mpr hf
  refine ⟨fun hsettling => ?_, fun e hoff hsettling he hd hn hl => ?_⟩
  · exact Leaves.of_decides h ht hu hk hr (State.decides_settling (u := { s with roster := roster }) hfed hsettling)
  · exact Leaves.of_decides h ht hu hk hr
      (State.decides_full (u := { s with roster := roster }) ⟨hfed, hoff, hsettling⟩ he hd hn hl)

/-- Settles O39: the outcomes of the receiver's rules that put the cut into the queue, and the duplicate. -/
theorem handoffsAreTakenIntoTheQueue : Obligations.HandoffsAreTakenIntoTheQueue := by
  unfold Obligations.HandoffsAreTakenIntoTheQueue
  intro s origin p k h ht hk hr hf hoff hsettling
  obtain ⟨roster, hu⟩ := s.refreshed_eq origin
  rw [hu]
  intro s0 reply record
  have hadmits : s0.admits k (frameAnnouncement origin p).source := ⟨(s.fedBy_iff k origin p).mpr hf, hoff, hsettling⟩
  refine ⟨fun new free hfree he hq => ?unsynced, ?synced, fun e he hd hq => ?duplicate⟩
  case unsynced =>
    have hplaced : s0.placed k p.seq p.seq new [] [] := ⟨hq, (congrArg (new ∉ ·) hq).mpr (List.not_mem_nil), by simp, by simp⟩
    exact Leaves.of_decides h ht hu hk hr (State.decides_taken hadmits rfl (Or.inl ⟨he, rfl⟩) hfree hplaced)
  case synced =>
    intro e new free before after hfree he hd hq hl hnew hn hb ha taken
    have hdecides := State.decides_taken (u := s0) hadmits rfl (Or.inr ⟨he, hd, hl, hn⟩) hfree ⟨hq, hnew, hb, ha⟩
    have htaken : taken = (State.setRecord { s0 with free := free } new record).setSlot k
        { s.slot k with expected := some e, queue := before ++ new :: after } := by
      rw [← he]
    rw [htaken]
    exact Leaves.of_decides h ht hu hk hr hdecides
  case duplicate => exact Leaves.of_decides h ht hu hk hr (State.decides_queued (u := s0) hadmits he hd hq)

/-- Settles O40: the outcomes of the receiver's rules for a sequence that stands behind. -/
theorem behindHandoffsAreResendsAdoptedOrLate : Obligations.BehindHandoffsAreResendsAdoptedOrLate := by
  unfold Obligations.BehindHandoffsAreResendsAdoptedOrLate
  intro s origin p k e h ht hk hr hf hoff hsettling he hd
  obtain ⟨roster, hu⟩ := s.refreshed_eq origin
  rw [hu]
  intro s0 reply contents entry passage late
  have hadmits : s0.admits k (frameAnnouncement origin p).source := ⟨(s.fedBy_iff k origin p).mpr hf, hoff, hsettling⟩
  refine ⟨fun hresend => ?_, fun hlate => ?_, fun tag i q hentry hpassage hq htaken => ?_⟩
  · exact Leaves.of_decides h ht hu hk hr (State.decides_resend (u := s0) hadmits he hd hresend)
  · exact Leaves.of_decides h ht hu hk hr (State.decides_late (u := s0) hadmits he hd hlate)
  · have hdecides := State.decides_adopted (u := s0) hadmits he hd hentry hpassage hq htaken
    have hleaves := Leaves.of_decides h ht hu hk hr hdecides
    rwa [List.append_assoc] at hleaves

end Sys2Proof.Machine
end

section
/-! SUPPORT. The first forward exit axle of a passage on a leg that feeds a slot (R73, R86 to R89): the check of the
point, the feed counter, and a handoff within the node. -/

namespace Sys2Proof.Machine

/-! ### The axle and the feed counter (R73, R87) -/

/-- R73: the alarm of a first exit axle against the point. -/
def State.legFrames (s : State) (k : SlotIx) (p : Passage) (leg : Leg) : List OutFrame :=
  if (s.slot k).point = provedIn (otherLeg leg) then [s.reportOf (mismatchIncident s k p leg)] else []

/-- R73: the slot has failed if the point stands the other way. -/
def State.legChecked (s : State) (k : SlotIx) (p : Passage) (leg : Leg) : State :=
  if (s.slot k).point = provedIn (otherLeg leg) then
    (s.captureAlarm (mismatchIncident s k p leg)).setSlot k ((s.slot k).takenOut .failed)
  else s

/-- R87: the axle is counted and the feed counter has advanced. -/
def State.feedAdvanced (s : State) (k : SlotIx) (p : Passage) (leg : Leg) (i : Nat) (q : Passage) : State :=
  (s.legChecked k p leg).setSlot k { ((s.legChecked k p leg).slot k).withNextFeed leg with zone := (s.slot k).zone.set i q }

theorem State.captureAlarm_eq_withOffers (s : State) (inc : Incident) :
    ∃ c n, s.captureAlarm inc = s.withOffers c n s.port.queue := by
  unfold State.captureAlarm
  split
  · exact ⟨_, s.furtherAlarms, rfl⟩
  · exact ⟨s.capture, _, rfl⟩

/-- R73: the check of the point changes the slot, and the capture. -/
theorem State.legChecked_eq (s : State) (k : SlotIx) (p : Passage) (leg : Leg) :
    ∃ x c n, s.legChecked k p leg = (s.setSlot k x).withOffers c n s.port.queue
      ∧ x.queue = (s.slot k).queue ∧ x.feedNormal = (s.slot k).feedNormal
      ∧ x.feedReverse = (s.slot k).feedReverse := by
  unfold State.legChecked
  split
  · obtain ⟨c, n, halarm⟩ := s.captureAlarm_eq_withOffers (mismatchIncident s k p leg)
    rw [halarm]
    exact ⟨_, c, n, rfl, rfl, rfl, rfl⟩
  · exact ⟨s.slot k, s.capture, s.furtherAlarms, congrArg (fun u => u.withOffers s.capture s.furtherAlarms s.port.queue)
      (State.setSlot_self s k).symm, rfl, rfl, rfl⟩

/-- R87: the axle is counted and the point checked; the feed counter has not advanced. -/
def State.legCounted (s : State) (k : SlotIx) (p : Passage) (leg : Leg) (i : Nat) (q : Passage) : State :=
  (s.legChecked k p leg).setSlot k { (s.legChecked k p leg).slot k with zone := (s.slot k).zone.set i q }

theorem State.legCounted_kept (s : State) (k : SlotIx) (p : Passage) (leg : Leg) (i : Nat) (q : Passage) :
    ∃ x c n, s.legCounted k p leg i q = (s.setSlot k x).withOffers c n s.port.queue
      ∧ x.zone = (s.slot k).zone.set i q ∧ x.queue = (s.slot k).queue
      ∧ ∀ leg, x.feedCounter leg = (s.slot k).feedCounter leg := by
  obtain ⟨x, c, n, hx, hqueue, hnormal, hreverse⟩ := s.legChecked_eq k p leg
  refine ⟨{ x with zone := (s.slot k).zone.set i q }, c, n, ?_, rfl, hqueue, fun leg => ?_⟩
  · have hslot : (s.legChecked k p leg).slot k = x := by
      rw [hx]
      exact State.slot_setSlot s k x
    unfold State.legCounted
    rw [hslot, hx]
    exact congrArg (fun y => y.withOffers c n s.port.queue) (State.setSlot_setSlot s k x _)
  · cases leg
    · exact hnormal
    · exact hreverse

theorem State.feedAdvanced_eq (s : State) (k : SlotIx) (p : Passage) (leg : Leg) (i : Nat) (q : Passage) :
    (s.legCounted k p leg i q).setSlot k (((s.legCounted k p leg i q).slot k).advanceFeed leg)
      = s.feedAdvanced k p leg i q := by
  unfold State.legCounted State.feedAdvanced
  rw [State.slot_setSlot, State.setSlot_setSlot]
  cases leg <;> rfl

theorem State.kind_legFrames (s : State) (k : SlotIx) (p : Passage) (leg : Leg) :
    ∀ g ∈ s.legFrames k p leg, g.kind ≠ .holdState := by
  unfold State.legFrames
  split
  · exact s.kind_reportOf_ne_holdState _
  · exact List.forall_mem_nil _

/-- R73: what the axle and the check of the point do. -/
theorem Offered.legCounted {s : State} {k : SlotIx} (hs : s.slotServing k = true) (p : Passage) (leg : Leg) (i : Nat)
    (q : Passage) :
    Offered s ((s.setPassage k i q).checkLeg k p leg) (s.legCounted k p leg i q) (s.legFrames k p leg) := by
  unfold State.legCounted State.legChecked State.legFrames
  by_cases h : (s.slot k).point = provedIn (otherLeg leg)
  · rw [if_pos h, if_pos h, State.slot_setSlot, State.setSlot_setSlot, State.setSlot_captureAlarm]
    exact Offered.checkLeg_of_mismatch hs i p q leg h
  · rw [if_neg h, if_neg h, State.checkLeg_of_match i p q leg h]
    exact Offered.of_queue rfl

/-! ### A handoff within the node (R89) -/

section
variable {s : State} {k : SlotIx} {leg : Leg} {i target : Nat} {p q : Passage} (hs : s.slotServing k = true)
  (hi : (s.slot k).zone.findIdx? Passage.isOpen = some i) (hp : (s.slot k).zone[i]? = some p) (ht : p.taken = none)
  (hq : q = { (p.withOut leg (p.outOn leg + 1)).afterAxle s.time (s.slotCfg k).stallTime with taken := some leg })
include hs hi hp ht hq

/-- R86: the axle's effects, as far as the leg's end. -/
theorem execExitAxleForward_of_first : ∃ v, exec (.exitAxleForward k leg) s
      = finish s ((v.beginHandoff k i p leg).checkEnd k)
    ∧ Offered s v (s.legCounted k p leg i q) (s.legFrames k p leg) := by
  have hbody := State.exitForward_of_open leg hi hp
  rw [Passage.countOut_of_first ht, ← hq, State.exitEffects_of_first ht] at hbody
  exact ⟨_, (execExitAxleForward_of_serving hs leg).trans (congrArg (finish s) hbody), Offered.legCounted hs p leg i q⟩

end

/-- R87, R88: what a passage announces to a slot of its node. -/
def State.localAnnouncement (s : State) (k : SlotIx) (p : Passage) (leg : Leg) : Announcement :=
  ⟨.leg s.cfg.node k.val leg, (s.slot k).feedCounter leg, p.handsOn (s.record p.record), none⟩

theorem State.beginHandoff_of_local {v : State} {k : SlotIx} {leg : Leg} {i target : Nat} {p : Passage}
    (h : (v.slotCfg k).legEnd leg = .slot v.cfg.node target) :
    v.beginHandoff k i p leg = (v.setSlot k ((v.slot k).advanceFeed leg)).handOffLocally k i p.record target
      (v.localAnnouncement k p leg) := by
  unfold State.beginHandoff
  rw [h]
  exact if_pos rfl

/-- What is the same in the state that the target slot decides in. -/
theorem State.feedAdvanced_kept (s : State) (k : SlotIx) (p : Passage) (leg : Leg) (i : Nat) (q : Passage) :
    ∃ x c n, s.feedAdvanced k p leg i q = (s.setSlot k x).withOffers c n s.port.queue
      ∧ x.zone = (s.slot k).zone.set i q ∧ x.queue = (s.slot k).queue := by
  obtain ⟨x, c, n, hx, hzone, hqueue, -⟩ := s.legCounted_kept k p leg i q
  refine ⟨x.advanceFeed leg, c, n, ?_, ?_, ?_⟩
  · have hslot : (s.legCounted k p leg i q).slot k = x := by
      rw [hx]
      exact State.slot_setSlot s k x
    rw [← s.feedAdvanced_eq, hslot, hx]
    exact congrArg (fun y => y.withOffers c n s.port.queue) (State.setSlot_setSlot s k x _)
  · cases leg <;> exact hzone
  · cases leg <;> exact hqueue

theorem State.setPassage_captureAlarm (s : State) (inc : Incident) (k : SlotIx) (i : Nat) (q : Passage) :
    (s.captureAlarm inc).setPassage k i q = (s.setPassage k i q).captureAlarm inc := by
  unfold State.setPassage
  rw [State.slot_captureAlarm, State.setSlot_captureAlarm]

theorem State.setHandoff_of_some {s : State} {k : SlotIx} {i : Nat} {q : Passage} (h : (s.slot k).zone[i]? = some q)
    (x : PassageHandoff) : s.setHandoff k i x = s.setPassage k i { q with handoff := x } := by
  unfold State.setHandoff State.passage
  rw [h]

theorem State.localOutcome_of_quiet {s : State} {k : SlotIx} {r : RecIx} {target : Nat} {seq : Seq} {x : HandoffResult}
    (h : x.refuses = false) : s.localOutcome k r target seq x = s := if_neg (by simp [h])

theorem State.localOutcome_of_refusing {s : State} {k : SlotIx} {r : RecIx} {target : Nat} {seq : Seq} {x : HandoffResult}
    (h : x.refuses = true) : s.localOutcome k r target seq x = State.raise { s with faultLatch := true }
      (refusedIncident k (s.record r).tag (s.record r).companionTag x s.cfg.node target seq) := if_pos h

theorem State.serving_feedAdvanced {s : State} {k : SlotIx} (hs : s.slotServing k = true) (p : Passage) (leg : Leg)
    (i : Nat) (q : Passage) : (s.feedAdvanced k p leg i q).serving = true := by
  obtain ⟨x, c, n, hx, -⟩ := s.feedAdvanced_kept k p leg i q
  have hserving := State.serving_of_slotServing hs
  rw [hx]
  exact hserving

theorem LeavesThenEnds.perm {c : Instr} {s u : State} {k : SlotIx} {sends sends' : List OutFrame}
    (h : LeavesThenEnds c s u k sends) (hp : sends.Perm sends') : LeavesThenEnds c s u k sends' :=
  Leaves.perm h (hp.append_right _)

section
variable {s : State} {k : SlotIx} {leg : Leg} {i target : Nat} {p q : Passage} (hs : s.slotServing k = true)
  (hi : (s.slot k).zone.findIdx? Passage.isOpen = some i) (hp : (s.slot k).zone[i]? = some p) (ht : p.taken = none)
  (hq : q = { (p.withOut leg (p.outOn leg + 1)).afterAxle s.time (s.slotCfg k).stallTime with taken := some leg })
  (hleg : (s.slotCfg k).legEnd leg = .slot s.cfg.node target)
include hs hi hp ht hq hleg

/-- R89: the axle's effects, as far as what the target slot decides. -/
theorem execExitAxleForward_of_local : ∃ v, exec (.exitAxleForward k leg) s
      = finish s ((v.handOffLocally k i p.record target (s.localAnnouncement k p leg)).checkEnd k)
    ∧ Offered s v (s.feedAdvanced k p leg i q) (s.legFrames k p leg) := by
  obtain ⟨v, hexec, hcounted⟩ := execExitAxleForward_of_first hs hi hp ht hq
  obtain ⟨x, c, n, hx, -, -, hfeed⟩ := s.legCounted_kept k p leg i q
  have hv : v = (s.setSlot k x).withOffers v.capture v.furtherAlarms v.port.queue := by
    rw [hcounted.alike, hx]
    rfl
  have hslotCfg : v.slotCfg k = s.slotCfg k := by rw [hv]; rfl
  have hnode : v.cfg = s.cfg := by rw [hv]; rfl
  have hann : v.localAnnouncement k p leg = s.localAnnouncement k p leg := by
    have hslot : v.slot k = x := by
      rw [hv]
      exact State.slot_setSlot s k x
    unfold State.localAnnouncement
    rw [hslot, hfeed, hv]
    rfl
  refine ⟨v.setSlot k ((v.slot k).advanceFeed leg), ?_, ?_⟩
  · rw [← hann, ← State.beginHandoff_of_local (by rw [hslotCfg, hnode]; exact hleg)]
    exact hexec
  · rw [← s.feedAdvanced_eq k p leg i q]
    exact hcounted.map (fun y => y.setSlot k ((y.slot k).advanceFeed leg)) fun _ _ _ _ => rfl

/-- R89: how a claim is shown of a handoff that a slot of the node has not refused. -/
theorem LeavesThenEnds.of_local {x : Receipt} {w : State} {sends : List OutFrame}
    (hd : ∀ v, Offered s v (s.feedAdvanced k p leg i q) (s.legFrames k p leg) → v.serving = true →
      ∃ t, v.receiveLocal target (s.localAnnouncement k p leg) = (t, x) ∧ Offered s t w (sends ++ s.legFrames k p leg))
    (hkind : ∀ g ∈ sends, g.kind ≠ .holdState) (hw : w.serving = true) (hz : (w.slot k).zone[i]? = some q)
    (hx : x.result.refuses = false) :
    LeavesThenEnds (.exitAxleForward k leg) s (w.setPassage k i { q with handoff := .local x.result }) k
      (s.legFrames k p leg ++ sends) := by
  obtain ⟨v, hexec, hadvanced⟩ := execExitAxleForward_of_local hs hi hp ht hq hleg
  have hserving := hadvanced.serving.trans (State.serving_feedAdvanced hs p leg i q)
  obtain ⟨t, hreceive, hoffered⟩ := hd v hadvanced hserving
  have hlocally : v.handOffLocally k i p.record target (s.localAnnouncement k p leg)
      = t.setPassage k i { q with handoff := .local x.result } := by
    unfold State.handOffLocally
    rw [hreceive]
    dsimp only
    rw [State.setHandoff_of_some (by rw [hoffered.slot]; exact hz), State.localOutcome_of_quiet hx]
  rw [hlocally] at hexec
  have hset := hoffered.map (fun y => y.setPassage k i { q with handoff := .local x.result }) fun _ _ _ _ => rfl
  refine (LeavesThenEnds.of_offered hexec hset (List.forall_mem_append.mpr ⟨hkind, s.kind_legFrames k p leg⟩)
    (hoffered.serving.trans hw)).perm List.perm_append_comm

/-- R89, R94, R129: how a claim is shown of a handoff that has been refused. -/
theorem LeavesThenEnds.of_local_refused {x : Receipt}
    (hd : ∀ v, Offered s v (s.feedAdvanced k p leg i q) (s.legFrames k p leg) → v.serving = true →
      ∃ t, v.receiveLocal target (s.localAnnouncement k p leg) = (t, x)
        ∧ Offered s t (s.feedAdvanced k p leg i q) (s.legFrames k p leg))
    (hx : x.result.refuses = true) :
    let inc := refusedIncident k (s.record p.record).tag (s.record p.record).companionTag x.result s.cfg.node target
      ((s.slot k).feedCounter leg)
    LeavesThenEnds (.exitAxleForward k leg) s
      ((State.captureAlarm { s.feedAdvanced k p leg i q with faultLatch := true } inc).setPassage k i
        { q with handoff := .local x.result }) k
      (s.legFrames k p leg ++ [(s.feedAdvanced k p leg i q).reportOf inc]) := by
  intro inc
  obtain ⟨v, hexec, hadvanced⟩ := execExitAxleForward_of_local hs hi hp ht hq hleg
  have hserving := hadvanced.serving.trans (State.serving_feedAdvanced hs p leg i q)
  obtain ⟨t, hreceive, hoffered⟩ := hd v hadvanced hserving
  obtain ⟨y, c, n, hy, hzone, -⟩ := s.feedAdvanced_kept k p leg i q
  have hq' : (t.slot k).zone[i]? = some q := by
    rw [hoffered.slot, hy]
    show ((s.setSlot k y).slot k).zone[i]? = some q
    rw [State.slot_setSlot, hzone]
    exact List.getElem?_set_self (List.getElem?_eq_some_iff.mp hp).1
  let u := s.feedAdvanced k p leg i q
  let sent := { q with handoff := PassageHandoff.local x.result }
  have hinc : refusedIncident k ((t.setPassage k i sent).record p.record).tag
      ((t.setPassage k i sent).record p.record).companionTag x.result (t.setPassage k i sent).cfg.node target
        ((s.slot k).feedCounter leg) = inc := by
    rw [hoffered.alike, hy]
    rfl
  have hlocally : v.handOffLocally k i p.record target (s.localAnnouncement k p leg)
      = State.raise { t.setPassage k i sent with faultLatch := true } inc := by
    unfold State.handOffLocally
    rw [hreceive]
    dsimp only
    rw [State.setHandoff_of_some hq', State.localOutcome_of_refusing hx, ← hinc]
    rfl
  have hserved := hoffered.serving.trans (State.serving_feedAdvanced hs p leg i q)
  have halarm := (hoffered.map (fun y => { y.setPassage k i sent with faultLatch := true })
    fun _ _ _ _ => rfl).raise_alarm (s.kind_legFrames k p leg) hserved inc rfl
  rw [← hlocally] at halarm
  have hcommute : State.captureAlarm { u.setPassage k i sent with faultLatch := true } inc
      = (State.captureAlarm { u with faultLatch := true } inc).setPassage k i sent :=
    (State.setPassage_captureAlarm { u with faultLatch := true } inc k i sent).symm
  have hkind : ∀ g ∈ u.reportOf inc :: s.legFrames k p leg, g.kind ≠ .holdState :=
    List.forall_mem_cons.mpr ⟨State.reportOf_kind u inc, s.kind_legFrames k p leg⟩
  have hends := LeavesThenEnds.of_offered hexec halarm hkind
    (halarm.serving.trans ((State.captureAlarm_serving _ _).trans (hoffered.serving.symm.trans hserved)))
  rw [hcommute] at hends
  exact hends.perm (List.perm_append_singleton _ _).symm

end

end Sys2Proof.Machine
end

section
/-! SUPPORT. The local handoff with each of the receiver's results (R89, R98 to R104). -/

namespace Sys2Proof.Machine

/-- R98: a slot of this node is fed by a leg of a slot of this node. -/
theorem State.fedBy_local_iff (s : State) (j k : SlotIx) (p : Passage) (leg : Leg) :
    (s.slotCfg j).fedBy (s.localAnnouncement k p leg).source = true
      ↔ (s.slotCfg j).feedNode = s.cfg.node ∧ (s.slotCfg j).feedSlot = k.val ∧ (s.slotCfg j).feedLeg = leg := by
  simp [State.localAnnouncement, SlotConfig.fedBy, and_assoc]

theorem State.receiveLocal_of_slot {v : State} {target : Nat} {j : SlotIx} (h : j.val = target) (a : Announcement) :
    v.receiveLocal target a = v.receive j a := by
  unfold State.receiveLocal
  rw [slotOfNat_eq_some_iff.mpr h]

theorem State.zone_takenInto (s : State) (j k : SlotIx) (r : RecIx) (record : Record) (e : Seq)
    (before after : List RecIx) : ((s.takenInto j r record e before after).slot k).zone = (s.slot k).zone := by
  have hset : (((s.setRecord r record).setSlot j
      { s.slot j with expected := some e, queue := before ++ r :: after }).slot k).zone = (s.slot k).zone := by
    by_cases hk : k = j
    · rw [hk, State.slot_setSlot]
    · rw [State.slot_setSlot_of_ne _ _ _ _ hk]
      rfl
  unfold State.takenInto
  split
  · exact (State.zone_evaluateThrow _ j k).trans hset
  · exact hset

theorem State.zone_afterAdoption {s : State} {j k : SlotIx} {n i : Nat} {b q : Passage} (seq : Seq) (c : CutContents)
    (hb : (s.slot j).zone[n]? = some b) (ht : b.taken = none) (hq : (s.slot k).zone[i]? = some q) {leg : Leg}
    (htq : q.taken = some leg) : ((s.afterAdoption j n b seq c).slot k).zone[i]? = some q := by
  unfold State.afterAdoption
  by_cases hk : k = j
  · subst hk
    have hne : n ≠ i := by
      rintro rfl
      rw [hb] at hq
      rw [Option.some.inj hq, htq] at ht
      exact absurd ht (Option.some_ne_none leg)
    rw [State.slot_setSlot]
    exact (List.getElem?_set_ne hne).trans hq
  · rw [State.slot_setSlot_of_ne _ _ _ _ hk]
    exact hq

section
variable {s : State} {k : SlotIx} {leg : Leg} {i target : Nat} {p q : Passage} (hs : s.slotServing k = true)
  (hi : (s.slot k).zone.findIdx? Passage.isOpen = some i) (hp : (s.slot k).zone[i]? = some p) (ht : p.taken = none)
  (hq : q = { (p.withOut leg (p.outOn leg + 1)).afterAxle s.time (s.slotCfg k).stallTime with taken := some leg })
  (hleg : (s.slotCfg k).legEnd leg = .slot s.cfg.node target) {j : SlotIx} (hj : j.val = target) {x : Receipt}
include hs hi hp ht hq hleg hj

/-- R89: how a claim is shown of what a slot of the node decides. -/
theorem LeavesThenEnds.of_localDecision {w : State} {sends : List OutFrame}
    (hd : (s.feedAdvanced k p leg i q).Decides j (s.localAnnouncement k p leg) x w sends)
    (hz : (w.slot k).zone[i]? = some q) (hx : x.result.refuses = false) :
    LeavesThenEnds (.exitAxleForward k leg) s (w.setPassage k i { q with handoff := .local x.result }) k
      (s.legFrames k p leg ++ sends) := by
  have hw : w.serving = true := hd.serving.trans (State.serving_feedAdvanced hs p leg i q)
  refine LeavesThenEnds.of_local hs hi hp ht hq hleg (fun v hv hserving => ?_) hd.kind hw hz hx
  rw [State.receiveLocal_of_slot hj]
  exact hd.receives s v _ hv (s.kind_legFrames k p leg) hserving

end

/-- Settles O15: the axle and the feed counter leave `State.feedAdvanced`, in which the target slot decides. -/
theorem firstExitAxleMakesTheLocalHandoff : Obligations.FirstExitAxleMakesTheLocalHandoff := by
  unfold Obligations.FirstExitAxleMakesTheLocalHandoff
  intro s k leg i target p hs hi hp ht hleg q r c seq
  have hseq : seq = (s.slot k).feedCounter leg := by cases leg <;> rfl
  clear_value seq
  subst hseq
  intro mismatch mismatched alarm s0 s1 results refuses
  let a := s.localAnnouncement k p leg
  have hs1 : s.feedAdvanced k p leg i q = s1 := rfl
  obtain ⟨x, capture, n, hkept, hzone, -⟩ := s.feedAdvanced_kept k p leg i q
  rw [hs1] at hkept
  have hslotCfg (j : SlotIx) : s1.slotCfg j = s.slotCfg j := by rw [hkept]; rfl
  have hrefuses {x : Receipt} (hx : x.result.refuses = true)
      (hd : ∀ v, Offered s v s1 (s.legFrames k p leg) → v.serving = true →
        ∃ t, v.receiveLocal target a = (t, x) ∧ Offered s t s1 (s.legFrames k p leg)) : refuses x.result :=
    LeavesThenEnds.of_local_refused hs hi hp ht rfl hleg hd hx
  have hresults {j : SlotIx} (hj : j.val = target) {x : Receipt} {w : State} {sends : List OutFrame}
      (hd : s1.Decides j a x w sends) (hz : (w.slot k).zone[i]? = some q) (hx : x.result.refuses = false) :
      results x.result w sends := LeavesThenEnds.of_localDecision hs hi hp ht rfl hleg hj hd hz hx
  have hannounced (j : SlotIx) : a.contents.announced a.seq s1.time (s1.slotCfg j).overdueTime
      = c.announced ((s.slot k).feedCounter leg) s.time (s.slotCfg j).overdueTime := by
    rw [hkept]
    rfl
  clear_value s1 results
  refine ⟨fun hunfed => hrefuses (x := .refusedUnknownFeed) rfl fun v hv hserving => ?unfed,
    fun j hj hnode hslot hfeed => ?_⟩
  case unfed =>
    cases hslot : slotOfNat target with
    | none => exact ⟨v, by unfold State.receiveLocal; rw [hslot], hv⟩
    | some j =>
      have hj := slotOfNat_eq_some_iff.mp hslot
      rw [State.receiveLocal_of_slot hj]
      have hd : s1.Decides j a .refusedUnknownFeed s1 [] := by
        refine State.decides_unfed ((hunfed j hj).imp (fun hoff => ?_) fun hfed => ?_)
        · have hjk : j ≠ k := by
            rintro rfl
            exact State.service_ne_off_of_slotServing hs hoff
          rw [hkept]
          exact (congrArg Slot.service (State.slot_setSlot_of_ne s _ _ _ hjk)).trans hoff
        · rw [hslotCfg]
          exact Bool.eq_false_iff.mpr (mt (s.fedBy_local_iff j k p leg).mp hfed)
      exact hd.receives s v _ hv (s.kind_legFrames k p leg) hserving
  intro y record late
  have hfed : (s1.slotCfg j).fedBy a.source = true := by
    rw [hslotCfg]
    exact (s.fedBy_local_iff j k p leg).mpr ⟨hnode, hslot, hfeed⟩
  have hqueued : s1.queuedSeq = s.queuedSeq := by rw [hkept]; rfl
  have hfree : s1.free = s.free := by rw [hkept]; rfl
  have hq : (s1.slot k).zone[i]? = some q := by
    rw [hkept]
    refine (congrArg (fun z => z.zone[i]?) (State.slot_setSlot s k x)).trans ?_
    rw [hzone]
    exact List.getElem?_set_self (List.getElem?_eq_some_iff.mp hp).1
  have hrefusesSlot {x : Receipt} (hx : x.result.refuses = true) (hd : s1.Decides j a x s1 []) : refuses x.result :=
    hrefuses hx fun v hv hserving => by
      rw [State.receiveLocal_of_slot hj]
      exact hd.receives s v _ hv (s.kind_legFrames k p leg) hserving
  refine ⟨fun hsettling => ?_, fun hoff hsettling => ?_⟩
  · exact hrefusesSlot (x := .refusedNotReady) rfl (State.decides_settling hfed hsettling)
  have hadmits : s1.admits j a.source := ⟨hfed, hoff, hsettling⟩
  refine ⟨fun new free hf he hempty => ?unsynced, fun e he hd => ⟨fun hdup => ?duplicate, fun hn hl => ?full, ?synced⟩,
    fun e he hd => ?behind⟩
  case unsynced =>
    have hplaced : s1.placed j a.seq a.seq new [] [] :=
      ⟨hempty, (congrArg (new ∉ ·) hempty).mpr List.not_mem_nil, by simp, by simp⟩
    have hdecides := State.decides_taken hadmits rfl (Or.inl ⟨he, rfl⟩) (hfree.trans hf) hplaced
    rw [hannounced] at hdecides
    exact hresults hj hdecides ((congrArg (·[i]?) (State.zone_takenInto _ j k new _ _ _ _)).trans hq) rfl
  case duplicate => exact hresults hj (State.decides_queued hadmits he hd (by rw [hqueued]; exact hdup)) hq rfl
  case full =>
    exact hrefusesSlot (x := .refusedFull) rfl (State.decides_full hadmits he hd (by rw [hqueued]; exact hn) hl)
  case synced =>
    intro new free before after hf hsplit hl hnew hn hb ha taken
    have hplaced : s1.placed j a.seq e new before after :=
      ⟨hsplit, hnew, by rw [hqueued]; exact hb, by rw [hqueued]; exact ha⟩
    have hdecides := State.decides_taken hadmits rfl
      (Or.inr ⟨he, hd, hl, by rw [hqueued]; exact hn⟩) (hfree.trans hf) hplaced
    rw [hannounced] at hdecides
    have htaken : taken = (State.setRecord { s1 with free := free } new record).setSlot j
        { y with expected := some e, queue := before ++ new :: after } := by
      rw [← he]
    rw [htaken]
    exact hresults hj hdecides ((congrArg (·[i]?) (State.zone_takenInto _ j k new _ _ _ _)).trans hq) rfl
  case behind =>
    intro entry passage
    refine ⟨fun hresend => ?_, fun hlate => ?_, fun tag n b hentry hpassage hb htaken => ?_⟩
    · exact hresults hj (State.decides_resend hadmits he hd hresend) hq rfl
    · refine hresults hj (State.decides_late hadmits he hd hlate) ?_ rfl
      rw [State.slot_captureAlarm]
      exact hq
    · refine hresults hj (State.decides_adopted hadmits he hd hentry hpassage hb htaken) ?_ rfl
      rw [State.slot_captureAlarm]
      exact State.zone_afterAdoption _ _ hb htaken hq rfl

end Sys2Proof.Machine
end

section
/-! SUPPORT. The ends of passages after an offer that has discarded a HANDOFF (R78, R79, R92, R149): what the discard may
have touched are handoffs, wait list and pool, and no record of the slot's lists. -/

namespace Sys2Proof.Machine

/-! ### The records of a slot's lists (R12) -/

/-- The records that stand in the queue and in the zone list of a slot. -/
def Slot.held (x : Slot) : List RecIx := x.queue ++ x.zone.map Passage.record

/-- R12: the records of a slot's lists are distinct, and none of them waits for a reply. -/
def State.holdsApart (s : State) (k : SlotIx) : Prop :=
  (s.slot k).held.Nodup ∧ ∀ e ∈ s.waitList, e.record ∉ (s.slot k).held

theorem PoolLaw.holdsApart {s : State} (h : PoolLaw s) (k : SlotIx) : s.holdsApart k := by
  have hnodup : s.places.Nodup := h.nodup_iff.mpr (List.nodup_finRange 64)
  have hmem := s.slot_mem_slots k
  unfold State.places at hnodup
  obtain ⟨hlists, -, hapart⟩ := List.nodup_append.mp hnodup
  obtain ⟨-, hslots, -⟩ := List.nodup_append.mp hlists
  obtain ⟨hslot, -⟩ := List.nodup_flatMap.mp hslots
  refine ⟨hslot _ hmem, fun e he hheld => ?_⟩
  exact hapart _ (List.mem_append_right _ (List.mem_flatMap.mpr ⟨_, hmem, hheld⟩)) _ (List.mem_map_of_mem he) rfl

/-! ### States that differ in what a discard has touched -/

/-- The states agree but for what a discarded HANDOFF touches, the slots exactly, and the records of a slot's lists
too. -/
structure State.Twin (k : SlotIx) (v u : State) : Prop where
  slots : v.slots = u.slots
  reports : v.apartFromReports = u.apartFromReports
  records : ∀ i ∈ (u.slot k).held, v.record i = u.record i
  left : v.holdsApart k
  right : u.holdsApart k

theorem State.Twin.slot {k : SlotIx} {v u : State} (h : State.Twin k v u) (j : SlotIx) : v.slot j = u.slot j := by
  unfold State.slot
  rw [h.slots]

/-- R158: the watch table after the end of a passage. -/
def State.watchesAfter (s : State) (p : Passage) : List Tag :=
  if p.taken = none then s.watches else (s.record p.record).watchable.foldl List.erase s.watches

/-- What the end of a passage does to what twins share: it reads its own record, frees that or one of the wait list, and
nothing but its own record joins the wait list. -/
theorem State.afterEnd_touches (s : State) (p : Passage) :
    (s.afterEnd p).apartFromReports = { s.apartFromReports with watches := s.watchesAfter p }
    ∧ (∀ i, i ≠ p.record → (∀ e ∈ s.waitList, e.record ≠ i) → (s.afterEnd p).record i = s.record i)
    ∧ ∀ e ∈ (s.afterEnd p).waitList, e ∈ s.waitList ∨ e.record = p.record := by
  have hfreed (u : State) (hu : ∀ i, u.record i = s.record i) (i : RecIx) (hi : i ≠ p.record) :
      (u.freeRecord p.record).record i = s.record i := by
    rw [State.record_freeRecord_eq_ite, if_neg hi, hu]
  unfold State.afterEnd
  rcases p.handoff with _ | n | r
  · exact ⟨rfl, fun i hi _ => hfreed _ (fun _ => rfl) i hi, fun e he => .inl he⟩
  · dsimp only
    split
    · exact ⟨rfl, fun i hi _ => hfreed _ (fun _ => rfl) i hi, fun e he => .inl he⟩
    · split
      · refine ⟨rfl, fun _ _ _ => rfl, fun e he => (List.mem_append.mp he).imp_right fun hl => ?_⟩
        rw [List.mem_singleton.mp hl]
      · rename_i e x hdisplaced
        obtain ⟨⟨rest, hw⟩, -⟩ := s.makeRoom_of_displaced e x hdisplaced
        refine ⟨State.apartFromReports_captureAlarm _ _, fun i _ hi => ?_, fun f hf => ?_⟩
        · rw [State.record_freeRecord_eq_ite, if_neg fun h => hi e (by rw [hw]; exact List.mem_cons_self) h.symm]
          exact State.record_captureAlarm _ _ i
        · have hf' := (congrArg (f ∈ ·) (State.waitList_captureAlarm _ _)).mp hf
          rcases List.mem_append.mp hf' with hf | hf
          · exact .inl (List.mem_of_mem_tail hf)
          · exact .inr (by rw [List.mem_singleton.mp hf])
  · exact ⟨rfl, fun i hi _ => hfreed _ (fun _ => rfl) i hi, fun e he => .inl he⟩

section
variable {k : SlotIx} {v u : State} (h : State.Twin k v u)
include h

/-- R79: the end of the oldest passage leaves twins. -/
theorem State.Twin.afterEnd {p : Passage} {rest : List Passage} (hz : (u.slot k).zone = p :: rest) :
    State.Twin k ((v.afterEnd p).setSlot k { (v.afterEnd p).slot k with zone := rest })
      ((u.afterEnd p).setSlot k { (u.afterEnd p).slot k with zone := rest }) := by
  obtain ⟨hvreports, hvrecords, hvwaits⟩ := v.afterEnd_touches p
  obtain ⟨hureports, hurecords, huwaits⟩ := u.afterEnd_touches p
  have hvslot : (v.afterEnd p).slot k = u.slot k := by
    rw [← h.slot k]
    exact congrArg (fun l => l[k]) (v.slots_afterEnd p)
  have huslot : (u.afterEnd p).slot k = u.slot k := congrArg (fun l => l[k]) (u.slots_afterEnd p)
  have hheld : (u.slot k).held.Perm (p.record :: ({ u.slot k with zone := rest } : Slot).held) := by
    unfold Slot.held
    rw [hz, List.map_cons]
    exact List.perm_middle
  have hmem : p.record ∈ (u.slot k).held := hheld.mem_iff.mpr List.mem_cons_self
  obtain ⟨hnodup, hapart⟩ := h.right
  obtain ⟨hvnodup, hvapart⟩ := h.left
  rw [h.slot k] at hvapart
  obtain ⟨hout, hrest⟩ := List.nodup_cons.mp (hheld.nodup_iff.mp hnodup)
  have hin {i : RecIx} (hi : i ∈ ({ u.slot k with zone := rest } : Slot).held) : i ∈ (u.slot k).held :=
    hheld.mem_iff.mpr (List.mem_cons_of_mem _ hi)
  rw [hvslot, huslot]
  refine ⟨?_, ?_, ?_, ?_, ?_⟩
  · exact congrArg (fun l => l.set k { u.slot k with zone := rest })
      ((v.slots_afterEnd p).trans (h.slots.trans (u.slots_afterEnd p).symm))
  · have hbefore : v.watches = u.watches := (congrArg State.watches h.reports :)
    have hwatches : v.watchesAfter p = u.watchesAfter p := by
      unfold State.watchesAfter
      rw [hbefore, h.records _ hmem]
    rw [State.apartFromReports_setSlot, State.apartFromReports_setSlot, hvreports, hureports, h.reports, hwatches]
  · intro i hi
    rw [State.slot_setSlot] at hi
    have hne : i ≠ p.record := fun hip => hout (hip ▸ hi)
    refine (hvrecords i hne fun e he hei => hvapart e he (hei ▸ hin hi)).trans ((h.records i (hin hi)).trans ?_)
    exact (hurecords i hne fun e he hei => hapart e he (hei ▸ hin hi)).symm
  · refine ⟨by rw [State.slot_setSlot]; exact hrest, fun e he hheld => ?_⟩
    rw [State.slot_setSlot] at hheld
    rcases hvwaits e he with hw | hw
    · exact hvapart e hw (hin hheld)
    · exact hout (hw ▸ hheld)
  · refine ⟨by rw [State.slot_setSlot]; exact hrest, fun e he hheld => ?_⟩
    rw [State.slot_setSlot] at hheld
    rcases huwaits e he with hw | hw
    · exact hapart e hw (hin hheld)
    · exact hout (hw ▸ hheld)

/-- Twins stay twins where the same slot is written, with the same records. -/
theorem State.Twin.setSlot {x : Slot} (hx : x.held = (u.slot k).held) : State.Twin k (v.setSlot k x) (u.setSlot k x) := by
  have hv : x.held = (v.slot k).held := by rw [h.slot k, hx]
  refine ⟨congrArg (fun l => l.set k x) h.slots, ?_, fun i hi => ?_, ?_, ?_⟩
  · rw [State.apartFromReports_setSlot, State.apartFromReports_setSlot, h.reports]
  · rw [State.slot_setSlot, hx] at hi
    exact h.records i hi
  · unfold State.holdsApart
    rw [State.slot_setSlot, hv]
    exact h.left
  · unfold State.holdsApart
    rw [State.slot_setSlot, hx]
    exact h.right

/-- R44: a throw evaluation leaves twins. -/
theorem State.Twin.evaluateThrow : State.Twin k (v.evaluateThrow k) (u.evaluateThrow k) := by
  cases hq : (u.slot k).queue with
  | nil =>
    rw [State.evaluateThrow_of_empty hq, State.evaluateThrow_of_empty ((congrArg Slot.queue (h.slot k)).trans hq)]
    exact h
  | cons r rest =>
    have hvq := (congrArg Slot.queue (h.slot k)).trans hq
    have hcfg : v.slotCfg k = u.slotCfg k := (congrArg (fun w => w.slotCfg k) h.reports :)
    have htime : v.time = u.time := (congrArg State.time h.reports :)
    have hrecord : v.record r = u.record r := h.records r (List.mem_append_left _ (by rw [hq]; exact List.mem_cons_self))
    have hwanted : v.wantedLeg k r = u.wantedLeg k r := by
      unfold State.wantedLeg
      rw [hcfg, hrecord]
    by_cases ht : (u.slot k).mayThrow (u.wantedLeg k r)
    · rw [State.evaluateThrow_of_mayThrow hq ht, State.evaluateThrow_of_mayThrow hvq (by rw [h.slot k, hwanted]; exact ht),
        h.slot k, hwanted, hcfg, htime]
      exact h.setSlot rfl
    · rw [State.evaluateThrow_of_not_mayThrow hq ht,
        State.evaluateThrow_of_not_mayThrow hvq (by rw [h.slot k, hwanted]; exact ht)]
      exact h

/-- R78: the ends of a zone list agree. -/
theorem State.Twin.afterEnds (n : Nat) :
    (State.afterEnds k n v).1.apartFromReports = (State.afterEnds k n u).1.apartFromReports := by
  induction n generalizing v u with
  | zero => exact h.reports
  | succ n ih =>
    cases hz : (u.slot k).zone with
    | nil =>
      have hnone (w : State) (hw : (w.slot k).zone = []) : State.afterEnds k (n + 1) w = (w, []) :=
        State.afterEnds_of_noneEnds k _ w (by rw [hw]; exact fun p hp => absurd hp (by simp))
      rw [hnone u hz, hnone v ((congrArg Slot.zone (h.slot k)).trans hz)]
      exact h.reports
    | cons p rest =>
      have hvz := (congrArg Slot.zone (h.slot k)).trans hz
      by_cases hp : p.ends = true
      · rw [State.afterEnds_of_ends k n u p rest hz hp, State.afterEnds_of_ends k n v p rest hvz hp]
        dsimp only
        split
        · exact ih (h.afterEnd hz).evaluateThrow
        · exact ih (h.afterEnd hz)
      · have hnone (w : State) (hw : (w.slot k).zone = p :: rest) : State.afterEnds k (n + 1) w = (w, []) := by
          refine State.afterEnds_of_noneEnds k _ w ?_
          rw [hw]
          intro y hy
          rw [← Option.some.inj hy]
          exact Bool.eq_false_iff.mpr hp
        rw [hnone u hz, hnone v hvz]
        exact h.reports

end

end Sys2Proof.Machine
end

section
/-! SUPPORT. The first forward exit axle of a passage on a leg that feeds a slot of another node (R88, R148, R149). -/

namespace Sys2Proof.Machine

/-- R148: an offer of any frame, where there is room for it. -/
theorem Offered.offer {s v u : State} {sends : List OutFrame} (h : Offered s v u sends)
    (hk : ∀ g ∈ sends, g.kind ≠ .holdState) (hv : v.serving = true) (f : OutFrame) (o : Option Nat)
    (hr : v.hasRoom 1) : Offered s (v.offer f o) u (f :: sends) := by
  have hoffer := State.offer_of_room v f o hr
  rw [if_pos hv] at hoffer
  refine ⟨?_, fun hs => ⟨?_, ((h.reported.offer hk hv f o).2 hs).2⟩⟩
  · rw [hoffer, h.alike]
    rfl
  · rw [hoffer, (h.room (State.hasRoom_mono (by simp) hs)).1]
    rfl

/-- The discards of an offer leave a twin. -/
theorem Offered.twin {s v u : State} {sends : List OutFrame} (h : Offered s v u sends) {k : SlotIx} (hu : u.holdsApart k)
    (f : OutFrame) (o : Option Nat) : State.Twin k (v.offer f o) u := by
  have hslots : (v.offer f o).slots = u.slots := (State.slots_offer v f o).trans (by rw [h.alike]; rfl)
  have hslot : (v.offer f o).slot k = u.slot k := congrArg (fun l => l[k]) hslots
  have hwait : v.waitList = u.waitList := by rw [h.alike]; rfl
  obtain ⟨hnodup, hapart⟩ := hu
  have hsheds := (Sheds.refl v).offer f o
  refine ⟨hslots, ?_, fun i hi => ?_, ⟨by rw [hslot]; exact hnodup, fun e he => ?_⟩, hnodup, hapart⟩
  · rw [State.apartFromReports_offer, h.alike]
    rfl
  · refine (hsheds.record fun e he hei => ?_).trans (h.record i)
    exact hapart e (hwait ▸ he) (hei ▸ hi)
  · obtain ⟨-, hwaits, -⟩ := hsheds
    rw [hslot]
    exact hapart e (hwait ▸ hwaits he)

/-- R78, R92: how a claim is shown of a body whose last offer may discard a HANDOFF, and of the ends that follow it. -/
theorem LeavesThenEnds.of_offer {c : Instr} {s v u : State} {k : SlotIx} {sends : List OutFrame} {f : OutFrame}
    {o : Option Nat} (hc : exec c s = finish s ((v.offer f o).checkEnd k)) (h : Offered s v u sends)
    (hk : ∀ g ∈ sends, g.kind ≠ .holdState) (hf : f.kind ≠ .holdState) (hv : v.serving = true)
    (hends : noneEnds (u.slot k).zone ∨ u.holdsApart k) : LeavesThenEnds c s u k (sends ++ [f]) := by
  by_cases hr : v.hasRoom 1
  · have hoffered := h.offer hk hv f o hr
    exact (LeavesThenEnds.of_offered hc hoffered (List.forall_mem_cons.mpr ⟨hf, hk⟩)
      (hoffered.serving.trans (h.serving.symm.trans hv))).perm (List.perm_append_singleton f sends).symm
  · let w := v.offer f o
    have hslot : w.slot k = u.slot k := by
      have hv : v.slot k = u.slot k := h.slot k
      exact (congrArg (fun l => l[k]) (State.slots_offer v f o)).trans hv
    have hnode : w.nodeState = v.nodeState := (congrArg State.nodeState (State.apartFromReports_offer v f o) :)
    have hwserving : w.serving = true := (congrArg (· == NodeState.inService) hnode).trans hv
    have hsame : (State.afterEnds k (u.slot k).zone.length w).1.apartFromReports
        = (State.afterEnds k (u.slot k).zone.length u).1.apartFromReports := by
      rcases hends with hnone | hapart
      · rw [State.afterEnds_of_noneEnds k _ w (by rw [hslot]; exact hnone), State.afterEnds_of_noneEnds k _ u hnone]
        refine (State.apartFromReports_offer v f o).trans ?_
        rw [h.alike]
        rfl
      · exact (h.twin hapart f o).afterEnds _
    obtain ⟨hchecked, -⟩ := (Offered.of_queue (s := w) rfl).checkEnds k (u.slot k).zone.length (by simp) hwserving
    refine ⟨_, hc, ?_, fun hs => absurd (h.left (State.hasRoom_mono ?_ hs)) hr⟩
    · rw [State.apartFromReports_settle, ← hsame]
      unfold State.checkEnd
      rw [show (w.slot k).zone = (u.slot k).zone from congrArg Slot.zone hslot, hchecked.alike]
      rfl
    · simp only [List.length_append, List.length_singleton]
      omega

/-- R87, R88: the frame a passage sends to a slot of another node. -/
def State.frameFor (s : State) (k : SlotIx) (p : Passage) (leg : Leg) (node target : Nat) : HandoffFrame :=
  ⟨node, target, k, leg, (s.slot k).feedCounter leg, p.handsOn (s.record p.record)⟩

/-- R88: the context of a frame that is sent. -/
def State.withContext (s : State) (k : SlotIx) (i : Nat) (q : Passage) (f : HandoffFrame) : State :=
  { s.setPassage k i { q with handoff := .sent s.nextHandoff } with
    handoffs := s.handoffs ++ [({ number := s.nextHandoff, frame := f, status := .pending .first none } : Handoff)]
    nextHandoff := s.nextHandoff + 1 }

theorem State.beginHandoff_of_other {v : State} {k : SlotIx} {leg : Leg} {i node target : Nat} {p q : Passage}
    (h : (v.slotCfg k).legEnd leg = .slot node target) (hn : node ≠ v.cfg.node) (hq : (v.slot k).zone[i]? = some q) :
    v.beginHandoff k i p leg = ((v.setSlot k ((v.slot k).advanceFeed leg)).withContext k i q
      (v.frameFor k p leg node target)).offer (.handoff (v.frameFor k p leg node target)) (some v.nextHandoff) := by
  have hpassage : ((v.setSlot k ((v.slot k).advanceFeed leg)).slot k).zone[i]? = some q := by
    rw [State.slot_setSlot]
    cases leg <;> exact hq
  unfold State.beginHandoff
  rw [h]
  dsimp only
  rw [if_neg hn]
  unfold State.sendHandoff
  rw [State.setHandoff_of_some hpassage]
  rfl

theorem noneEnds_set {l : List Passage} {i : Nat} {q : Passage} (h : noneEnds (l.set i q)) (x : PassageHandoff) :
    noneEnds (l.set i { q with handoff := x }) := by
  cases l with
  | nil => exact h
  | cons y l =>
    cases i with
    | zero =>
      intro z hz
      rw [← Option.some.inj hz]
      exact h q rfl
    | succ i => exact h

/-- R88: the records of the slot's lists while its passage sends a handoff. -/
theorem State.holdsApart_withContext {s : State} {k : SlotIx} {p q : Passage} {leg : Leg} {i : Nat} (hpool : PoolLaw s)
    (hp : (s.slot k).zone[i]? = some p) (hq : q.record = p.record) (f : HandoffFrame) :
    ((s.feedAdvanced k p leg i q).withContext k i q f).holdsApart k := by
  obtain ⟨x, c, n, hx, hzone, hqueue⟩ := s.feedAdvanced_kept k p leg i q
  have hslot : (s.feedAdvanced k p leg i q).slot k = x := by
    rw [hx]
    exact State.slot_setSlot s k x
  have hwait : ((s.feedAdvanced k p leg i q).withContext k i q f).waitList = s.waitList := by rw [hx]; rfl
  have hrecords : (s.slot k).zone.map Passage.record = ((s.slot k).zone.set i q).map Passage.record := by
    obtain ⟨hlt, hpi⟩ := List.getElem?_eq_some_iff.mp hp
    have hat : p.record = ((s.slot k).zone.map Passage.record)[i]'(by rwa [List.length_map]) := by
      rw [List.getElem_map, hpi]
    rw [List.map_set, hq, hat, List.set_getElem_self]
  have hheld : (((s.feedAdvanced k p leg i q).withContext k i q f).slot k).held = (s.slot k).held := by
    refine (congrArg Slot.held (State.slot_setPassage_eq (s.feedAdvanced k p leg i q) k i _)).trans ?_
    unfold Slot.held
    rw [hslot, hzone, hrecords, List.set_set, List.map_set, List.map_set]
    exact congrArg (· ++ _) hqueue
  unfold State.holdsApart
  rw [hwait, hheld]
  exact hpool.holdsApart k

/-- R88: the zone list while its passage sends a handoff. -/
theorem State.zone_withContext (s : State) (k : SlotIx) (p : Passage) (leg : Leg) (i : Nat) (q : Passage)
    (f : HandoffFrame) : (((s.feedAdvanced k p leg i q).withContext k i q f).slot k).zone
      = (s.slot k).zone.set i { q with handoff := .sent (s.feedAdvanced k p leg i q).nextHandoff } := by
  obtain ⟨x, c, n, hx, hzone, -⟩ := s.feedAdvanced_kept k p leg i q
  have hslot : (s.feedAdvanced k p leg i q).slot k = x := by
    rw [hx]
    exact State.slot_setSlot s k x
  refine (congrArg Slot.zone (State.slot_setPassage_eq (s.feedAdvanced k p leg i q) k i _)).trans ?_
  rw [hslot, hzone]
  exact List.set_set ..

/-- R88: the axle's effects, as far as the offer of the frame. -/
theorem execExitAxleForward_of_other {s : State} {k : SlotIx} {leg : Leg} {i node target : Nat} {p q : Passage}
    (hs : s.slotServing k = true) (hi : (s.slot k).zone.findIdx? Passage.isOpen = some i)
    (hp : (s.slot k).zone[i]? = some p) (ht : p.taken = none)
    (hq : q = { (p.withOut leg (p.outOn leg + 1)).afterAxle s.time (s.slotCfg k).stallTime with taken := some leg })
    (hleg : (s.slotCfg k).legEnd leg = .slot node target) (hnode : node ≠ s.cfg.node) :
    ∃ v o, exec (.exitAxleForward k leg) s
        = finish s ((v.offer (.handoff (s.frameFor k p leg node target)) o).checkEnd k)
      ∧ Offered s v ((s.feedAdvanced k p leg i q).withContext k i q (s.frameFor k p leg node target))
          (s.legFrames k p leg) := by
  obtain ⟨v, hexec, hcounted⟩ := execExitAxleForward_of_first hs hi hp ht hq
  obtain ⟨x, c, n, hx, hzone, -, hfeed⟩ := s.legCounted_kept k p leg i q
  have hv : v = (s.setSlot k x).withOffers v.capture v.furtherAlarms v.port.queue := by
    rw [hcounted.alike, hx]
    rfl
  have hslot : v.slot k = x := by
    rw [hv]
    exact State.slot_setSlot s k x
  have hpassage : (v.slot k).zone[i]? = some q := by
    rw [hslot, hzone]
    exact List.getElem?_set_self (List.getElem?_eq_some_iff.mp hp).1
  have hframe : v.frameFor k p leg node target = s.frameFor k p leg node target := by
    unfold State.frameFor
    rw [hslot, hfeed, hv]
    rfl
  have hbegin := State.beginHandoff_of_other (p := p) (v := v) (node := node) (target := target) (by rw [hv]; exact hleg)
    (by rw [hv]; exact hnode) hpassage
  have hoffered := hcounted.map (fun y => (y.setSlot k ((y.slot k).advanceFeed leg)).withContext k i q
    (s.frameFor k p leg node target)) fun _ _ _ _ => rfl
  rw [hbegin, hframe] at hexec
  rw [State.feedAdvanced_eq] at hoffered
  exact ⟨_, _, hexec, hoffered⟩

/-- Settles O14: the axle and the feed counter leave `State.feedAdvanced`; the context is added, and its frame is the last
offer before the check of the ends. -/
theorem firstExitAxleSendsTheHandoff : Obligations.FirstExitAxleSendsTheHandoff := by
  unfold Obligations.FirstExitAxleSendsTheHandoff
  intro s k leg i node target p hs hi hp ht hleg hnode q frame mismatch sent hends
  have hframe : s.frameFor k p leg node target = frame := by cases leg <;> rfl
  obtain ⟨hrecord, -⟩ : q.record = p.record ∧ _ := p.fields_withOut leg _
  obtain ⟨v, o, hexec, hoffered⟩ := execExitAxleForward_of_other hs hi hp ht (q := q) rfl hleg hnode
  rw [hframe] at hexec hoffered
  let u := (s.feedAdvanced k p leg i q).withContext k i q frame
  have huserving : u.serving = true := State.serving_feedAdvanced hs p leg i q
  have huends : noneEnds (u.slot k).zone ∨ u.holdsApart k := by
    refine hends.imp (fun hnone => ?_) fun hpool => State.holdsApart_withContext hpool hp hrecord frame
    rw [State.zone_withContext]
    exact noneEnds_set hnone _
  have key : LeavesThenEnds (.exitAxleForward k leg) s u k (s.legFrames k p leg ++ [.handoff frame]) :=
    LeavesThenEnds.of_offer hexec hoffered (s.kind_legFrames k p leg) FrameKind.noConfusion
      (hoffered.serving.trans huserving) huends
  have hset (w : State) (y : Slot) : (w.setSlot k { y.withNextFeed leg with zone := (s.slot k).zone.set i q }).setPassage k i
      { q with handoff := .sent s.nextHandoff } = w.setSlot k { y.withNextFeed leg with
        zone := (s.slot k).zone.set i { q with handoff := .sent s.nextHandoff } } := by
    unfold State.setPassage
    rw [State.slot_setSlot, State.setSlot_setSlot]
    dsimp only
    rw [List.set_set]
  let addContext (w : State) : State := { w with
    handoffs := s.handoffs ++ [({ number := s.nextHandoff, frame := frame, status := .pending .first none } : Handoff)]
    nextHandoff := s.nextHandoff + 1 }
  refine ⟨fun hpoint => ?_, fun hpoint => ?_⟩
  · have hu : u = sent s (s.slot k) := by
      have hchecked : s.legChecked k p leg = s := if_neg hpoint
      unfold u State.feedAdvanced
      rw [hchecked]
      exact congrArg addContext (hset s (s.slot k))
    rw [show s.legFrames k p leg = [] from if_neg hpoint, hu] at key
    exact key
  · have hu : u = sent (s.captureAlarm mismatch) ((s.slot k).takenOut .failed) := by
      have hchecked : s.legChecked k p leg = (s.captureAlarm mismatch).setSlot k ((s.slot k).takenOut .failed) :=
        if_pos hpoint
      obtain ⟨d, m, hcaptured⟩ := s.captureAlarm_eq_withOffers mismatch
      unfold u State.feedAdvanced
      rw [hchecked, State.slot_setSlot, State.setSlot_setSlot, hcaptured]
      exact congrArg addContext (hset (s.withOffers d m s.port.queue) ((s.slot k).takenOut .failed))
    rw [show s.legFrames k p leg = [s.reportOf mismatch] from if_pos hpoint, hu] at key
    exact key

end Sys2Proof.Machine
end

section
/-! SUPPORT. What the receiver's rules can touch in any state: their slot, and what reports touch (R98 to R104). -/

namespace Sys2Proof.Machine

/-- Between the states nothing but a slot has changed, and what reports touch; a frozen capture has kept its alarm. -/
def TouchesSlot (k : SlotIx) (s u : State) : Prop :=
  (∃ x, u.apartFromReports = (s.setSlot k x).apartFromReports) ∧ ∀ c, s.capture = some c → u.capture = some c

namespace TouchesSlot
variable {k : SlotIx} {s u v : State}

theorem of_same (hr : v.apartFromReports = s.apartFromReports) (hc : ∀ c, s.capture = some c → v.capture = some c) :
    TouchesSlot k s v := ⟨⟨s.slot k, by rw [State.setSlot_self]; exact hr⟩, hc⟩

theorem refl : TouchesSlot k s s := of_same rfl fun _ h => h

theorem of_setSlot (x : Slot) : TouchesSlot k s (s.setSlot k x) := ⟨⟨x, rfl⟩, fun _ h => h⟩

theorem trans (h : TouchesSlot k s u) (h' : TouchesSlot k u v) : TouchesSlot k s v := by
  obtain ⟨⟨x, hx⟩, hc⟩ := h
  obtain ⟨⟨y, hy⟩, hc'⟩ := h'
  refine ⟨⟨y, ?_⟩, fun c h => hc' c (hc c h)⟩
  rw [hy, State.apartFromReports_setSlot, hx, ← State.apartFromReports_setSlot, State.setSlot_setSlot]

theorem raise (s : State) (inc : Incident) : TouchesSlot k s (s.raise inc) := by
  obtain ⟨-, -, hcapture, -⟩ := (Sheds.refl s).raise inc
  exact of_same (State.apartFromReports_raise s inc) hcapture

theorem evaluateThrow (s : State) (k : SlotIx) : TouchesSlot k s (s.evaluateThrow k) := by
  unfold State.evaluateThrow
  split
  · exact refl
  · split
    · exact of_setSlot _
    · exact refl

theorem insertRecord (s : State) (k : SlotIx) (seq : Seq) (r : RecIx) : TouchesSlot k s (s.insertRecord k seq r) := by
  have hwritten (record : Record) (x : Slot) : TouchesSlot k s ((s.setRecord r record).setSlot k x) :=
    (of_same (v := s.setRecord r record) rfl fun _ h => h).trans (of_setSlot x)
  unfold State.insertRecord
  dsimp only
  split
  · exact (hwritten _ _).trans (evaluateThrow _ k)
  · exact hwritten _ _

theorem takeAnnounced (s : State) (k : SlotIx) (a : Announcement) : TouchesSlot k s (s.takeAnnounced k a).1 := by
  unfold State.takeAnnounced
  split
  · exact insertRecord s k a.seq _
  · split
    · exact refl
    · rename_i hallocate
      have hpool {i : RecIx} {u : State} (h : s.allocate = some (i, u)) : TouchesSlot k s (u.setRecord i a.contents.newRecord) := by
        unfold State.allocate at h
        split at h
        · exact absurd h nofun
        · obtain ⟨rfl, rfl⟩ := Prod.mk.inj (Option.some.inj h)
          exact of_same rfl fun _ hc => hc
      exact (hpool hallocate).trans (insertRecord _ k a.seq _)

theorem decideStray (s : State) (k : SlotIx) (r : RecIx) : TouchesSlot k s (s.decideStray k r) := by
  have hflagged (f : Flags) : TouchesSlot k s (s.addFlags r f) := of_same rfl fun _ h => h
  unfold State.decideStray
  split
  · exact refl
  · split
    · exact refl
    · exact (hflagged _).trans (raise _ _)

theorem adopt (s : State) (k : SlotIx) (n : Nat) (p : Passage) (a : Announcement) : TouchesSlot k s (s.adopt k n p a) := by
  have hwritten : TouchesSlot k s (s.writeAdoption k n p a) :=
    (of_same (v := s.setRecord p.record ((s.record p.record).adopt a.seq a.contents)) rfl fun _ h => h).trans
      (of_setSlot _)
  have hdiverted (u : State) : TouchesSlot k u (u.divertAdopted k p) := by
    unfold State.divertAdopted
    split
    · exact of_same rfl fun _ h => h
    · exact refl
  exact ((hwritten.trans (decideStray _ k _)).trans (hdiverted _)).trans (raise _ _)

theorem receiveAhead (s : State) (k : SlotIx) (a : Announcement) : TouchesSlot k s (s.receiveAhead k a).1 := by
  unfold State.receiveAhead
  split
  · exact refl
  · split
    · exact refl
    · exact takeAnnounced s k a

theorem receiveAnonymous (s : State) (k : SlotIx) (a : Announcement) : TouchesSlot k s (s.receiveAnonymous k a).1 := by
  unfold State.receiveAnonymous
  split
  · exact raise _ _
  · split
    · exact raise _ _
    · split
      · exact raise _ _
      · exact adopt s k _ _ a

theorem receiveBehind (s : State) (k : SlotIx) (a : Announcement) : TouchesSlot k s (s.receiveBehind k a).1 := by
  unfold State.receiveBehind
  split
  · exact raise _ _
  · split
    · split
      · exact refl
      · exact raise _ _
    · exact receiveAnonymous s k a

/-- R98 to R104: whatever the decision. -/
theorem receive (s : State) (k : SlotIx) (a : Announcement) : TouchesSlot k s (s.receive k a).1 := by
  unfold State.receive
  split
  · exact refl
  · split
    · exact refl
    · split
      · exact takeAnnounced s k a
      · split
        · exact receiveAhead s k a
        · exact receiveBehind s k a

end TouchesSlot

end Sys2Proof.Machine
end

section
/-! SUPPORT. Crest releases (R118 to R122): the released record is numbered, slot 0 decides on it by the receiver's
rules, and it is reported, and freed unless it has joined the queue. -/

namespace Sys2Proof.Machine

/-- R118, R124: what a release writes at its end, of crest passage and interval. -/
def State.afterCrest (s : State) (f : CrestPassage → CrestPassage) (g : Option Nat → Option Nat) : State :=
  { s with crestPassage := f s.crestPassage, releaseInterval := g s.releaseInterval }

theorem State.captureAlarm_afterCrest (s : State) (f : CrestPassage → CrestPassage) (g : Option Nat → Option Nat)
    (inc : Incident) : (s.afterCrest f g).captureAlarm inc = (s.captureAlarm inc).afterCrest f g := by
  unfold State.captureAlarm State.afterCrest
  dsimp only
  split <;> rfl

theorem State.evaluateThrow_afterCrest (s : State) (f : CrestPassage → CrestPassage) (g : Option Nat → Option Nat)
    (k : SlotIx) : (s.afterCrest f g).evaluateThrow k = (s.evaluateThrow k).afterCrest f g := by
  have hslot : (s.afterCrest f g).slot k = s.slot k := rfl
  have hwanted (r : RecIx) : (s.afterCrest f g).wantedLeg k r = s.wantedLeg k r := rfl
  unfold State.evaluateThrow
  rw [hslot]
  split
  · rfl
  · rw [hwanted]
    split <;> rfl

theorem State.endRelease_eq (s : State) (r : RecIx) (x : Receipt) : s.endRelease r x = s.afterReceipt r x := by
  cases x <;> rfl

section
variable {s m u : State} {r : RecIx} {frames : List OutFrame} (hm : Offered s m u frames)
  (hk : ∀ g ∈ frames, g.kind ≠ .holdState) (hs : m.serving = true)
include hm hk hs

/-- R118, R120: a release that slot 0 has not refused. -/
theorem Offered.sendRelease {x : Receipt} {w : State} {sends : List OutFrame}
    (hd : (u.numberRelease r).Decides 0 (crestAnnouncement r u.releaseCounter ((u.numberRelease r).record r)) x w sends)
    (hx : x.result.refuses = false) :
    Offered s (m.sendRelease r) (w.afterReceipt r x)
      (releasedFrame ((u.numberRelease r).record r) u.releaseCounter x :: (sends ++ frames)) := by
  have hcounter : m.releaseCounter = u.releaseCounter := by rw [hm.alike]; rfl
  have hnumbered := hm.map (fun y => y.numberRelease r) fun _ _ _ _ => rfl
  obtain ⟨t, hreceive, hoffered⟩ := hd.receives s (m.numberRelease r) frames hnumbered hk hs
  have hrelease : (m.numberRelease r).offerRelease r u.releaseCounter = (t, x) := by
    unfold State.offerRelease
    rw [hnumbered.record, hreceive]
    exact if_neg (by simp [hx])
  have hserving : t.serving = true := hoffered.serving.trans (hd.serving.trans (hnumbered.serving.symm.trans hs))
  have hbody : m.sendRelease r
      = (t.offerReport (releasedFrame ((u.numberRelease r).record r) u.releaseCounter x)).afterReceipt r x := by
    unfold State.sendRelease
    rw [hcounter, hrelease, hnumbered.record, State.endRelease_eq, State.offer_eq_offerReport _ _ rfl]
  rw [hbody]
  refine (hoffered.offerReport (List.forall_mem_append.mpr ⟨hd.kind, hk⟩) hserving _).map (fun y => y.afterReceipt r x)
    fun _ _ _ _ => ?_
  unfold State.afterReceipt
  split <;> rfl

/-- R118, R120, R129: a release that slot 0 has refused. -/
theorem Offered.sendRelease_refused {x : Receipt}
    (hd : (u.numberRelease r).Decides 0 (crestAnnouncement r u.releaseCounter ((u.numberRelease r).record r)) x
      (u.numberRelease r) []) (hx : x.result.refuses = true) :
    let n := u.numberRelease r
    let inc := n.releaseRefused r u.releaseCounter x.result
    Offered s (m.sendRelease r) ((State.captureAlarm { n with faultLatch := true } inc).afterReceipt r x)
      (releasedFrame (n.record r) u.releaseCounter x :: n.reportOf inc :: frames) := by
  intro n inc
  have hcounter : m.releaseCounter = u.releaseCounter := by rw [hm.alike]; rfl
  have hnumbered := hm.map (fun y => y.numberRelease r) fun _ _ _ _ => rfl
  obtain ⟨t, hreceive, hoffered⟩ := hd.receives s (m.numberRelease r) frames hnumbered hk hs
  have hserving : t.serving = true := hoffered.serving.trans (hd.serving.trans (hnumbered.serving.symm.trans hs))
  have hlatched := (hoffered.map (fun y => { y with faultLatch := true }) fun _ _ _ _ => rfl).raise_alarm hk hserving inc rfl
  have hinc : refusedIncident 0 (n.record r).tag 0 x.result (m.numberRelease r).cfg.node 0 u.releaseCounter = inc := by
    rw [hnumbered.alike]
    rfl
  have hrelease : (m.numberRelease r).offerRelease r u.releaseCounter
      = (State.raise { t with faultLatch := true } inc, x) := by
    unfold State.offerRelease
    rw [hnumbered.record, hreceive, ← hinc]
    exact (if_pos hx).trans rfl
  have hbody : m.sendRelease r
      = (State.offerReport (State.raise { t with faultLatch := true } inc)
          (releasedFrame (n.record r) u.releaseCounter x)).afterReceipt r x := by
    unfold State.sendRelease
    rw [hcounter, hrelease, hnumbered.record, State.endRelease_eq, State.offer_eq_offerReport _ _ rfl]
  rw [hbody]
  refine (hlatched.offerReport (List.forall_mem_cons.mpr ⟨?_, hk⟩) ?_ _).map (fun y => y.afterReceipt r x)
    fun _ _ _ _ => ?_
  · exact State.reportOf_kind n inc
  · exact hlatched.serving.trans ((State.captureAlarm_serving _ _).trans (hnumbered.serving.symm.trans hs))
  · unfold State.afterReceipt
    split <;> rfl

end

/-! ### What slot 0 decides (R120) -/

section
variable {n : State} {r : RecIx} {seq : Seq} {f : CrestPassage → CrestPassage} {g : Option Nat → Option Nat}
  {finishes : Receipt → State → List OutFrame → Prop} (hseq : (n.record r).feedSeq = some seq)
  (hdecided : ∀ x w sends, n.Decides 0 (crestAnnouncement r seq (n.record r)) x w sends → x.result.refuses = false →
    finishes x (w.afterCrest f g) sends)
  (hrefused : ∀ x, n.Decides 0 (crestAnnouncement r seq (n.record r)) x n [] → x.result.refuses = true →
    finishes x ((State.captureAlarm { n with faultLatch := true } (n.releaseRefused r seq x.result)).afterCrest f g)
      [n.reportOf (n.releaseRefused r seq x.result)])

theorem State.takenInto_eq_afterJoining (hseq : (n.record r).feedSeq = some seq) (e : Seq) (before after : List RecIx) :
    (n.takenInto 0 r (n.queuedRecord 0 seq (n.record r)) e before after).afterCrest f g
      = (n.afterCrest f g).afterJoining r e before after := by
  have hrecord : n.queuedRecord 0 seq (n.record r)
      = { n.record r with timing := some ⟨n.time, n.time + (n.slotCfg 0).overdueTime, false⟩ } := by
    unfold State.queuedRecord
    rw [← hseq]
    rfl
  unfold State.takenInto State.afterJoining
  rw [hrecord]
  dsimp only
  split
  · rw [← State.evaluateThrow_afterCrest]
    rfl
  · rfl

include hdecided in
theorem State.decidesBehind (hadmits : n.admits 0 .crest) : (n.afterCrest f g).DecidesBehind r seq finishes := by
  let a := crestAnnouncement r seq (n.record r)
  unfold State.DecidesBehind
  intro x c entry passage e he hd
  refine ⟨fun hr => ?_, fun hn => ?_, fun tag i b hr hn hb ht => ?_⟩
  · exact hdecided _ _ _ (State.decides_resend (a := a) hadmits he hd hr) rfl
  · have hlate := hdecided _ _ _ (State.decides_late (a := a) hadmits he hd hn) rfl
    rw [← State.captureAlarm_afterCrest] at hlate
    exact hlate
  · have hadopted := hdecided _ _ _ (State.decides_adopted (a := a) hadmits he hd hr hn hb ht) rfl
    rw [← State.captureAlarm_afterCrest] at hadopted
    exact hadopted

include hseq hdecided hrefused

theorem State.decidesAhead (hadmits : n.admits 0 .crest) : (n.afterCrest f g).DecidesAhead r seq finishes := by
  let a := crestAnnouncement r seq (n.record r)
  unfold State.DecidesAhead
  intro x e he hd
  refine ⟨fun hq => ?_, fun hn hl => ?_, fun before after hq hl hn hb ha => ?_⟩
  · exact hdecided _ _ _ (State.decides_queued (a := a) hadmits he hd hq) rfl
  · have hfull := hrefused _ (State.decides_full (a := a) hadmits he hd hn hl) rfl
    rw [← State.captureAlarm_afterCrest] at hfull
    exact hfull
  · have hapart : r ∉ (n.slot 0).queue := fun hr => hn r hr (congrArg (Option.getD · 0) hseq)
    rw [← State.takenInto_eq_afterJoining hseq]
    exact hdecided _ _ _ (State.decides_joined (a := a) hadmits rfl (Or.inr ⟨he, hd, hl, hn⟩) ⟨hq, hapart, hb, ha⟩) rfl

/-- R98 to R104, R120: slot 0 decides by the receiver's rules. -/
theorem State.decidesRelease : (n.afterCrest f g).DecidesRelease r seq finishes := by
  let a := crestAnnouncement r seq (n.record r)
  have hfed : (n.slotCfg 0).fedBy .crest = true ↔ (n.slotCfg 0).feedNode = 0 := beq_iff_eq
  unfold State.DecidesRelease
  intro x refuses
  refine ⟨fun h => ?_, fun hnode h => ?_, fun hnode hoff hsettling => ?_⟩
  · have hunfed := hrefused _ (State.decides_unfed (a := a) (h.imp_right fun h => Bool.eq_false_iff.mpr (mt hfed.mp h))) rfl
    rw [← State.captureAlarm_afterCrest] at hunfed
    exact hunfed
  · have hnotReady := hrefused _ (State.decides_settling (a := a) (hfed.mpr hnode) h) rfl
    rw [← State.captureAlarm_afterCrest] at hnotReady
    exact hnotReady
  · have hadmits : n.admits 0 .crest := ⟨hfed.mpr hnode, hoff, hsettling⟩
    refine ⟨fun he hq => ?_, State.decidesAhead hseq hdecided hrefused hadmits,
      State.decidesBehind hdecided hadmits⟩
    have hplaced : n.placed 0 seq seq r [] [] := ⟨hq, (congrArg (r ∉ ·) hq).mpr List.not_mem_nil, by simp, by simp⟩
    rw [← State.takenInto_eq_afterJoining hseq]
    exact hdecided _ _ _ (State.decides_joined (a := a) hadmits rfl (Or.inl ⟨he, rfl⟩) hplaced) rfl

end

/-! ### The overrun (R118, R122) -/

/-- R118, R122: a release under STOP. -/
def State.overrunNoted (s : State) (r : RecIx) (listEmpty : Bool) : State :=
  if s.signal = .stop then
    (s.addFlags r { overrun := true }).captureAlarm (crestOverrunIncident (s.record r).tag listEmpty s.releaseCounter)
  else s

/-- R122: the alarm of a release under STOP. -/
def State.overrunFrames (s : State) (r : RecIx) (listEmpty : Bool) : List OutFrame :=
  if s.signal = .stop then [s.reportOf (crestOverrunIncident (s.record r).tag listEmpty s.releaseCounter)] else []

theorem State.kind_overrunFrames (s : State) (r : RecIx) (listEmpty : Bool) :
    ∀ g ∈ s.overrunFrames r listEmpty, g.kind ≠ .holdState := by
  unfold State.overrunFrames
  split
  · exact s.kind_reportOf_ne_holdState _
  · exact List.forall_mem_nil _

theorem Offered.noteOverrun {s u : State} (hq : u.port.queue = s.port.queue) (hs : u.serving = true) (r : RecIx)
    (listEmpty : Bool) :
    Offered s (u.noteOverrun r listEmpty) (u.overrunNoted r listEmpty) (u.overrunFrames r listEmpty) := by
  unfold State.noteOverrun State.overrunNoted State.overrunFrames
  split
  · exact (Offered.of_queue (v := u.addFlags r { overrun := true }) hq).raise_alarm (by simp) hs _ rfl
  · exact Offered.of_queue hq

/-- R122: an empty capture takes the alarm. -/
theorem State.capture_noteOverrun {s : State} (hs : s.signal = .stop) (hc : s.capture = none) (r : RecIx) (listEmpty : Bool) :
    (s.noteOverrun r listEmpty).capture
      = some ⟨crestOverrunIncident (s.record r).tag listEmpty s.releaseCounter, s.time⟩ := by
  unfold State.noteOverrun
  rw [if_pos hs]
  exact State.capture_raise_alarm_of_none (s := s.addFlags r { overrun := true }) hc rfl

/-! ### What holds after any release -/

/-- A command whose body is known: what the rest of the command leaves of it. -/
theorem exec_settles {c : Instr} {s body : State} (hexec : exec c s = finish s body) :
    ∃ t, exec c s = .next t ∧ t.apartFromReports = body.apartFromReports ∧ Sheds body t :=
  ⟨s.settle body, hexec, State.apartFromReports_settle s body, (Sheds.refl body).settle s⟩

theorem TouchesSlot.sendRelease (m : State) (r : RecIx) :
    TouchesSlot 0 (m.numberRelease r) (m.sendRelease r) := by
  have hoffered : TouchesSlot 0 (m.numberRelease r) ((m.numberRelease r).offerRelease r m.releaseCounter).1 := by
    have hreceived := receive (m.numberRelease r) 0 (crestAnnouncement r m.releaseCounter ((m.numberRelease r).record r))
    have hlatched (y : State) : TouchesSlot 0 y { y with faultLatch := true } := of_same rfl fun _ h => h
    unfold State.offerRelease
    dsimp only
    split
    · exact (hreceived.trans (hlatched _)).trans (raise _ _)
    · exact hreceived
  have hreported (y : State) (f : OutFrame) : TouchesSlot 0 y (y.offer f none) := by
    obtain ⟨-, -, hcapture, -⟩ := (Sheds.refl y).offer f none
    exact of_same (State.apartFromReports_offer y f none) hcapture
  have hended (y : State) (x : Receipt) : TouchesSlot 0 y (y.endRelease r x) := by
    rw [State.endRelease_eq]
    unfold State.afterReceipt
    split
    · exact refl
    · exact of_same rfl fun _ h => h
  exact (hoffered.trans (hreported _ _)).trans (hended _ _)

theorem State.slot_of_reports {s u : State} (h : s.apartFromReports = u.apartFromReports) (k : SlotIx) :
    (s.slot k).apartFromTimer = (u.slot k).apartFromTimer := by
  have hslot (y : State) : y.apartFromReports.slot k = (y.slot k).apartFromTimer := Vector.getElem_map _ _
  rw [← hslot, ← hslot, h]

/-- R12: a record in the cut list is in no wait list entry. -/
theorem PoolLaw.cut_not_waiting {s : State} (h : PoolLaw s) {r : RecIx} (hr : r ∈ s.cutList) :
    ∀ e ∈ s.waitList, e.record ≠ r := by
  intro e he her
  have hone := Pooled.count (held := []) h r
  have hcut := List.one_le_count_iff.mpr hr
  have hwaits := List.one_le_count_iff.mpr (List.mem_map.mpr ⟨e, he, her⟩ : r ∈ s.waitList.map WaitEntry.record)
  omega

/-- What follows from each decision follows from the release. -/
theorem State.DecidesRelease.imp {s : State} {r : RecIx} {seq : Seq} {claims proves : Receipt → State → List OutFrame → Prop}
    (h : s.DecidesRelease r seq claims) (hc : ∀ x w sends, claims x w sends → proves x w sends) :
    s.DecidesRelease r seq proves := by
  obtain ⟨hunfed, hnotReady, hfed⟩ := h
  refine ⟨fun h => hc _ _ _ (hunfed h), fun hn hs => hc _ _ _ (hnotReady hn hs), fun hn ho hs => ?_⟩
  obtain ⟨hunsynced, hahead, hbehind⟩ := hfed hn ho hs
  refine ⟨fun he hq => hc _ _ _ (hunsynced he hq), fun e he hd => ?_, fun e he hd => ?_⟩
  · obtain ⟨hdup, hfull, hjoins⟩ := hahead e he hd
    exact ⟨fun hq => hc _ _ _ (hdup hq), fun hn hl => hc _ _ _ (hfull hn hl),
      fun before after hq hl hn hb ha => hc _ _ _ (hjoins before after hq hl hn hb ha)⟩
  · obtain ⟨hresend, hlate, hadopted⟩ := hbehind e he hd
    exact ⟨fun hr => hc _ _ _ (hresend hr), fun hn => hc _ _ _ (hlate hn),
      fun tag n a hr hn ha ht => hc _ _ _ (hadopted tag n a hr hn ha ht)⟩

/-! ### A record at the tail of the queue (R101) -/

theorem State.kept_evaluateThrow (s : State) (k : SlotIx) :
    ((s.evaluateThrow k).slot k).queue = (s.slot k).queue ∧ ((s.evaluateThrow k).slot k).expected = (s.slot k).expected
      ∧ ((s.evaluateThrow k).slot k).zone = (s.slot k).zone ∧ ((s.evaluateThrow k).slot k).recent = (s.slot k).recent
      ∧ (∀ i, (s.evaluateThrow k).record i = s.record i) ∧ (s.evaluateThrow k).waitList = s.waitList := by
  cases hq : (s.slot k).queue with
  | nil =>
    rw [State.evaluateThrow_of_empty hq]
    exact ⟨hq, rfl, rfl, rfl, fun _ => rfl, rfl⟩
  | cons r rest =>
    by_cases h : (s.slot k).mayThrow (s.wantedLeg k r)
    · rw [State.evaluateThrow_of_mayThrow hq h, State.slot_setSlot]
      exact ⟨hq, rfl, rfl, rfl, fun _ => rfl, rfl⟩
    · rw [State.evaluateThrow_of_not_mayThrow hq h]
      exact ⟨hq, rfl, rfl, rfl, fun _ => rfl, rfl⟩

/-- R15, R21: what stands in slot 0 and in the record that has joined its queue. -/
theorem State.kept_afterJoining (s : State) (r : RecIx) (e : Seq) (before after : List RecIx) :
    let t := s.afterJoining r e before after
    (t.slot 0).queue = before ++ r :: after ∧ (t.slot 0).expected = some e ∧ (t.slot 0).zone = (s.slot 0).zone
      ∧ (t.slot 0).recent = (s.slot 0).recent
      ∧ t.record r = { s.record r with timing := some ⟨s.time, s.time + (s.slotCfg 0).overdueTime, false⟩ }
      ∧ t.waitList = s.waitList := by
  let u := (s.setRecord r { s.record r with
    timing := some ⟨s.time, s.time + (s.slotCfg 0).overdueTime, false⟩ }).setSlot 0
      { s.slot 0 with expected := some e, queue := before ++ r :: after }
  have hslot : u.slot 0 = { s.slot 0 with expected := some e, queue := before ++ r :: after } := State.slot_setSlot _ 0 _
  have hrecord : u.record r = _ := State.record_setRecord s r _
  intro t
  have ht : t = if before = [] then u.evaluateThrow 0 else u := rfl
  by_cases hb : before = []
  · rw [if_pos hb] at ht
    obtain ⟨hq, he, hz, hl, hi, hw⟩ := u.kept_evaluateThrow 0
    rw [ht, hq, he, hz, hl, hi, hw, hslot]
    exact ⟨rfl, rfl, rfl, rfl, hrecord, rfl⟩
  · rw [if_neg hb] at ht
    rw [ht, hslot]
    exact ⟨rfl, rfl, rfl, rfl, hrecord, rfl⟩

/-- R101: the released record belongs at the tail of the queue of slot 0. -/
def State.tailOpen (s : State) (r : RecIx) (seq : Seq) : Prop :=
  (s.slotCfg 0).feedNode = 0 ∧ (s.slot 0).service ≠ .off ∧ (s.slot 0).service ≠ .settling
    ∧ (s.slot 0).queue.length < 6 ∧ r ∉ (s.slot 0).queue
    ∧ ((s.slot 0).expected = none ∧ (s.slot 0).queue = []
      ∨ ∃ e, (s.slot 0).expected = some e ∧ distance e seq < 128
          ∧ ∀ i ∈ (s.slot 0).queue, distance e (s.queuedSeq i) < distance e seq)

theorem State.DecidesRelease.at_tail {s : State} {r : RecIx} {seq : Seq} {finishes : Receipt → State → List OutFrame → Prop}
    (h : s.DecidesRelease r seq finishes) (ht : s.tailOpen r seq) :
    finishes .queued (s.afterJoining r ((s.slot 0).expected.getD seq) (s.slot 0).queue []) [] := by
  obtain ⟨hnode, hoff, hsettling, hl, hr, hplace⟩ := ht
  obtain ⟨-, -, hfed⟩ := h
  obtain ⟨hunsynced, hahead, -⟩ := hfed hnode hoff hsettling
  rcases hplace with ⟨he, hq⟩ | ⟨e, he, hd, hb⟩
  · rw [he, hq]
    exact hunsynced he hq
  · obtain ⟨-, -, hjoins⟩ := hahead e he hd
    rw [he]
    refine hjoins _ [] (List.append_nil _).symm hl (fun i hi hseq => ?_) hb (by simp)
    exact absurd (hb i hi) (by rw [hseq]; exact lt_irrefl _)

section
variable {s body t out : State} {r : RecIx} {sends : List OutFrame}
  (hbody : t.apartFromReports = body.apartFromReports) (hsheds : Sheds body t)
include hbody hsheds

/-- R101: what the command leaves of a release that has joined the tail of the queue. -/
theorem State.left_of_joined {e : Seq} (h : Offered s body (out.afterJoining r e (out.slot 0).queue []) sends) :
    (t.slot 0).queue = (out.slot 0).queue ++ [r] ∧ (t.slot 0).expected = some e ∧ (t.slot 0).zone = (out.slot 0).zone
      ∧ (t.slot 0).recent = (out.slot 0).recent
      ∧ ((∀ w ∈ out.waitList, w.record ≠ r) → t.record r
        = { out.record r with timing := some ⟨out.time, out.time + (out.slotCfg 0).overdueTime, false⟩ }) := by
  obtain ⟨hreports, -⟩ := h.reported
  have hslot := State.slot_of_reports (hbody.trans hreports) 0
  obtain ⟨hq, he, hz, hl, hrecord, hw⟩ := out.kept_afterJoining r e (out.slot 0).queue []
  refine ⟨(congrArg Slot.queue hslot :).trans hq, (congrArg Slot.expected hslot :).trans he,
    (congrArg Slot.zone hslot :).trans hz, (congrArg Slot.recent hslot :).trans hl, fun hwaits => ?_⟩
  have hwait : body.waitList = out.waitList := by
    rw [h.alike]
    exact hw
  exact (hsheds.record (by rw [hwait]; exact hwaits)).trans ((h.record r).trans hrecord)

/-- R120, R129: what the command leaves of a release that has been refused. -/
theorem State.left_of_refused {inc : Incident}
    (h : Offered s body ((State.captureAlarm { out with faultLatch := true } inc).freeRecord r) sends) :
    (t.slot 0).apartFromTimer = (out.slot 0).apartFromTimer ∧ t.faultLatch = true ∧ t.record r = Record.blank
      ∧ r ∈ t.free := by
  obtain ⟨hreports, -⟩ := h.reported
  obtain ⟨hprefix, -, -, hlatch, -⟩ := id hsheds
  have hslot := State.slot_of_reports (hbody.trans hreports) 0
  have hlatched : body.faultLatch = true := by
    rw [h.alike]
    exact State.faultLatch_captureAlarm _ _
  refine ⟨hslot.trans (congrArg Slot.apartFromTimer (State.slot_captureAlarm _ _ 0)), hlatch hlatched, ?_, ?_⟩
  · exact hsheds.blank ((h.record r).trans (State.record_setRecord _ r _))
  · refine hprefix.subset ?_
    rw [h.alike]
    exact List.mem_append_right _ (List.mem_singleton.mpr rfl)

end

/-! ### A release as a whole -/

section
variable {s m u out : State} {r : RecIx} {frames : List OutFrame} {f : CrestPassage → CrestPassage}
  {g : Option Nat → Option Nat} (hexec : exec .crestAxle s = finish s ((m.sendRelease r).afterCrest f g))
  (hm : Offered s m u frames) (hk : ∀ g ∈ frames, g.kind ≠ .holdState) (hs : m.serving = true)
  (hout : (u.numberRelease r).afterCrest f g = out)

include hm hk hs hout

/-- R118, R120: what the release leaves and offers, by slot 0's decision. -/
theorem State.decidesRelease_offered : out.DecidesRelease r u.releaseCounter (fun x w sends =>
    Offered s ((m.sendRelease r).afterCrest f g) (w.afterReceipt r x)
      (releasedFrame (out.record r) u.releaseCounter x :: (sends ++ frames))
    ∧ ∀ g ∈ sends, g.kind ≠ .holdState) := by
  have hended (w : State) (x : Receipt) : (w.afterCrest f g).afterReceipt r x = (w.afterReceipt r x).afterCrest f g := by
    unfold State.afterReceipt
    split <;> rfl
  have hseq : ((u.numberRelease r).record r).feedSeq = some u.releaseCounter :=
    congrArg Record.feedSeq (State.record_setRecord u r _)
  subst hout
  refine State.decidesRelease hseq (fun x w sends hd hx => ⟨?_, hd.kind⟩) (fun x hd hx => ⟨?_, State.kind_reportOf_ne_holdState _ _⟩)
  · rw [hended]
    exact (Offered.sendRelease hm hk hs hd hx).map (fun y => y.afterCrest f g) fun _ _ _ _ => rfl
  · rw [hended]
    exact (Offered.sendRelease_refused hm hk hs hd hx).map (fun y => y.afterCrest f g) fun _ _ _ _ => rfl

include hexec

/-- How the claims of a release are shown, by slot 0's decision. -/
theorem State.decidesRelease_leaves : out.DecidesRelease r u.releaseCounter (fun x w sends =>
    Leaves .crestAxle s (w.afterReceipt r x)
      (frames ++ sends ++ [releasedFrame (out.record r) u.releaseCounter x])) := by
  refine (State.decidesRelease_offered hm hk hs hout).imp fun x w sends h => ?_
  obtain ⟨hoffered, hsends⟩ := h
  have hkind := (List.forall_mem_append (p := fun g : OutFrame => g.kind ≠ .holdState)).mpr ⟨hsends, hk⟩
  refine (Leaves.of_reported hexec hoffered.reported (List.forall_mem_cons.mpr ⟨FrameKind.noConfusion, hkind⟩)).perm ?_
  exact (List.perm_append_comm.cons _).trans (List.perm_append_singleton _ _).symm

omit hk hs in
/-- What holds after any release: it changes what its own steps do, slot 0, and what reports touch. -/
theorem exec_of_release : ∃ t, exec .crestAxle s = .next t ∧ Sheds ((m.sendRelease r).afterCrest f g) t
    ∧ (∃ x, t.apartFromReports = (out.setSlot 0 x).apartFromReports)
    ∧ t.apartFromReports = ((m.sendRelease r).afterCrest f g).apartFromReports
    ∧ ∀ c, m.capture = some c → t.capture = some c := by
  obtain ⟨t, ht, hreports, hsheds⟩ := exec_settles hexec
  obtain ⟨⟨x, hx⟩, hcapture⟩ := TouchesSlot.sendRelease m r
  obtain ⟨-, -, hfrozen, -⟩ := id hsheds
  refine ⟨t, ht, hsheds, ⟨x, ?_⟩, hreports, fun c hc => hfrozen c (hcapture c hc)⟩
  have hnumbered := hm.map (fun y => y.numberRelease r) fun _ _ _ _ => rfl
  have hfrom : (m.numberRelease r).apartFromReports = (u.numberRelease r).apartFromReports := by
    rw [hnumbered.alike]
    rfl
  have hwrite (y z : State) (h : y.apartFromReports = z.apartFromReports) :
      (y.afterCrest f g).apartFromReports = (z.afterCrest f g).apartFromReports := congrArg (fun w => w.afterCrest f g) h
  rw [hreports, ← hout]
  refine (hwrite _ _ hx).trans (hwrite _ ((u.numberRelease r).setSlot 0 x) ?_)
  rw [State.apartFromReports_setSlot, hfrom, ← State.apartFromReports_setSlot]

end

end Sys2Proof.Machine
end

section
/-! SUPPORT. The release of the head of the cut list (R116, R118, R120 to R122). -/

namespace Sys2Proof.Machine

/-- R118: the head has left the cut list, translated by the closure table. -/
def State.headTaken (s : State) (r : RecIx) (rest : List RecIx) : State :=
  State.setRecord { s with cutList := rest } r (s.translate (s.record r))

/-- R118: what a release lifts. -/
def State.uninspected (s : State) (r : RecIx) : State := s.setRecord r { s.record r with inspect := false }

/-- R116 to R119, R122: a released record, with OVERRUN as it applies. -/
def Record.releasedAs (r : Record) (overrun : Bool) (seq : Seq) : Record :=
  { r.flagged { overrun := overrun } with inspect := false, feedSeq := some seq }

theorem Record.flagged_nothing (r : Record) : r.flagged { overrun := false } = r := by
  obtain ⟨_, _, _, _, _, _, flags, _, _, _⟩ := r
  cases flags
  simp [Record.flagged, Flags.union]

theorem State.captureAlarm_setCut (s : State) (r : RecIx) (x : Record) (rest : List RecIx) (inc : Incident) :
    (State.setRecord { s with cutList := rest } r x).captureAlarm inc
      = { (s.captureAlarm inc).setRecord r x with cutList := rest } := by
  unfold State.captureAlarm
  dsimp only [State.setRecord]
  split <;> rfl

/-- R118: a record is written last as a release leaves it. -/
theorem State.numberRelease_setCut (s : State) (r : RecIx) (x : Record) (rest : List RecIx) :
    (State.uninspected { s.setRecord r x with cutList := rest } r).numberRelease r
      = { s.setRecord r { x with inspect := false, feedSeq := some s.releaseCounter } with
        cutList := rest
        releaseCounter := s.releaseCounter + 1 } := by
  have hrecord : ({ s.setRecord r x with cutList := rest } : State).record r = x := State.record_setRecord s r x
  unfold State.uninspected
  rw [hrecord]
  have hset (y z : Record) : State.setRecord (State.setRecord { s.setRecord r x with cutList := rest } r y) r z
      = { s.setRecord r z with cutList := rest } := by
    rw [State.setRecord_setRecord]
    exact congrArg (fun w : State => { w with cutList := rest }) (State.setRecord_setRecord s r x z)
  unfold State.numberRelease
  rw [State.record_setRecord, hset]
  rfl

/-- The state in which slot 0 decides on a released head. -/
theorem State.numberRelease_headTaken (s : State) (r : RecIx) (rest : List RecIx) :
    (((s.headTaken r rest).overrunNoted r false).uninspected r).numberRelease r
      = { (if s.signal = .stop then
            s.captureAlarm (crestOverrunIncident (s.translate (s.record r)).tag false s.releaseCounter)
          else s).setRecord r ((s.translate (s.record r)).releasedAs (decide (s.signal = .stop)) s.releaseCounter) with
        cutList := rest
        releaseCounter := s.releaseCounter + 1 } := by
  have hrecord : (s.headTaken r rest).record r = s.translate (s.record r) := State.record_setRecord _ r _
  have hsignal : (s.headTaken r rest).signal = s.signal := rfl
  have hcounter : (s.headTaken r rest).releaseCounter = s.releaseCounter := rfl
  unfold State.overrunNoted Record.releasedAs
  rw [hsignal]
  by_cases h : s.signal = .stop
  · obtain ⟨c, n, halarm⟩ := s.captureAlarm_eq_withOffers
      (crestOverrunIncident (s.translate (s.record r)).tag false s.releaseCounter)
    rw [if_pos h, if_pos h, hrecord, hcounter, decide_eq_true h]
    unfold State.addFlags
    rw [hrecord]
    unfold State.headTaken
    rw [State.setRecord_setRecord, State.captureAlarm_setCut, State.numberRelease_setCut, halarm]
    rfl
  · rw [if_neg h, if_neg h, decide_eq_false h, Record.flagged_nothing]
    exact State.numberRelease_setCut s r _ rest

/-- R113, R116: the translation in the closure table's words. -/
theorem State.translate_eq (s : State) (r : Record) : s.translate r
    = match s.closures.find? (fun c => c.track == r.destination) with
      | none => r
      | some c => { r.flagged { translated := true } with
          destination := if c.substitute ∈ s.closures.map Closure.track then s.cfg.rejectTrack else c.substitute
          originalDestination := some r.destination } := by
  have hfind : s.closures.find? (fun c => c.track == r.destination) = s.closure? r.destination := rfl
  rw [hfind]
  unfold State.translate
  cases s.closure? r.destination with
  | none => rfl
  | some c =>
    have hsub := if_congr (s.isClosed_iff c.substitute) (rfl : s.cfg.rejectTrack = _) (rfl : c.substitute = _)
    exact congrArg (fun d => Record.mk r.tag d (some r.destination) r.expectedAxles r.cutClass r.inspect
      (r.flags.union { translated := true }) r.feedSeq r.companion r.timing) hsub

theorem State.tag_translate (s : State) (r : Record) : (s.translate r).tag = r.tag := by
  unfold State.translate
  split <;> rfl

section
variable {s : State} {r : RecIx} {rest : List RecIx} (hs : s.nodeState = .inService) (hr : s.cfg.role = .crest)
  (hp : s.crestPassage.phase = .idle) (hc : s.cutList = r :: rest)
include hs hr hp hc

/-- R118: the head's release, as far as slot 0's decision. -/
theorem execCrestAxle_of_head : ∃ m, exec .crestAxle s = finish s ((m.sendRelease r).afterCrest
      (fun _ => ⟨.releasing, (s.record r).expectedAxles - 1, (s.record r).cutClass⟩) id)
    ∧ Offered s m (((s.headTaken r rest).overrunNoted r false).uninspected r) ((s.headTaken r rest).overrunFrames r false)
    ∧ (s.signal = .stop → s.capture = none →
      m.capture = some ⟨crestOverrunIncident (s.record r).tag false s.releaseCounter, s.time⟩) := by
  have hserving : s.serving = true := beq_iff_eq.mpr hs
  refine ⟨((s.headTaken r rest).noteOverrun r false).uninspected r, ?_, ?_, fun hstop hempty => ?_⟩
  · refine (if_pos ((State.crestServing_iff hs).mpr hr)).trans (congrArg (finish s) ?_)
    unfold State.crestAxle
    rw [hp, hc]
    rfl
  · exact (Offered.noteOverrun (s := s) (u := s.headTaken r rest) rfl hserving r false).map (fun y => y.uninspected r)
      fun _ _ _ _ => rfl
  · have htag : ((s.headTaken r rest).record r).tag = (s.record r).tag :=
      (congrArg Record.tag (State.record_setRecord _ r _)).trans (s.tag_translate _)
    rw [← htag]
    exact State.capture_noteOverrun (s := s.headTaken r rest) hstop hempty r false

end

theorem State.reports_overrunNoted (s : State) (r : RecIx) (listEmpty : Bool) :
    (s.overrunNoted r listEmpty).apartFromReports = s.apartFromReports := by
  unfold State.overrunNoted
  split
  · exact State.apartFromReports_captureAlarm _ _
  · rfl

/-- Settles O50: slot 0 decides in the state `out` by the receiver's rules; what holds of every release, and of the two
cases written out, is read off the state that its decision leaves. -/
theorem crestAxleReleasesTheHead : Obligations.CrestAxleReleasesTheHead := by
  unfold Obligations.CrestAxleReleasesTheHead
  intro s r rest hs hr hp hc entered overrun translated released frame inc out
  obtain ⟨m, hexec, hm, hfreezes⟩ := execCrestAxle_of_head hs hr hp hc
  have htranslated : s.translate entered = translated := s.translate_eq entered
  have htag : translated.tag = entered.tag := htranslated ▸ s.tag_translate entered
  have hframes : (s.headTaken r rest).overrunFrames r false = if overrun then [s.reportOf inc] else [] := by
    have hrecord : (s.headTaken r rest).record r = translated := (State.record_setRecord _ r _).trans htranslated
    unfold State.overrunFrames
    rw [hrecord, htag]
    exact if_congr decide_eq_true_iff.symm rfl rfl
  let f : CrestPassage → CrestPassage := fun _ => ⟨.releasing, entered.expectedAxles - 1, entered.cutClass⟩
  have hkind := (s.headTaken r rest).kind_overrunFrames r false
  have hnumber := s.numberRelease_headTaken r rest
  have hkept := (s.headTaken r rest).reports_overrunNoted r false
  have hcounter : (((s.headTaken r rest).overrunNoted r false).uninspected r).releaseCounter = s.releaseCounter :=
    (congrArg State.releaseCounter hkept :)
  have hnode : (((s.headTaken r rest).overrunNoted r false).uninspected r).nodeState = s.nodeState :=
    (congrArg State.nodeState hkept :)
  generalize ((s.headTaken r rest).overrunNoted r false).uninspected r = u at hm hnumber hcounter hnode
  have hserving : m.serving = true := hm.serving.trans (beq_iff_eq.mpr (hnode.trans hs))
  have hout : (u.numberRelease r).afterCrest f id = out := by
    rw [hnumber, show s.translate (s.record r) = translated from htranslated, htag]
    have hstart : (if s.signal = .stop then s.captureAlarm inc else s) = if overrun then s.captureAlarm inc else s :=
      if_congr decide_eq_true_iff.symm rfl rfl
    exact congrArg (fun y : State => { y.setRecord r released with
      cutList := rest
      releaseCounter := s.releaseCounter + 1
      crestPassage := ⟨.releasing, entered.expectedAxles - 1, entered.cutClass⟩ }) hstart
  have hrecord : out.record r = released := State.record_setRecord (if overrun then s.captureAlarm inc else s) r released
  have hleaves := State.decidesRelease_leaves hexec hm hkind hserving hout
  have hoffered := State.decidesRelease_offered (f := f) (g := id) hm hkind hserving hout
  rw [hcounter, hrecord, hframes] at hleaves hoffered
  refine ⟨hleaves, ?_⟩
  obtain ⟨t, ht, hsheds, ⟨x, hx⟩, hbody, hcapture⟩ := exec_of_release hexec hm hout
  let taken : State := { s with
    cutList := rest
    releaseCounter := s.releaseCounter + 1
    crestPassage := ⟨.releasing, entered.expectedAxles - 1, entered.cutClass⟩ }
  obtain ⟨c, n, hform⟩ : ∃ c n, out = (taken.setRecord r released).withOffers c n s.port.queue := by
    obtain ⟨c, n, hcaptured⟩ := s.captureAlarm_eq_withOffers inc
    cases hover : overrun with
    | true => exact ⟨c, n, by unfold out; rw [hover, if_pos rfl, hcaptured]; rfl⟩
    | false => exact ⟨s.capture, s.furtherAlarms, by unfold out; rw [hover, if_neg Bool.false_ne_true]; rfl⟩
  have hreports : t.apartFromReports = (taken.setSlot 0 x).apartFromReports := by
    rw [hx, State.apartFromReports_setSlot, hform, State.apartFromReports_setSlot]
    rfl
  have hothers (k : SlotIx) (hk : k ≠ 0) : (t.slot k).apartFromTimer = (s.slot k).apartFromTimer := by
    rw [State.slot_of_reports hreports, State.slot_setSlot_of_ne _ _ _ _ hk]
    rfl
  have hslot : out.slot 0 = s.slot 0 := by rw [hform]; rfl
  have hslotCfg : out.slotCfg 0 = s.slotCfg 0 := by rw [hform]; rfl
  have hwait : out.waitList = s.waitList := by rw [hform]; rfl
  have htime : out.time = s.time := by rw [hform]; rfl
  have hqueued (i : RecIx) (hi : i ≠ r) : out.queuedSeq i = s.queuedSeq i := by
    have hsame : (taken.setRecord r released).record i = s.record i := by
      rw [State.record_setRecord_eq_ite, if_neg hi]
      rfl
    rw [hform]
    exact congrArg (fun z => z.feedSeq.getD 0) hsame
  have hoverrun : (if overrun then [s.reportOf inc] else []).length ≤ 1 := by split <;> simp
  clear_value out
  refine ⟨t, ht, (congrArg State.cutList hreports :), (congrArg State.releaseCounter hreports :),
    (congrArg State.crestPassage hreports :), (congrArg State.releaseInterval hreports :),
    (congrArg State.closures hreports :), (congrArg State.roster hreports :), (congrArg State.config hreports :),
    (congrArg State.watches hreports :), (congrArg State.time hreports :), hothers,
    fun hstop hempty => hcapture _ (hfreezes hstop hempty), fun hnode hoff hsettling hl hplace hapart => ?tail,
    fun hnode => ?unfed⟩
  case tail =>
    have htail : out.tailOpen r s.releaseCounter := by
      unfold State.tailOpen
      rw [hslotCfg, hslot]
      refine ⟨hnode, hoff, hsettling, hl, hapart, hplace.imp_right fun ⟨e, he, hd, hb⟩ => ⟨e, he, hd, fun i hi => ?_⟩⟩
      rw [hqueued i (by rintro rfl; exact hapart hi)]
      exact hb i hi
    obtain ⟨hjoined, -⟩ := hoffered.at_tail htail
    obtain ⟨hq, he, hz, hrecent, hrec⟩ := State.left_of_joined hbody hsheds hjoined
    rw [hslot] at hq he hz hrecent
    rw [hrecord, htime, hslotCfg, hwait] at hrec
    refine ⟨hq, he, hz, hrecent,
      fun hpool => hrec (hpool.cut_not_waiting (by rw [hc]; exact List.mem_cons_self)), fun hroom => ?_⟩
    obtain ⟨t', ht', -, hsent⟩ := hleaves.at_tail htail
    obtain rfl : t' = t := Host.Outcome.next.inj (ht'.symm.trans ht)
    obtain ⟨-, hholds, -⟩ := hsent (State.hasRoom_mono (by simp; omega) hroom)
    exact hholds _ (List.mem_append_right _ (List.mem_singleton.mpr rfl))
  case unfed =>
    have hunfed : (out.slot 0).service = .off ∨ (out.slotCfg 0).feedNode ≠ 0 := .inr (by rw [hslotCfg]; exact hnode)
    obtain ⟨hrefuses, -⟩ := hoffered
    obtain ⟨hrefused, -⟩ := hrefuses hunfed
    obtain ⟨hkept, hlatch, hblank, hfree⟩ := State.left_of_refused hbody hsheds hrefused
    rw [hslot] at hkept
    refine ⟨hkept, hlatch, fun _ => ⟨hblank, hfree⟩, fun hroom => ?_⟩
    obtain ⟨hreports, -⟩ := hleaves
    obtain ⟨t', ht', -, hsent⟩ := hreports hunfed
    obtain rfl : t' = t := Host.Outcome.next.inj (ht'.symm.trans ht)
    obtain ⟨-, hholds, -⟩ := hsent (State.hasRoom_mono (by simp; omega) hroom)
    exact hholds _ (List.mem_append_right _ (List.mem_singleton.mpr rfl))

end Sys2Proof.Machine
end

section
/-! SUPPORT. The anonymous release (R119, R120 to R124): a blank record released under STOP, completed at once. -/

namespace Sys2Proof.Machine

theorem Record.flagged_blank (f : Flags) : Record.blank.flagged f = { Record.blank with flags := f } := by
  cases f
  rfl

section
variable {s : State} {c : CrestConfig} {r : RecIx} {free : List RecIx} (hs : s.nodeState = .inService)
  (hr : s.cfg.role = .crest) (hcfg : s.cfg.crest = some c) (hp : s.crestPassage.phase = .idle) (hc : s.cutList = [])
  (hstop : s.signal = .stop) (hf : s.free = r :: free) (hblank : s.record r = Record.blank)
include hs hr hcfg hp hc hstop hf hblank

/-- R119, R124: the anonymous release, as far as slot 0's decision, and its completion. -/
theorem execCrestAxle_of_empty : ∃ m, exec .crestAxle s = finish s ((m.sendRelease r).afterCrest (fun _ => ⟨.idle, 0, 0⟩)
      (fun _ => if c.intervals.getD 0 0 = 0 then none else some (s.time + 100 * c.intervals.getD 0 0)))
    ∧ Offered s m (State.overrunNoted { s with free := free } r true)
        [s.reportOf (crestOverrunIncident 0 true s.releaseCounter)]
    ∧ (s.capture = none → m.capture = some ⟨crestOverrunIncident 0 true s.releaseCounter, s.time⟩) := by
  let s' : State := { s with free := free }
  let m := s'.noteOverrun r true
  have hserving : s.serving = true := beq_iff_eq.mpr hs
  have htag : (s'.record r).tag = 0 := congrArg Record.tag hblank
  have hframes : s'.overrunFrames r true = [s.reportOf (crestOverrunIncident 0 true s.releaseCounter)] := by
    unfold State.overrunFrames
    rw [htag]
    exact if_pos hstop
  have hbody : s.crestAxle = (m.sendRelease r).completeRelease 0 := by
    unfold State.crestAxle
    rw [hp, hc]
    dsimp only
    unfold State.releaseAnonymous State.allocate
    rw [hf]
  have hcapture (hempty : s.capture = none) : m.capture = some ⟨crestOverrunIncident 0 true s.releaseCounter, s.time⟩ := by
    rw [← htag]
    exact State.capture_noteOverrun (s := s') hstop hempty r true
  have hexec : exec .crestAxle s = finish s s.crestAxle := if_pos ((State.crestServing_iff hs).mpr hr)
  have hoffered : Offered s m (s'.overrunNoted r true) [s.reportOf (crestOverrunIncident 0 true s.releaseCounter)] := by
    rw [← hframes]
    exact Offered.noteOverrun (s := s) (u := s') rfl hserving r true
  clear_value m
  obtain ⟨hsame, -⟩ := hoffered.reported
  have hreports : m.apartFromReports = s'.apartFromReports := hsame.trans (s'.reports_overrunNoted r true)
  obtain ⟨⟨x, hx⟩, -⟩ := TouchesSlot.sendRelease m r
  have hcut : (m.sendRelease r).cutList = [] :=
    (congrArg State.cutList hx :).trans ((congrArg State.cutList hreports :).trans hc)
  have hcrest : (m.sendRelease r).cfg.crest = some c :=
    (congrArg (fun y => y.cfg.crest) hx :).trans ((congrArg (fun y => y.cfg.crest) hreports :).trans hcfg)
  have htime : (m.sendRelease r).time = s.time := (congrArg State.time hx :).trans (congrArg State.time hreports :)
  have hcomplete : (m.sendRelease r).completeRelease 0 = (m.sendRelease r).afterCrest (fun _ => ⟨.idle, 0, 0⟩)
      (fun _ => if c.intervals.getD 0 0 = 0 then none else some (s.time + 100 * c.intervals.getD 0 0)) := by
    have hinterval : intervalTimer ((m.sendRelease r).cfg.interval 0 ((m.sendRelease r).followingClass 0))
        (m.sendRelease r).time = if c.intervals.getD 0 0 = 0 then none else some (s.time + 100 * c.intervals.getD 0 0) := by
      unfold State.followingClass intervalTimer
      rw [hcut, NodeConfig.interval_of_crest hcrest, htime]
      rfl
    exact congrArg (fun d => { m.sendRelease r with crestPassage := ⟨.idle, 0, 0⟩, releaseInterval := d }) hinterval
  exact ⟨m, hexec.trans (congrArg (finish s) (hbody.trans hcomplete)), hoffered, hcapture⟩

end

/-- The state in which slot 0 decides on an anonymous release. -/
theorem State.numberRelease_allocated {s : State} {r : RecIx} {free : List RecIx} (hstop : s.signal = .stop)
    (hblank : s.record r = Record.blank) : (State.overrunNoted { s with free := free } r true).numberRelease r
      = { (s.captureAlarm (crestOverrunIncident 0 true s.releaseCounter)).setRecord r
          { Record.blank with flags := { overrun := true }, feedSeq := some s.releaseCounter } with
        free := free
        releaseCounter := s.releaseCounter + 1 } := by
  let s' : State := { s with free := free }
  let x : Record := { Record.blank with flags := { overrun := true } }
  have hrecord : s'.record r = Record.blank := hblank
  have hflagged : s'.addFlags r { overrun := true } = s'.setRecord r x := by
    unfold State.addFlags
    rw [hrecord]
    rfl
  have halarm : (s'.setRecord r x).captureAlarm (crestOverrunIncident 0 true s.releaseCounter)
      = { (s.captureAlarm (crestOverrunIncident 0 true s.releaseCounter)).setRecord r x with free := free } := by
    unfold State.captureAlarm
    dsimp only [s', State.setRecord]
    split <;> rfl
  have hnoted : s'.overrunNoted r true
      = { (s.captureAlarm (crestOverrunIncident 0 true s.releaseCounter)).setRecord r x with free := free } := by
    unfold State.overrunNoted
    rw [hrecord, hflagged]
    exact (if_pos hstop).trans halarm
  obtain ⟨d, n, hcaptured⟩ := s.captureAlarm_eq_withOffers (crestOverrunIncident 0 true s.releaseCounter)
  let y := s.withOffers d n s.port.queue
  have hwritten : ({ y.setRecord r x with free := free } : State).record r = x := State.record_setRecord y r x
  rw [hnoted, hcaptured]
  unfold State.numberRelease
  rw [hwritten]
  exact congrArg (fun w : State => { w with free := free, releaseCounter := s.releaseCounter + 1 })
    (State.setRecord_setRecord y r x _)

/-- Settles O51: slot 0 decides in the state `out` by the receiver's rules. -/
theorem crestAxleReleasesAnAnonymousRecord : Obligations.CrestAxleReleasesAnAnonymousRecord := by
  unfold Obligations.CrestAxleReleasesAnAnonymousRecord
  intro s c r free hs hr hcfg hp hc hstop hf hblank entry inc frame released out
  obtain ⟨m, hexec, hm, hfreezes⟩ := execCrestAxle_of_empty hs hr hcfg hp hc hstop hf hblank
  let f : CrestPassage → CrestPassage := fun _ => ⟨.idle, 0, 0⟩
  let g : Option Nat → Option Nat := fun _ => if entry = 0 then none else some (s.time + 100 * entry)
  have hkind : ∀ y ∈ [s.reportOf inc], y.kind ≠ .holdState := s.kind_reportOf_ne_holdState inc
  have hkept := State.reports_overrunNoted { s with free := free } r true
  have hcounter : (State.overrunNoted { s with free := free } r true).releaseCounter = s.releaseCounter :=
    (congrArg State.releaseCounter hkept :)
  have hnode : (State.overrunNoted { s with free := free } r true).nodeState = s.nodeState :=
    (congrArg State.nodeState hkept :)
  have hout : ((State.overrunNoted { s with free := free } r true).numberRelease r).afterCrest f g = out := by
    rw [State.numberRelease_allocated hstop hblank]
    rfl
  generalize State.overrunNoted { s with free := free } r true = u at hm hcounter hnode hout
  have hserving : m.serving = true := hm.serving.trans (beq_iff_eq.mpr (hnode.trans hs))
  have hrecord : out.record r = released := State.record_setRecord (s.captureAlarm inc) r released
  have hleaves := State.decidesRelease_leaves hexec hm hkind hserving hout
  have hoffered := State.decidesRelease_offered (f := f) (g := g) hm hkind hserving hout
  rw [hcounter, hrecord] at hleaves hoffered
  refine ⟨hleaves, fun hnode hoff hsettling hl hapart hplace => ?_⟩
  obtain ⟨t, ht, hsheds, ⟨x, hx⟩, hbody, hcapture⟩ := exec_of_release hexec hm hout
  let taken : State := { s with
    free := free
    releaseCounter := s.releaseCounter + 1
    crestPassage := ⟨.idle, 0, 0⟩
    releaseInterval := g s.releaseInterval }
  obtain ⟨d, n, hform⟩ : ∃ d n, out = (taken.setRecord r released).withOffers d n s.port.queue := by
    obtain ⟨d, n, hcaptured⟩ := s.captureAlarm_eq_withOffers inc
    exact ⟨d, n, by unfold out; rw [hcaptured]; rfl⟩
  have hreports : t.apartFromReports = (taken.setSlot 0 x).apartFromReports := by
    rw [hx, State.apartFromReports_setSlot, hform, State.apartFromReports_setSlot]
    rfl
  have hslot : out.slot 0 = s.slot 0 := by rw [hform]; rfl
  have hslotCfg : out.slotCfg 0 = s.slotCfg 0 := by rw [hform]; rfl
  have hwait : out.waitList = s.waitList := by rw [hform]; rfl
  have htime : out.time = s.time := by rw [hform]; rfl
  have hothers (k : SlotIx) (hk : k ≠ 0) : (t.slot k).apartFromTimer = (s.slot k).apartFromTimer := by
    rw [State.slot_of_reports hreports, State.slot_setSlot_of_ne _ _ _ _ hk]
    rfl
  have hqueued (i : RecIx) (hi : i ≠ r) : out.queuedSeq i = s.queuedSeq i := by
    have hsame : (taken.setRecord r released).record i = s.record i := by
      rw [State.record_setRecord_eq_ite, if_neg hi]
      rfl
    rw [hform]
    exact congrArg (fun z => z.feedSeq.getD 0) hsame
  clear_value out
  have htail : out.tailOpen r s.releaseCounter := by
    unfold State.tailOpen
    rw [hslotCfg, hslot]
    refine ⟨hnode, hoff, hsettling, hl, hapart, hplace.imp_right fun ⟨e, he, hd, hb⟩ => ⟨e, he, hd, fun i hi => ?_⟩⟩
    rw [hqueued i (by rintro rfl; exact hapart hi)]
    exact hb i hi
  obtain ⟨hjoined, -⟩ := hoffered.at_tail htail
  obtain ⟨hq, he, -, -, hrec⟩ := State.left_of_joined hbody hsheds hjoined
  rw [hslot] at hq he
  rw [hrecord, htime, hslotCfg, hwait] at hrec
  refine ⟨t, ht, (congrArg State.cutList hreports :).trans hc, (congrArg State.releaseCounter hreports :),
    (congrArg State.crestPassage hreports :), (congrArg State.releaseInterval hreports :), hq, he, hothers,
    fun hpool => hrec (hpool.free_not_waiting (by rw [hf]; exact List.mem_cons_self)),
    fun hempty => hcapture _ (hfreezes hempty), fun hroom => ?_⟩
  obtain ⟨t', ht', -, hsent⟩ := hleaves.at_tail htail
  obtain rfl : t' = t := Host.Outcome.next.inj (ht'.symm.trans ht)
  obtain ⟨-, hholds, -⟩ := hsent hroom
  exact ⟨hholds _ List.mem_cons_self, hholds _ (List.mem_append_right _ (List.mem_singleton.mpr rfl))⟩

end Sys2Proof.Machine
end

section
/-! SUPPORT. The bits of frames (R142, R143, R170): numbers and their bits, bits heard, and the judgement of a frame's
bits. -/

namespace Sys2Proof.Machine

/-! ### Numbers and their bits -/

@[simp] theorem length_numberBits (n v : Nat) : (numberBits n v).length = n := by
  induction n with
  | zero => rfl
  | succ n ih => exact congrArg Nat.succ ih

theorem mod_two_pow_succ_eq (v n : Nat) : v % 2 ^ (n + 1) = v % 2 ^ n + 2 ^ n * (v.testBit n).toNat := by
  rw [Nat.mod_pow_succ, Nat.testBit_eq_decide_div_mod_eq]
  rcases Nat.mod_two_eq_zero_or_one (v / 2 ^ n) with h | h <;> simp [h]

/-- A number is read back from bits with others in front. -/
theorem foldl_numberBits (n v a : Nat) :
    (numberBits n v).foldl (fun a b => 2 * a + b.toNat) a = 2 ^ n * a + v % 2 ^ n := by
  induction n generalizing a with
  | zero => simp [numberBits, Nat.mod_one]
  | succ n ih =>
    show (numberBits n v).foldl _ (2 * a + (v.testBit n).toNat) = _
    rw [ih, mod_two_pow_succ_eq, Nat.pow_succ]
    ring

theorem bitsNumber_numberBits {n v : Nat} (h : v < 2 ^ n) : bitsNumber (numberBits n v) = v := by
  unfold bitsNumber
  rw [foldl_numberBits, Nat.mod_eq_of_lt h, Nat.mul_zero, Nat.zero_add]

theorem bitsNumber_append_singleton (bits : List Bool) (b : Bool) :
    bitsNumber (bits ++ [b]) = 2 * bitsNumber bits + b.toNat := by
  unfold bitsNumber
  rw [List.foldl_append]
  rfl

theorem numberBits_double (n v : Nat) (b : Bool) : numberBits (n + 1) (2 * v + b.toNat) = numberBits n v ++ [b] := by
  induction n with
  | zero => cases b <;> simp [numberBits]
  | succ n ih =>
    show (2 * v + b.toNat).testBit (n + 1) :: numberBits (n + 1) (2 * v + b.toNat) = _
    rw [ih]
    refine congrArg (· :: _) ?_
    rw [Nat.testBit_succ]
    congr 1
    have := b.toNat_lt
    omega

theorem numberBits_bitsNumber (bits : List Bool) : numberBits bits.length (bitsNumber bits) = bits := by
  induction bits using List.reverseRecOn with
  | nil => rfl
  | append_singleton bits b ih =>
    rw [bitsNumber_append_singleton, List.length_append, List.length_singleton, numberBits_double, ih]

/-- The same where the length is known by another name. -/
theorem numberBits_of_length {bits : List Bool} {n v : Nat} (hl : bits.length = n) (hv : bitsNumber bits = v) :
    numberBits n v = bits := by
  rw [← hl, ← hv, numberBits_bitsNumber]

theorem bitsNumber_lt (bits : List Bool) : bitsNumber bits < 2 ^ bits.length := by
  induction bits using List.reverseRecOn with
  | nil => exact Nat.one_pos
  | append_singleton bits b ih =>
    have := b.toNat_lt
    rw [bitsNumber_append_singleton, List.length_append, List.length_singleton, Nat.pow_succ]
    omega

/-! ### Bits heard -/

/-- Bits that are sent are heard, and the rest stays. -/
theorem hearBits_append (l rest : List Bool) : hearBits l.length (l ++ rest) = (l, rest) := by
  induction l with
  | nil => rfl
  | cons b l ih =>
    show (b :: (hearBits l.length (l ++ rest)).1, (hearBits l.length (l ++ rest)).2) = _
    rw [ih]

theorem hearBits_of_length {l : List Bool} {n : Nat} (h : l.length = n) (rest : List Bool) :
    hearBits n (l ++ rest) = (l, rest) := h ▸ hearBits_append l rest

theorem length_hearBits (n : Nat) (bits : List Bool) : (hearBits n bits).1.length = n := by
  induction n generalizing bits with
  | zero => rfl
  | succ n ih =>
    cases bits with
    | nil => exact congrArg Nat.succ (ih [])
    | cons b rest => exact congrArg Nat.succ (ih rest)

theorem hearBits_nil_snd (n : Nat) : (hearBits n []).2 = [] := by
  cases n <;> rfl

theorem hearBits_add (n m : Nat) (bits : List Bool) :
    (hearBits (n + m) bits).1 = (hearBits n bits).1 ++ (hearBits m (hearBits n bits).2).1 := by
  induction n generalizing bits with
  | zero => rw [Nat.zero_add]; rfl
  | succ n ih =>
    rw [Nat.succ_add]
    cases bits with
    | nil => exact congrArg (true :: ·) ((ih []).trans (by rw [hearBits_nil_snd]; rfl))
    | cons b rest => exact congrArg (b :: ·) (ih rest)

/-- Chapter 8: a bus that nobody drives rests recessive. -/
theorem hearBits_eq_take {n m : Nat} (h : n ≤ m) (bits : List Bool) :
    (hearBits n bits).1 = (bits ++ List.replicate m true).take n := by
  induction n generalizing bits m with
  | zero => rfl
  | succ n ih =>
    cases bits with
    | nil =>
      obtain ⟨m, rfl⟩ : ∃ k, m = k + 1 := ⟨m - 1, by omega⟩
      exact congrArg (true :: ·) (ih (Nat.le_of_succ_le_succ h) [])
    | cons b rest => exact congrArg (b :: ·) (ih (Nat.le_of_succ_le h) rest)

/-! ### Bytes -/

theorem payloadBits_cons (b : Byte) (l : List Byte) : payloadBits (b :: l) = numberBits 8 b.toNat ++ payloadBits l := rfl

@[simp] theorem length_payloadBits (l : List Byte) : (payloadBits l).length = 8 * l.length := by
  induction l with
  | nil => rfl
  | cons b l ih => rw [payloadBits_cons, List.length_append, length_numberBits, ih, List.length_cons]; ring

@[simp] theorem length_bitBytes (n : Nat) (bits : List Bool) : (bitBytes n bits).length = n := by
  induction n generalizing bits with
  | zero => rfl
  | succ n ih => exact congrArg Nat.succ (ih _)

theorem bitBytes_payloadBits (l : List Byte) : bitBytes l.length (payloadBits l) = l := by
  induction l with
  | nil => rfl
  | cons b l ih =>
    have hb : (numberBits 8 b.toNat).length = 8 := length_numberBits _ _
    show byteOf (bitsNumber ((payloadBits (b :: l)).take 8)) :: bitBytes l.length ((payloadBits (b :: l)).drop 8) = _
    rw [payloadBits_cons, List.take_left' hb, List.drop_left' hb, ih, bitsNumber_numberBits b.isLt]
    exact congrArg (· :: l) (BitVec.ofNat_toNat 8 b)

theorem payloadBits_bitBytes {n : Nat} {bits : List Bool} (h : bits.length = 8 * n) :
    payloadBits (bitBytes n bits) = bits := by
  induction n generalizing bits with
  | zero => exact (List.length_eq_zero_iff.mp h).symm
  | succ n ih =>
    have hl : (bits.take 8).length = 8 := by rw [List.length_take]; omega
    have hlt : bitsNumber (bits.take 8) < 2 ^ 8 := (bitsNumber_lt (bits.take 8)).trans_eq (congrArg (2 ^ ·) hl)
    have hbyte : (byteOf (bitsNumber (bits.take 8))).toNat = bitsNumber (bits.take 8) := Nat.mod_eq_of_lt hlt
    show payloadBits (byteOf _ :: bitBytes n (bits.drop 8)) = _
    rw [payloadBits_cons, hbyte, numberBits_of_length hl rfl, ih (by rw [List.length_drop]; omega),
      List.take_append_drop]

/-! ### The judgement of bits -/

/-- R143: what is judged of the fields heard. -/
def judgeParts (u o k l p c t : List Bool) : Judgement :=
  if bitsNumber c ≠ (checkSequence (u ++ o ++ k ++ l ++ p)).toNat then .discarded .checkSequence
  else if t.all id = false then .discarded .endField
  else judgeFields (bitsNumber u) (BitVec.ofNat 6 (bitsNumber o)) (bitsNumber k) (bitBytes (bitsNumber l) p)

/-- R142, R143: the fields of the bits heard behind a start bit, the bus resting recessive behind their end. -/
structure HeardFields (bits u o k l p c t : List Bool) : Prop where
  urgency : u.length = 2
  origin : o.length = 6
  kind : k.length = 5
  length : l.length = 4
  payload : p.length = 8 * bitsNumber l
  check : c.length = 16
  tail : t.length = 7
  heard : (hearBits (2 + (6 + (5 + (4 + (8 * bitsNumber l + (16 + 7)))))) bits).1
    = u ++ (o ++ (k ++ (l ++ (p ++ (c ++ t)))))

/-- The judgement goes by the fields heard. -/
theorem judge_start (bits : List Bool) : ∃ u o k l p c t, HeardFields bits u o k l p c t
    ∧ judge (false :: bits) =
      if bitsNumber l = 15 then .discarded .lengthInvalid else judgeParts u o k l p c t := by
  refine ⟨_, _, _, _, _, _, _, ⟨length_hearBits 2 bits, length_hearBits 6 _, length_hearBits 5 _, length_hearBits 4 _,
    length_hearBits _ _, length_hearBits 16 _, length_hearBits 7 _, ?_⟩, rfl⟩
  simp only [hearBits_add]

/-- R142: bits that begin with the fields of a frame are judged by them. -/
theorem judge_fields {u o k l p c t : List Bool} (hu : u.length = 2) (ho : o.length = 6) (hk : k.length = 5)
    (hl : l.length = 4) (hp : p.length = 8 * bitsNumber l) (hc : c.length = 16) (ht : t.length = 7)
    (hvalid : bitsNumber l ≠ 15) :
    judge (false :: (u ++ (o ++ (k ++ (l ++ (p ++ (c ++ t))))))) = judgeParts u o k l p c t := by
  have htail : hearBits 7 t = (t, []) := by simpa using hearBits_of_length ht []
  unfold judge
  simp only [hearBits_of_length hu, hearBits_of_length ho, hearBits_of_length hk, hearBits_of_length hl,
    if_neg hvalid, judgeBody, hearBits_of_length hp, hearBits_of_length hc, htail]
  rfl

/-! ### Frames -/

/-- R143: a kind is read back from its code. -/
theorem kindOfCode_eq_some_iff (n : Nat) (k : FrameKind) : kindOfCode n = some k ↔ kindCode k = n := by
  constructor
  · intro h
    exact eq_of_beq (List.find?_some h :)
  · rintro rfl
    cases k <;> rfl

theorem kindLength_le (k : FrameKind) : kindLength k ≤ 14 := by
  cases k <;> decide

theorem kindCode_lt (k : FrameKind) : kindCode k < 2 ^ 5 := by
  cases k <;> decide

theorem kindUrgency_lt (k : FrameKind) : kindUrgency k < 2 ^ 2 := by
  cases k <;> decide

/-- R143: a frame is judged valid when the three fields agree. -/
theorem judgeFields_eq_valid_iff (urgency : Nat) (origin : Station) (code : Nat) (payload : List Byte) (f : RawFrame) :
    judgeFields urgency origin code payload = .valid f ↔ f.origin = origin ∧ kindCode f.kind = code
      ∧ f.payload = payload ∧ payload.length = kindLength f.kind ∧ urgency = kindUrgency f.kind := by
  obtain ⟨o, k, p⟩ := f
  unfold judgeFields
  rw [← kindOfCode_eq_some_iff]
  cases kindOfCode code with
  | none => simp
  | some k' =>
    by_cases hl : payload.length = kindLength k'
    · by_cases hu : urgency = kindUrgency k'
      · simp only [hl, hu]
        grind
      · grind
    · grind

theorem judgeParts_eq_valid_iff (u o k l p c t : List Bool) (f : RawFrame) :
    judgeParts u o k l p c t = .valid f ↔ bitsNumber c = (checkSequence (u ++ o ++ k ++ l ++ p)).toNat
      ∧ t.all id = true ∧ judgeFields (bitsNumber u) (BitVec.ofNat 6 (bitsNumber o)) (bitsNumber k)
        (bitBytes (bitsNumber l) p) = .valid f := by
  unfold judgeParts
  split
  · next h => exact iff_of_false nofun fun hand => h hand.1
  · next h =>
    split
    · next ht => exact iff_of_false nofun fun ⟨_, hall, _⟩ => by simp [ht] at hall
    · next ht => exact ⟨fun hf => ⟨Classical.not_not.mp h, by simpa using ht, hf⟩, fun ⟨_, _, hf⟩ => hf⟩

/-- The bits of a frame, by their fields. -/
theorem frameBits_eq (f : RawFrame) : frameBits f
    = false :: (numberBits 2 (kindUrgency f.kind) ++ (numberBits 6 f.origin.toNat ++ (numberBits 5 (kindCode f.kind)
      ++ (numberBits 4 f.payload.length ++ (payloadBits f.payload
        ++ (numberBits 16 (checkSequence (coveredBits f)).toNat ++ List.replicate 7 true)))))) := by
  unfold frameBits
  generalize checkSequence (coveredBits f) = check
  unfold coveredBits
  simp only [List.append_assoc]

/-- R142, R143: a frame is read back from its bits. -/
theorem judge_frameBits {f : RawFrame} (h : f.payload.length = kindLength f.kind) :
    judge (frameBits f) = .valid f := by
  have hlt : f.payload.length < 2 ^ 4 := by have := kindLength_le f.kind; omega
  have hne : f.payload.length ≠ 15 := by have := kindLength_le f.kind; omega
  have hnumber := bitsNumber_numberBits hlt
  rw [frameBits_eq, judge_fields (length_numberBits _ _) (length_numberBits _ _) (length_numberBits _ _)
    (length_numberBits _ _) (by rw [length_payloadBits, hnumber]) (length_numberBits _ _) List.length_replicate
    (by rw [hnumber]; exact hne), judgeParts_eq_valid_iff]
  refine ⟨bitsNumber_numberBits (BitVec.isLt _), rfl, ?_⟩
  rw [judgeFields_eq_valid_iff, bitsNumber_numberBits f.origin.isLt, bitsNumber_numberBits (kindCode_lt _),
    bitsNumber_numberBits (kindUrgency_lt _), hnumber, bitBytes_payloadBits]
  exact ⟨(BitVec.ofNat_toNat 6 f.origin).symm, rfl, rfl, h, rfl⟩

/-- R142, R143: the fields of a frame judged valid are that frame's. -/
theorem HeardFields.frameBits_eq {bits u o k l p c t : List Bool} {f : RawFrame}
    (h : HeardFields bits u o k l p c t) (hvalid : judgeParts u o k l p c t = .valid f) :
    frameBits f = false :: (u ++ (o ++ (k ++ (l ++ (p ++ (c ++ t))))))
      ∧ f.payload.length = kindLength f.kind ∧ f.payload.length = bitsNumber l := by
  obtain ⟨hcheck, hend, hfields⟩ := (judgeParts_eq_valid_iff ..).mp hvalid
  obtain ⟨horigin, hkind, hpayload, hlength, hurgency⟩ := (judgeFields_eq_valid_iff ..).mp hfields
  have hO : numberBits 6 f.origin.toNat = o := by
    refine numberBits_of_length h.origin ?_
    rw [horigin]
    exact (Nat.mod_eq_of_lt ((bitsNumber_lt o).trans_eq (congrArg (2 ^ ·) h.origin))).symm
  have hU : numberBits 2 (kindUrgency f.kind) = u := numberBits_of_length h.urgency hurgency
  have hK : numberBits 5 (kindCode f.kind) = k := numberBits_of_length h.kind hkind.symm
  have hlen : f.payload.length = bitsNumber l := by rw [hpayload, length_bitBytes]
  have hL : numberBits 4 f.payload.length = l := numberBits_of_length h.length hlen.symm
  have hP : payloadBits f.payload = p := by rw [hpayload, payloadBits_bitBytes h.payload]
  have hcovered : coveredBits f = u ++ o ++ k ++ l ++ p := by unfold coveredBits; rw [hU, hO, hK, hL, hP]
  have hC : numberBits 16 (checkSequence (coveredBits f)).toNat = c := by
    rw [hcovered]
    exact numberBits_of_length h.check hcheck
  have hT : List.replicate 7 true = t :=
    (List.eq_replicate_iff.mpr ⟨h.tail, fun b hb => List.all_eq_true.mp hend b hb⟩).symm
  refine ⟨?_, hpayload ▸ hlength, hlen⟩
  rw [Machine.frameBits_eq, hU, hO, hK, hL, hP, hC, hT]

/-- R143: only a frame's bits are judged as it, the bus resting recessive behind them. -/
theorem eq_frameBits_of_judge {bits : List Bool} {f : RawFrame} (h : judge bits = .valid f) :
    f.payload.length = kindLength f.kind
      ∧ (bits ++ List.replicate (frameBits f).length true).take (frameBits f).length = frameBits f := by
  cases bits with
  | nil => exact nomatch h
  | cons b rest =>
    cases b with
    | true => exact nomatch h
    | false =>
      obtain ⟨u, o, k, l, p, c, t, hheard, hjudge⟩ := judge_start rest
      rw [hjudge] at h
      split at h
      · exact nomatch h
      · obtain ⟨hbits, hlength, hlen⟩ := hheard.frameBits_eq h
        refine ⟨hlength, ?_⟩
        have hsize : (frameBits f).length = (2 + (6 + (5 + (4 + (8 * bitsNumber l + (16 + 7)))))) + 1 := by
          rw [hbits]
          simp only [List.length_cons, List.length_append, hheard.urgency, hheard.origin, hheard.kind, hheard.length,
            hheard.payload, hheard.check, hheard.tail]
        rw [hsize]
        refine (congrArg (false :: ·) ?_).trans hbits.symm
        rw [← hheard.heard]
        exact (hearBits_eq_take (Nat.le_succ _) rest).symm

/-- Settles O32: bits that are judged valid fall into fields, each of which spells the frame's number, and a frame's
bits give their fields back. -/
theorem frameBitsAreReadBackAndNoOthersAreValid : Obligations.FrameBitsAreReadBackAndNoOthersAreValid := by
  unfold Obligations.FrameBitsAreReadBackAndNoOthersAreValid
  exact ⟨fun _ _ => eq_frameBits_of_judge, fun _ => judge_frameBits⟩

end Sys2Proof.Machine
end

section
/-! SUPPORT. The bytes of the frames a node builds (sections 12.2, 12.3): the fields, the codes, and the payload of
each frame. -/

namespace Sys2Proof.Machine

/-! ### Fields -/

theorem toNat_byteOf {n : Nat} (h : n ≤ 255) : (byteOf n).toNat = n :=
  Nat.mod_eq_of_lt (Nat.lt_succ_of_le h)

@[simp] theorem length_highLow (w : BitVec 16) : (highLow w).length = 2 := rfl

@[simp] theorem length_companionOrZero (c : Option Companion) : (companionOrZero c).length = 3 := by
  cases c <;> rfl

/-- Chapter 12: a word is its high byte and its low byte. -/
@[simp] theorem map_toNat_wordBytes (w : BitVec 16) : (wordBytes w).map BitVec.toNat = highLow w := by
  have hw : w.toNat / 256 < 256 := by have := w.isLt; omega
  simp only [wordBytes, highLow, List.map_cons, List.map_nil, BitVec.extractLsb'_toNat, Nat.shiftRight_eq_div_pow,
    Nat.mod_eq_of_lt hw, Nat.pow_zero, Nat.div_one]

theorem toNat_trackByte {o : Option Nat} (h : ∀ d, o = some d → d ≤ 63) : (trackByte o).toNat = trackOrZero o := by
  cases o with
  | none => rfl
  | some d => exact toNat_byteOf (by have := h d rfl; omega)

theorem map_toNat_companionBytes {c : Option Companion} (h : ∀ x, c = some x → x.destination ≤ 63) :
    (companionBytes c).map BitVec.toNat = companionOrZero c := by
  cases c with
  | none => rfl
  | some x =>
    have hd : x.destination ≤ 255 := by have := h x rfl; omega
    simp only [companionBytes, companionOrZero, List.map_append, map_toNat_wordBytes, List.map_cons, List.map_nil,
      toNat_byteOf hd]

/-! ### Bits -/

theorem bitsValue_lt (l : List Bool) : bitsValue l < 2 ^ l.length := by
  induction l with
  | nil => exact Nat.one_pos
  | cons b l ih =>
    rw [List.length_cons, Nat.pow_succ]
    unfold bitsValue
    split <;> omega

theorem testBit_bitsValue (l : List Bool) (i : Nat) : (bitsValue l).testBit i = l.getD i false := by
  induction l generalizing i with
  | nil => simp [bitsValue]
  | cons b l ih =>
    unfold bitsValue
    cases i with
    | zero => cases b <;> simp [Nat.testBit_zero, Nat.add_mod]
    | succ i =>
      rw [Nat.testBit_succ, List.getD_cons_succ, ← ih]
      congr 1
      split <;> omega

theorem bitWeight_succ (n : Nat) (b : Bool) : bitWeight (n + 1) b = 2 * bitWeight n b := by
  cases b
  · rfl
  · exact Nat.pow_succ'

/-- Section 12.3: the flag word by its bits. -/
theorem Flags.toWord_eq (f : Flags) (m : Bool) : f.toWord m = BitVec.ofNat 16 (bitsValue (f.bits m)) := by
  unfold Flags.toWord Flags.bits
  refine congrArg (BitVec.ofNat 16) ?_
  simp only [bitWeight_succ, bitsValue]
  simp only [bitWeight, Nat.pow_zero]
  omega

theorem Flags.toNat_toWord (f : Flags) (m : Bool) : (f.toWord m).toNat = bitsValue (f.bits m) := by
  have h : bitsValue (f.bits m) < 2 ^ 11 := bitsValue_lt _
  rw [Flags.toWord_eq, BitVec.toNat_ofNat]
  omega

/-- Section 12.3: the bits of the flag word. -/
theorem Flags.getLsbD_toWord (f : Flags) (m : Bool) (i : Nat) : (f.toWord m).getLsbD i = (f.bits m).getD i false := by
  rw [BitVec.getLsbD, Flags.toNat_toWord, testBit_bitsValue]

/-- R169: the flags of a HANDOFF are read back from its flag word. -/
theorem Flags.ofWord_toWord (f : Flags) (m : Bool) : Flags.ofWord (f.toWord m) = f := by
  unfold Flags.ofWord
  simp only [Flags.getLsbD_toWord]
  rfl

/-- Section 12.3: the hold mask byte by its bits. -/
theorem HoldMask.toNat_toByte (m : HoldMask) : m.toByte.toNat = bitsValue m.bits := by
  have h : bitsValue m.bits < 2 ^ 8 := bitsValue_lt _
  refine Eq.trans ?_ (Nat.mod_eq_of_lt h)
  unfold HoldMask.toByte HoldMask.bits
  rw [BitVec.toNat_ofNat]
  refine congrArg (· % 2 ^ 8) ?_
  simp only [bitWeight_succ, bitsValue]
  simp only [bitWeight, Nat.pow_zero]
  omega

/-! ### Codes -/

theorem legCode_eq (leg : Leg) : legCode leg = legBit leg := by
  cases leg <;> rfl

theorem legBit_le (leg : Leg) : legBit leg ≤ 1 := by
  cases leg <;> decide

@[simp] theorem toNat_legByte (leg : Leg) : (byteOf (legCode leg)).toNat = legBit leg := by
  cases leg <;> rfl

@[simp] theorem toNat_flagByte (b : Bool) : (flagByte b).toNat = yesBit b := by
  cases b <;> rfl

@[simp] theorem toNat_roleByte (role : Role) : (byteOf (roleCode role)).toNat = if role = .crest then 1 else 0 := by
  cases role <;> rfl

@[simp] theorem toNat_sensorByte (x : Sensor) : (byteOf (sensorCode x)).toNat = codeIn sensorColumn x := by
  cases x <;> rfl

@[simp] theorem toNat_phaseByte (x : Phase) : (byteOf (phaseCode x)).toNat = codeIn phaseColumn x := by
  cases x <;> rfl

@[simp] theorem toNat_directionByte (d : Direction) :
    (byteOf (directionCode d)).toNat = if d = .backward then 1 else 0 := by
  cases d <;> rfl

@[simp] theorem toNat_throwPhaseByte (x : ThrowPhase) :
    (byteOf (throwPhaseCode x)).toNat = if x = .pausing then 1 else 0 := by
  cases x <;> rfl

theorem pointCode_eq (p : PointState) : pointCode p = pointNumber p := by
  cases p <;> rfl

theorem pointNumber_le (p : PointState) : pointNumber p ≤ 3 := by
  cases p <;> simp [pointNumber]

@[simp] theorem toNat_pointByte (p : PointState) : (byteOf (pointCode p)).toNat = pointNumber p := by
  cases p <;> rfl

theorem nodeStateCode_eq {x : NodeState} (h : x ≠ .reset) : nodeStateCode x = codeIn nodeStateColumn x := by
  cases x
  case reset => exact absurd rfl h
  all_goals rfl

theorem nodeStateCode_le (x : NodeState) : nodeStateCode x ≤ 3 := by
  cases x <;> decide

@[simp] theorem toNat_serviceByte (x : ServiceState) : (byteOf (serviceCode x)).toNat = codeIn serviceColumn x := by
  cases x <;> rfl

@[simp] theorem toNat_handoffResultByte (x : HandoffResult) :
    (byteOf (handoffResultCode x)).toNat = codeIn handoffResultColumn x := by
  cases x <;> rfl

@[simp] theorem toNat_commandResultByte (x : CommandResult) :
    (byteOf (commandResultCode x)).toNat = codeIn commandResultColumn x := by
  cases x <;> rfl

@[simp] theorem toNat_receiptByte (x : Receipt) : (byteOf (receiptCode x)).toNat = codeIn queueResultColumn x := by
  cases x <;> rfl

theorem incidentCode_eq (x : IncidentKind) : incidentCode x = codeIn incidentColumn x + 1 := by
  cases x <;> rfl

theorem incidentCode_le (x : IncidentKind) : incidentCode x ≤ 22 := by
  cases x <;> decide

@[simp] theorem toNat_incidentByte (x : IncidentKind) :
    (byteOf (incidentCode x)).toNat = codeIn incidentColumn x + 1 := by
  cases x <;> rfl

@[simp] theorem toNat_kindByte (k : FrameKind) : (byteOf (kindCode k)).toNat = kindCode k :=
  toNat_byteOf (by have := kindCode_lt k; omega)

@[simp] theorem toNat_urgencyByte (k : FrameKind) : (byteOf (kindUrgency k)).toNat = kindUrgency k :=
  toNat_byteOf (by have := kindUrgency_lt k; omega)

@[simp] theorem toNat_slotLegByte (k : SlotIx) (leg : Leg) :
    (slotLegByte k.val leg).toNat = 16 * k.val + legBit leg := by
  have hk := k.isLt
  have hleg := legBit_le leg
  unfold slotLegByte
  rw [legCode_eq, toNat_byteOf (by omega)]

theorem bitWeight_seven (b : Bool) : bitWeight 7 b = 128 * yesBit b := by
  cases b <;> rfl

theorem yesBit_le (b : Bool) : yesBit b ≤ 1 := by
  cases b <;> decide

@[simp] theorem toNat_incidentSlotByte_none (captured : Bool) :
    (incidentSlotByte captured none).toNat = 128 * yesBit captured + 15 := by
  have hc := yesBit_le captured
  unfold incidentSlotByte
  rw [bitWeight_seven, toNat_byteOf (by omega)]

@[simp] theorem toNat_incidentSlotByte_some (captured : Bool) (k : SlotIx) :
    (incidentSlotByte captured (some k)).toNat = 128 * yesBit captured + k.val := by
  have hc := yesBit_le captured
  have hk := k.isLt
  unfold incidentSlotByte
  dsimp only
  rw [bitWeight_seven, toNat_byteOf (by omega)]

theorem captureCode_le (captured : Option IncidentKind) : captureCode captured ≤ 22 := by
  cases captured with
  | none => exact Nat.zero_le _
  | some kind => exact incidentCode_le kind

/-- Section 12.2: the state byte of STATUS. -/
theorem toNat_stateByte {state : NodeState} (h : state ≠ .reset) (captured : Option IncidentKind) :
    (byteOf (64 * nodeStateCode state + captureCode captured)).toNat
      = 64 * codeIn nodeStateColumn state + captureCode captured := by
  have hstate := nodeStateCode_le state
  have hcapture := captureCode_le captured
  rw [← nodeStateCode_eq h, toNat_byteOf (by omega)]

theorem map_toNat_slotStatusBytes {x : SlotStatus} (hq : x.queueLength ≤ 7) (hz : x.zoneCount ≤ 3) :
    (slotStatusBytes x).map BitVec.toNat
      = [codeIn serviceColumn x.service, 64 * pointNumber x.point + 8 * x.queueLength + x.zoneCount] := by
  have hp := pointNumber_le x.point
  simp only [slotStatusBytes, List.map_cons, List.map_nil, toNat_serviceByte, pointCode_eq]
  rw [toNat_byteOf (by omega)]

/-- Section 12.1: the model's tables are the table. -/
theorem kindTable_codes (row : FrameKind × Nat × Nat × Nat) (h : row ∈ kindTable) :
    kindCode row.1 = row.2.1 ∧ kindUrgency row.1 = row.2.2.1 ∧ kindLength row.1 = row.2.2.2 := by
  revert row
  decide

theorem mem_kindTable (k : FrameKind) : k ∈ kindTable.map Prod.fst := by
  cases k <;> decide

/-! ### Details (section 12.3) -/

theorem length_detailBytes_le (d : Detail) : (detailBytes d).length ≤ 6 := by
  cases d
  case unannounced seq => cases seq <;> exact Nat.le_of_ble_eq_true rfl
  case overdue seq => cases seq <;> exact Nat.le_of_ble_eq_true rfl
  all_goals exact Nat.le_of_ble_eq_true rfl

/-- R169: the detail bytes are the numbers, and the unused ones are 0. -/
theorem Detail.reads_of_map {d : Detail} {bytes : List Nat} (h : (detailBytes d).map BitVec.toNat = bytes) :
    d.reads bytes := by
  subst h
  unfold Detail.reads padTo
  rw [List.length_map, List.take_append, List.take_of_length_le (length_detailBytes_le d), List.map_append,
    List.take_replicate, Nat.min_eq_left (Nat.sub_le _ _), List.map_replicate]
  rfl

section
variable {d : Detail} {a b c e : Byte} {i j k l : Nat}

theorem Detail.reads.one (hd : detailBytes d = [a]) (ha : a.toNat = i) : d.reads [i] :=
  Detail.reads_of_map (by rw [hd, ← ha]; rfl)

theorem Detail.reads.two (hd : detailBytes d = [a, b]) (ha : a.toNat = i) (hb : b.toNat = j) : d.reads [i, j] :=
  Detail.reads_of_map (by rw [hd, ← ha, ← hb]; rfl)

theorem Detail.reads.three (hd : detailBytes d = [a, b, c]) (ha : a.toNat = i) (hb : b.toNat = j)
    (hc : c.toNat = k) : d.reads [i, j, k] :=
  Detail.reads_of_map (by rw [hd, ← ha, ← hb, ← hc]; rfl)

theorem Detail.reads.four (hd : detailBytes d = [a, b, c, e]) (ha : a.toNat = i) (hb : b.toNat = j)
    (hc : c.toNat = k) (he : e.toNat = l) : d.reads [i, j, k, l] :=
  Detail.reads_of_map (by rw [hd, ← ha, ← hb, ← hc, ← he]; rfl)

end

/-- Section 12.3: the two bits of a lost detection. -/
@[simp] theorem toNat_lostBitsByte (a b : Bool) :
    (byteOf (bitWeight 0 a + bitWeight 1 b)).toNat = yesBit a + 2 * yesBit b := by
  cases a <;> cases b <;> rfl

/-! ### Payloads (section 12.2) -/

theorem highLow_toWord (f : Flags) (misrouted : Bool) : highLow (f.toWord misrouted)
    = [bitsValue (f.bits misrouted) / 256, bitsValue (f.bits misrouted) % 256] := by
  unfold highLow
  rw [Flags.toNat_toWord]

theorem reads_start (yard : Nat) (role : Role) {n : Nat} (sum : BitVec 16) (h : n ≤ 4) :
    OutFrame.reads yard (.start role n sum) ([if role = .crest then 1 else 0, n] ++ highLow sum) := by
  refine ⟨?_, rfl⟩
  simp only [framePayload, List.map_append, List.map_cons, List.map_nil, map_toNat_wordBytes, toNat_roleByte,
    toNat_byteOf (h.trans (by decide : 4 ≤ 255))]

theorem reads_holdState (yard : Nat) (m : HoldMask) {state : NodeState} (h : state ≠ .reset) :
    OutFrame.reads yard (.holdState m state) [bitsValue m.bits, codeIn nodeStateColumn state] := by
  refine ⟨?_, rfl⟩
  have hstate := nodeStateCode_le state
  simp only [framePayload, List.map_cons, List.map_nil, HoldMask.toNat_toByte, ← nodeStateCode_eq h,
    toNat_byteOf (hstate.trans (by decide : 3 ≤ 255))]

theorem reads_handoff (yard : Nat) {f : HandoffFrame} (htarget : f.targetStation ≤ 62) (hslot : f.targetSlot ≤ 3)
    (hd : f.contents.destination ≤ 63) (ho : ∀ d, f.contents.originalDestination = some d → d ≤ 63)
    (he : f.contents.expectedAxles ≤ 250) (hc : f.contents.cutClass ≤ 3)
    (hx : ∀ x, f.contents.companion = some x → x.destination ≤ 63) :
    OutFrame.reads yard (.handoff f)
      ([f.targetStation, 16 * f.targetSlot + 2 * f.sourceSlot.val + legBit f.sourceLeg, f.seq.toNat]
        ++ highLow f.contents.tag
        ++ [f.contents.destination, trackOrZero f.contents.originalDestination, f.contents.expectedAxles,
          f.contents.cutClass]
        ++ [bitsValue (f.contents.flags.bits false) / 256, bitsValue (f.contents.flags.bits false) % 256]
        ++ companionOrZero f.contents.companion) := by
  have hleg := legBit_le f.sourceLeg
  have hsource := f.sourceSlot.isLt
  refine ⟨?_, by simp [OutFrame.kind, kindLength]⟩
  simp only [framePayload, List.map_append, List.map_cons, List.map_nil, map_toNat_wordBytes, highLow_toWord,
    legCode_eq]
  rw [toNat_trackByte ho, map_toNat_companionBytes hx, toNat_byteOf (by omega), toNat_byteOf (by omega),
    toNat_byteOf (by omega), toNat_byteOf (by omega), toNat_byteOf (by omega)]

theorem reads_handoffReply (yard : Nat) {station slot : Nat} (seq : Seq) (tag : Tag) (result : HandoffResult)
    (hstation : station ≤ 62) (hslot : slot ≤ 15) :
    OutFrame.reads yard (.handoffReply station slot seq tag result)
      ([station, slot, seq.toNat] ++ highLow tag ++ [codeIn handoffResultColumn result]) := by
  refine ⟨?_, rfl⟩
  simp only [framePayload, List.map_append, List.map_cons, List.map_nil, map_toNat_wordBytes,
    toNat_handoffResultByte]
  rw [toNat_byteOf (by omega), toNat_byteOf (by omega)]

section
variable {yard : Nat} (hyard : yard ≤ 62)
include hyard

theorem toNat_yardByte : (byteOf yard).toNat = yard := toNat_byteOf (hyard.trans (by decide))

theorem reads_commandReply (kind : FrameKind) (argument : BitVec 16) (result : CommandResult) :
    OutFrame.reads yard (.commandReply kind argument result)
      ([yard, kindCode kind] ++ highLow argument ++ [codeIn commandResultColumn result]) := by
  refine ⟨?_, rfl⟩
  simp only [framePayload, List.map_append, List.map_cons, List.map_nil, map_toNat_wordBytes, toNat_yardByte hyard,
    toNat_kindByte, toNat_commandResultByte]

theorem reads_released (tag : Tag) {d : Nat} {o : Option Nat} {cutClass : Nat} (f : Flags) (seq : Seq)
    (receipt : Receipt) (hd : d ≤ 63) (ho : ∀ x, o = some x → x ≤ 63) (hc : cutClass ≤ 3) :
    OutFrame.reads yard (.released tag d o cutClass f seq receipt)
      ([yard] ++ highLow tag ++ [d, trackOrZero o, cutClass]
        ++ [bitsValue (f.bits false) / 256, bitsValue (f.bits false) % 256]
        ++ [seq.toNat, codeIn queueResultColumn receipt]) := by
  refine ⟨?_, rfl⟩
  simp only [framePayload, List.map_append, List.map_cons, List.map_nil, map_toNat_wordBytes, highLow_toWord,
    toNat_yardByte hyard, toNat_receiptByte]
  rw [toNat_trackByte ho, toNat_byteOf (by omega), toNat_byteOf (by omega)]

theorem reads_arrival (k : SlotIx) (leg : Leg) {track : Nat} (tag : Tag) {d : Nat} {o : Option Nat} (f : Flags)
    (misrouted : Bool) {c : Option Companion} (htrack : track ≤ 63) (hd : d ≤ 63) (ho : ∀ x, o = some x → x ≤ 63)
    (hx : ∀ x, c = some x → x.destination ≤ 63) :
    OutFrame.reads yard (.arrival k leg track tag d o f misrouted c)
      ([yard, 16 * k.val + legBit leg, track] ++ highLow tag ++ [d, trackOrZero o]
        ++ [bitsValue (f.bits misrouted) / 256, bitsValue (f.bits misrouted) % 256] ++ companionOrZero c) := by
  refine ⟨?_, by simp [OutFrame.kind, kindLength]⟩
  simp only [framePayload, List.map_append, List.map_cons, List.map_nil, map_toNat_wordBytes, highLow_toWord,
    toNat_yardByte hyard, toNat_slotLegByte]
  rw [toNat_trackByte ho, map_toNat_companionBytes hx, toNat_byteOf (by omega), toNat_byteOf (by omega)]

theorem reads_incident (i : Incident) (captured : Bool) {bytes : List Nat} (hbytes : bytes.length ≤ 6)
    (h : i.detail.reads bytes) :
    OutFrame.reads yard (.incident i captured)
      ([yard, codeIn incidentColumn i.kind + 1,
          128 * yesBit captured + (match i.slot with
            | none => 15
            | some k => k.val)]
        ++ highLow i.firstTag ++ highLow i.secondTag ++ bytes ++ List.replicate (6 - bytes.length) 0) := by
  have hslot : (incidentSlotByte captured i.slot).toNat = 128 * yesBit captured + (match i.slot with
      | none => 15
      | some k => k.val) := by
    cases i.slot with
    | none => exact toNat_incidentSlotByte_none captured
    | some k => exact toNat_incidentSlotByte_some captured k
  refine ⟨?_, ?_⟩
  · simp only [framePayload, List.map_append, List.map_cons, List.map_nil, map_toNat_wordBytes, toNat_yardByte hyard,
      toNat_incidentByte, hslot]
    rw [h, ← List.append_assoc]
  · simp only [List.length_append, List.length_cons, List.length_nil, length_highLow, List.length_replicate,
      OutFrame.kind, kindLength]
    omega

theorem reads_watchHit (tag : Tag) (k : SlotIx) (leg : Leg) :
    OutFrame.reads yard (.watchHit tag k leg) ([yard] ++ highLow tag ++ [16 * k.val + legBit leg]) := by
  refine ⟨?_, rfl⟩
  simp only [framePayload, List.map_append, List.map_cons, List.map_nil, map_toNat_wordBytes, toNat_yardByte hyard,
    toNat_slotLegByte]

theorem reads_status (m : HoldMask) {state : NodeState} (captured : Option IncidentKind) {further seconds : Nat}
    {slots : List SlotStatus} (hstate : state ≠ .reset) (hfurther : further ≤ 255) (hseconds : seconds ≤ 65535)
    (hlength : slots.length = 4) (hslots : ∀ x ∈ slots, x.queueLength ≤ 7 ∧ x.zoneCount ≤ 3) :
    OutFrame.reads yard (.status m state captured further seconds slots)
      ([yard, bitsValue m.bits, 64 * codeIn nodeStateColumn state + captureCode captured, further, seconds / 256,
          seconds % 256]
        ++ slots.flatMap (fun x =>
          [codeIn serviceColumn x.service, 64 * pointNumber x.point + 8 * x.queueLength + x.zoneCount])) := by
  have hword : highLow (BitVec.ofNat 16 seconds) = [seconds / 256, seconds % 256] := by
    unfold highLow
    rw [BitVec.toNat_ofNat, Nat.mod_eq_of_lt (by omega)]
  have hbytes : (slots.flatMap slotStatusBytes).map BitVec.toNat = slots.flatMap (fun x =>
      [codeIn serviceColumn x.service, 64 * pointNumber x.point + 8 * x.queueLength + x.zoneCount]) := by
    rw [List.map_flatMap]
    refine List.flatMap_congr fun x hx => ?_
    obtain ⟨hq, hz⟩ := hslots x hx
    exact map_toNat_slotStatusBytes hq hz
  refine ⟨?_, ?_⟩
  · simp only [framePayload, List.map_append, List.map_cons, List.map_nil, map_toNat_wordBytes, toNat_yardByte hyard,
      HoldMask.toNat_toByte, toNat_stateByte hstate, toNat_byteOf hfurther, hword, hbytes]
    rfl
  · simp [OutFrame.kind, kindLength, hlength]

end

end Sys2Proof.Machine
end

section
/-! SUPPORT. A HANDOFF from the sender's bits to the receiver's fields (R88, R100, R169). -/

namespace Sys2Proof.Machine

/-- Chapter 12: a word is read back from its two bytes. -/
theorem bytesWord_wordBytes (w : BitVec 16) : bytesWord (w.extractLsb' 8 8) (w.extractLsb' 0 8) = w := by
  unfold bytesWord
  refine BitVec.eq_of_getLsbD_eq fun i hi => ?_
  rw [BitVec.getLsbD_append]
  split
  · next h => simp [h]
  · next h =>
    have hhigh : i - 8 < 8 := by omega
    have hplace : 8 + (i - 8) = i := by omega
    simp [hhigh, hplace]

/-- Section 12.2: the payload of the HANDOFF that a sender builds. -/
def HandoffFrame.payload (f : HandoffFrame) : HandoffPayload where
  target := byteOf f.targetStation
  targetSlot := (byteOf (16 * f.targetSlot + 2 * f.sourceSlot.val + legCode f.sourceLeg)).extractLsb' 4 4
  sourceSlot := (byteOf (16 * f.targetSlot + 2 * f.sourceSlot.val + legCode f.sourceLeg)).extractLsb' 1 3
  sourceLeg := legOfBit ((byteOf (16 * f.targetSlot + 2 * f.sourceSlot.val + legCode f.sourceLeg)).getLsbD 0)
  seq := f.seq
  tag := f.contents.tag
  destination := byteOf f.contents.destination
  originalDestination := trackByte f.contents.originalDestination
  expectedAxles := byteOf f.contents.expectedAxles
  cutClass := byteOf f.contents.cutClass
  flags := f.contents.flags.toWord false
  companionTag := (f.contents.companion.map Companion.tag).getD 0
  companionDestination := byteOf ((f.contents.companion.map Companion.destination).getD 0)

/-- Section 12.2: the receiver takes the sender's payload. -/
theorem takeFrame_handoff (yard : Nat) (origin : Station) (f : HandoffFrame) (s : State) :
    takeFrame ⟨origin, .handoff, framePayload yard (.handoff f)⟩ s = s.takeHandoff origin f.payload := by
  have hword := bytesWord_wordBytes
  obtain ⟨target, slot, k, leg, seq, tag, d, o, e, c, flags, companion⟩ := f
  cases companion with
  | none =>
    refine congrArg (s.takeHandoff origin) (?_ : handoffOfBytes _ _ _ _ _ _ _ _ _ _ _ 0 0 0 = _)
    unfold handoffOfBytes
    rw [hword, hword]
    rfl
  | some x =>
    refine congrArg (s.takeHandoff origin) (?_ : handoffOfBytes _ _ _ _ _ _ _ _ _ _ _ _ _ _ = _)
    unfold handoffOfBytes
    rw [hword, hword, hword]
    rfl

/-- R143: the bits of a frame that a node builds with its kind's length are taken as that frame. -/
theorem exec_sentBits (c : NodeConfig) (f : OutFrame) (s : State)
    (h : (framePayload c.yardStation f).length = kindLength f.kind) :
    exec (.frameDiscarded (sentBits c f)) s = finish s (takeFrame (rawFrame c f) s) := by
  show execFrameDiscarded (frameBits (rawFrame c f)) s = _
  unfold execFrameDiscarded
  rw [judge_frameBits h]

/-- R169: the fields of the slot byte. -/
theorem HandoffFrame.payload_slots (f : HandoffFrame) (h : f.targetSlot ≤ 3) :
    f.payload.targetSlot.toNat = f.targetSlot ∧ f.payload.sourceSlot.toNat = f.sourceSlot.val
      ∧ f.payload.sourceLeg = f.sourceLeg := by
  have hleg := legBit_le f.sourceLeg
  have hsource := f.sourceSlot.isLt
  have hbyte := toNat_byteOf (n := 16 * f.targetSlot + 2 * f.sourceSlot.val + legBit f.sourceLeg) (by omega)
  unfold HandoffFrame.payload
  rw [legCode_eq]
  refine ⟨?_, ?_, ?_⟩
  · rw [BitVec.extractLsb'_toNat, hbyte, Nat.shiftRight_eq_div_pow]
    omega
  · rw [BitVec.extractLsb'_toNat, hbyte, Nat.shiftRight_eq_div_pow]
    omega
  · rw [BitVec.getLsbD, hbyte, Nat.testBit_zero]
    have hodd : 16 * f.targetSlot + 2 * f.sourceSlot.val + legBit f.sourceLeg
        = legBit f.sourceLeg + 2 * (8 * f.targetSlot + f.sourceSlot.val) := by ring
    rw [hodd, Nat.add_mul_mod_self_left]
    cases f.sourceLeg <;> rfl

/-- Chapter 12: an original destination is present in its byte when it is present. -/
theorem trackByte_ne_zero_iff {o : Option Nat} (h : ∀ d, o = some d → 1 ≤ d ∧ d ≤ 63) :
    trackByte o ≠ 0 ↔ o.isSome = true := by
  cases o with
  | none => exact iff_of_false (fun hne => hne rfl) nofun
  | some d =>
    obtain ⟨hlo, hhi⟩ := h d rfl
    have hbyte : (trackByte (some d)).toNat = d := toNat_byteOf (by omega)
    refine iff_of_true (fun hzero => ?_) rfl
    rw [hzero] at hbyte
    exact absurd hbyte.symm (Nat.ne_of_gt hlo)

/-- Chapter 12: an original destination is read back from its byte. -/
theorem optionalTrack_trackByte {o : Option Nat} (h : ∀ d, o = some d → 1 ≤ d ∧ d ≤ 63) :
    optionalTrack (trackByte o) = o := by
  have hne := trackByte_ne_zero_iff h
  unfold optionalTrack
  cases o with
  | none => rfl
  | some d =>
    obtain ⟨_, hhi⟩ := h d rfl
    rw [if_neg (hne.mpr rfl)]
    exact congrArg some (toNat_byteOf (by omega))

/-- R169: what the fields of a HANDOFF must be for it to reach the receiver whole. -/
structure HandoffFrame.Sendable (f : HandoffFrame) : Prop where
  slot : f.targetSlot ≤ 3
  destination : f.contents.destination ≤ 63
  expectedAxles : f.contents.expectedAxles ≤ 250
  cutClass : f.contents.cutClass ≤ 3
  originalDestination : ∀ d, f.contents.originalDestination = some d → 1 ≤ d ∧ d ≤ 63
  companion : ∀ x, f.contents.companion = some x → x.tag ≠ 0 ∧ x.destination ≤ 63
  translated : f.contents.flags.translated = f.contents.originalDestination.isSome
  merged : f.contents.flags.merged = f.contents.companion.isSome

section
variable {f : HandoffFrame} (h : f.Sendable)
include h

/-- R100: the receiver reads the sender's contents. -/
theorem payloadContents_payload : payloadContents f.payload = f.contents := by
  have hd : (byteOf f.contents.destination).toNat = _ := toNat_byteOf (by have := h.destination; omega)
  have he : (byteOf f.contents.expectedAxles).toNat = _ := toNat_byteOf (by have := h.expectedAxles; omega)
  have hc : (byteOf f.contents.cutClass).toNat = _ := toNat_byteOf (by have := h.cutClass; omega)
  have ho := optionalTrack_trackByte h.originalDestination
  have hx : optionalCompanion f.payload.companionTag f.payload.companionDestination = f.contents.companion := by
    have hbound := h.companion
    unfold optionalCompanion HandoffFrame.payload
    cases hcompanion : f.contents.companion with
    | none => rfl
    | some x =>
      obtain ⟨htag, hdest⟩ := hbound x hcompanion
      refine (if_neg htag).trans ?_
      exact congrArg (fun d => some (Companion.mk x.tag d)) (toNat_byteOf (hdest.trans (by decide)))
  unfold payloadContents
  rw [hx]
  unfold HandoffFrame.payload
  rw [hd, he, hc, ho, Flags.ofWord_toWord]

/-- R169: the sender's companion tag is present when the companion is. -/
theorem companionTag_payload_ne_zero_iff : f.payload.companionTag ≠ 0 ↔ f.contents.companion.isSome = true := by
  have hbound := h.companion
  unfold HandoffFrame.payload
  cases hcompanion : f.contents.companion with
  | none => exact iff_of_false (fun hne => hne rfl) nofun
  | some x => exact iff_of_true (hbound x hcompanion).1 rfl

/-- R169: the sender's HANDOFF passes the receiver's check. -/
theorem payloadAcceptable_payload : payloadAcceptable f.payload = true := by
  have hflags (i : Nat) : f.payload.flags.getLsbD i = (f.contents.flags.bits false).getD i false := by
    rw [← Flags.getLsbD_toWord]
    rfl
  have hd : (byteOf f.contents.destination).toNat = _ := toNat_byteOf (by have := h.destination; omega)
  have he : (byteOf f.contents.expectedAxles).toNat = _ := toNat_byteOf (by have := h.expectedAxles; omega)
  have hc : (byteOf f.contents.cutClass).toNat = _ := toNat_byteOf (by have := h.cutClass; omega)
  have ho : (trackByte f.contents.originalDestination).toNat ≤ 63 := by
    rw [toNat_trackByte fun d hd => (h.originalDestination d hd).2]
    cases ho : f.contents.originalDestination with
    | none => exact Nat.zero_le _
    | some d => exact (h.originalDestination d ho).2
  have hx : f.payload.companionDestination.toNat ≤ 63 := by
    have hbound := h.companion
    unfold HandoffFrame.payload
    cases hcompanion : f.contents.companion with
    | none => exact Nat.zero_le _
    | some x =>
      obtain ⟨_, hdest⟩ := hbound x hcompanion
      exact (toNat_byteOf (hdest.trans (by decide))).trans_le hdest
  rw [payloadAcceptable_iff]
  refine ⟨hd.trans_le h.destination, ho, he.trans_le h.expectedAxles, hc.trans_le h.cutClass, hx, ?_, ?_⟩
  · rw [hflags]
    exact (Bool.eq_iff_iff.mp h.translated).trans (trackByte_ne_zero_iff h.originalDestination).symm
  · rw [hflags]
    exact (Bool.eq_iff_iff.mp h.merged).trans (companionTag_payload_ne_zero_iff h).symm

end

/-- Settles O33: the sender's bits are judged as the frame of its payload, whose bytes are the fields in their places,
and the receiver reads the fields of a HANDOFF back from them. -/
theorem framesCarryTheirFieldsInTheirPlaces : Obligations.FramesCarryTheirFieldsInTheirPlaces := by
  unfold Obligations.FramesCarryTheirFieldsInTheirPlaces
  refine ⟨?_, fun _ _ => rfl, ⟨kindTable_codes, mem_kindTable⟩, ?_, ?_⟩
  · intro c f htarget hslot hd he hc ho hx htranslated hmerged
    have hf : f.Sendable := ⟨hslot, hd, he, hc, ho, hx, htranslated, hmerged⟩
    obtain ⟨hbytes, hlength⟩ := reads_handoff c.yardStation htarget hslot hd (fun d h => (ho d h).2) he hc
      (fun x h => (hx x h).2)
    rw [← hbytes, List.length_map] at hlength
    obtain ⟨htargetSlot, hsourceSlot, hsourceLeg⟩ := f.payload_slots hslot
    refine ⟨f.payload, fun s => ?_, toNat_byteOf (htarget.trans (by decide)), htargetSlot, hsourceSlot, hsourceLeg, rfl,
      payloadAcceptable_payload hf, payloadContents_payload hf⟩
    exact (exec_sentBits c (.handoff f) s hlength).trans (congrArg (finish s) (takeFrame_handoff ..))
  · intro yard hyard
    refine ⟨fun role _ sum => reads_start yard role sum, fun m _ => reads_holdState yard m,
      fun _ => reads_handoff yard, fun _ _ seq tag result => reads_handoffReply yard seq tag result,
      fun row hrow argument result => ?_,
      fun tag _ _ _ f seq receipt => reads_released hyard tag f seq receipt,
      fun k leg _ tag _ _ f misrouted _ => reads_arrival hyard k leg tag f misrouted,
      fun i captured _ => reads_incident hyard i captured, reads_watchHit hyard, ?_⟩
    · obtain ⟨hcode, _, _⟩ := kindTable_codes row hrow
      exact hcode ▸ reads_commandReply hyard row.1 argument result
    · intro m _ captured _ _ _ hstate hfurther hseconds hlength hslots
      have h := reads_status hyard m captured hstate hfurther hseconds hlength hslots
      cases captured with
      | none => exact h
      | some kind =>
        have hcode : captureCode (some kind) = codeIn incidentColumn kind + 1 := incidentCode_eq kind
        rw [hcode] at h
        exact h
  · have hstation {n : Nat} (h : n ≤ 62) : (byteOf n).toNat = n := toNat_byteOf (h.trans (by decide))
    have hslot {n : Nat} (h : n ≤ 3) : (byteOf n).toNat = n := toNat_byteOf (h.trans (by decide))
    exact ⟨Detail.reads_of_map rfl,
      fun _ => .two rfl rfl rfl,
      .one rfl rfl,
      fun adopted _ _ hnode => .three rfl (toNat_flagByte adopted) rfl (hstation hnode),
      fun _ haxles _ hexpected => .two rfl (toNat_byteOf haxles) (toNat_byteOf (hexpected.trans (by decide))),
      fun _ hn => ⟨.one rfl (toNat_byteOf hn), .one rfl (toNat_byteOf hn)⟩,
      fun leg => .one rfl (toNat_legByte leg),
      fun _ hd => .one rfl (toNat_byteOf (hd.trans (by decide))),
      fun taken axle => .two rfl (toNat_legByte taken) (toNat_legByte axle),
      fun taken point => .two rfl (toNat_legByte taken) (toNat_pointByte point),
      fun x d => .three rfl rfl (toNat_sensorByte x) (toNat_directionByte d),
      fun _ hn _ ha _ hb => .four rfl rfl (toNat_byteOf hn) (toNat_byteOf ha) (toNat_byteOf hb),
      fun x => .one rfl (toNat_sensorByte x),
      fun phase _ hn _ hm => .three rfl (toNat_phaseByte phase) (toNat_byteOf hn) (toNat_byteOf hm),
      fun _ => .one rfl rfl,
      fun leg _ hn => .two rfl (toNat_legByte leg) (toNat_byteOf hn),
      fun leg phase => .two rfl (toNat_legByte leg) (toNat_throwPhaseByte phase),
      fun point a b => .two rfl (toNat_pointByte point) (toNat_lostBitsByte a b),
      fun _ hst _ hsl _ => ⟨.three rfl (hstation hst) (hslot hsl) rfl,
        fun result => .four rfl (toNat_handoffResultByte result) (hstation hst) (hslot hsl) rfl⟩,
      fun listEmpty _ => .two rfl (toNat_flagByte listEmpty) rfl,
      fun row hrow => by
        obtain ⟨hcode, hurgency, _⟩ := kindTable_codes row hrow
        exact .two rfl ((toNat_kindByte row.1).trans hcode) ((toNat_urgencyByte row.1).trans hurgency)⟩

end Sys2Proof.Machine
end

section
/-! SUPPORT. The configuration image (R163, R164, section 12.5): the memory passes exactly when every check of R164
holds of its bytes, and then it gives the configuration that they spell. -/

namespace Sys2Proof.Machine

/-! ### The configuration that bytes spell -/

/-- A leg of its code. -/
def legAt (n : Nat) : Leg := if n = 1 then .reverse else .normal

/-- R164: the leg end of its node and its track or slot. -/
def legEndAt (node x : Nat) : LegEnd := if node = 0 then .track x else .slot node x

/-- Section 12.5: the slot record at an offset. -/
def slotConfigAt (b : Nat → Nat) (o : Nat) : SlotConfig where
  reachFirst := b o
  split := b (o + 1)
  reachLast := b (o + 2)
  strayLeg := legAt (b (o + 3))
  feedNode := b (o + 4)
  feedSlot := b (o + 5)
  feedLeg := legAt (b (o + 6))
  normalEnd := legEndAt (b (o + 7)) (b (o + 8))
  reverseEnd := legEndAt (b (o + 9)) (b (o + 10))
  throwLimit := 50 * b (o + 11)
  retries := b (o + 12)
  gapTime := 10 * b (o + 13)
  stallTime := 1000 * b (o + 14)
  overdueTime := 1000 * b (o + 15)
  pressureThreshold := b (o + 16)

/-- Section 12.5: the crest record. -/
def crestConfigAt (b : Nat → Nat) : CrestConfig where
  rejectTrack := b 11
  roster := (List.range (b 12)).map (fun i => b (13 + i))
  intervals := (List.range 16).map (fun i => b (13 + b 12 + i))

/-- Section 12.5: the slot records of a node, slot 0 upward. -/
def slotConfigsAt (b : Nat → Nat) : List SlotConfig :=
  (List.range (b 6)).map (fun k => slotConfigAt b (firstSlotRecord b + 17 * k))

/-- Section 12.5: the configuration that bytes spell. -/
def nodeConfigAt (b : Nat → Nat) : NodeConfig where
  node := b 4
  role := if b 5 = 1 then .crest else .tree
  slotCount := b 6
  yardStation := b 7
  bitRate := if b 8 = 1 then .kbit62 else .kbit125
  handoffTimeout := 10 * b 9
  holdOnIncident := decide (b 10 = 1)
  crest := if b 5 = 1 then some (crestConfigAt b) else none
  slots := slotConfigsAt b
  imageSum := BitVec.ofNat 16 (256 * b (b 2 - 2) + b (b 2 - 1))

/-! ### Codes -/

theorem legOfCode_eq_some_iff (n : Nat) (leg : Leg) : legOfCode n = some leg ↔ n ≤ 1 ∧ leg = legAt n := by
  match n with
  | 0 => simp [legOfCode, legAt, eq_comm]
  | 1 => simp [legOfCode, legAt, eq_comm]
  | n + 2 => simp [legOfCode]

theorem legCode_legAt {n : Nat} (h : n ≤ 1) : legCode (legAt n) = n := by
  match n with
  | 0 => rfl
  | 1 => rfl
  | n + 2 => omega

theorem inRange_iff (lo hi n : Nat) : inRange lo hi n = true ↔ lo ≤ n ∧ n ≤ hi := by
  unfold inRange
  rw [Bool.and_eq_true, decide_eq_true_iff, decide_eq_true_iff]

/-- R164: a leg end is read exactly when it holds. -/
theorem legEndOfCodes_eq_some_iff (yard node x : Nat) (e : LegEnd) :
    legEndOfCodes yard node x = some e ↔ LegEndHolds yard node x ∧ e = legEndAt node x := by
  unfold legEndOfCodes LegEndHolds legEndAt
  by_cases hnode : node = 0
  · by_cases hx : 1 ≤ x ∧ x ≤ 63
    · simp [hnode, (inRange_iff 1 63 x).mpr hx, hx, eq_comm]
    · simp [hnode, inRange_iff, hx]
  · have hpos : 1 ≤ node := Nat.pos_of_ne_zero hnode
    by_cases hslot : node ≤ 62 ∧ node ≠ yard ∧ x ≤ 3
    · simp [hnode, hslot, hpos, eq_comm]
    · simp [hnode, hslot, hpos]

theorem roleOfCode_eq_some_iff (n : Nat) (role : Role) :
    roleOfCode n = some role ↔ n ≤ 1 ∧ role = if n = 1 then .crest else .tree := by
  match n with
  | 0 => simp [roleOfCode, eq_comm]
  | 1 => simp [roleOfCode, eq_comm]
  | n + 2 => simp [roleOfCode]

theorem bitRateOfCode_eq_some_iff (n : Nat) (rate : BitRate) :
    bitRateOfCode n = some rate ↔ (1 ≤ n ∧ n ≤ 2) ∧ rate = if n = 1 then .kbit62 else .kbit125 := by
  match n with
  | 0 => simp [bitRateOfCode]
  | 1 => simp [bitRateOfCode, eq_comm]
  | 2 => simp [bitRateOfCode, eq_comm]
  | n + 3 => simp [bitRateOfCode]

theorem yesOfCode_eq_some_iff (n : Nat) (yes : Bool) : yesOfCode n = some yes ↔ n ≤ 1 ∧ yes = decide (n = 1) := by
  match n with
  | 0 => simp [yesOfCode, eq_comm]
  | 1 => simp [yesOfCode, eq_comm]
  | n + 2 => simp [yesOfCode]

/-- Parts that are each read exactly when they hold are read together exactly when all hold. -/
theorem mapM_eq_some_iff {α β : Type} {f : α → Option β} {p : α → Prop} {g : α → β} {l : List α}
    (h : ∀ a ∈ l, ∀ x, f a = some x ↔ p a ∧ x = g a) (r : List β) :
    l.mapM f = some r ↔ (∀ a ∈ l, p a) ∧ r = l.map g := by
  induction l generalizing r with
  | nil => simp [eq_comm]
  | cons a l ih =>
    have htail := ih fun x hx => h x (List.mem_cons_of_mem a hx)
    have hhead := h a List.mem_cons_self
    simp only [List.mapM_cons, Option.bind_eq_bind, Option.bind_eq_some_iff, htail, hhead, List.forall_mem_cons,
      List.map_cons]
    constructor
    · rintro ⟨x, ⟨hp, rfl⟩, ys, ⟨hall, rfl⟩, hr⟩
      exact ⟨⟨hp, hall⟩, (Option.some.inj hr).symm⟩
    · rintro ⟨⟨hp, hall⟩, rfl⟩
      exact ⟨_, ⟨hp, rfl⟩, _, ⟨hall, rfl⟩, rfl⟩

/-- R164: the roster numbers. -/
theorem rosterHolds_iff_forall (node yard : Nat) (roster : List Nat) : rosterHolds node yard roster = true
    ↔ (∀ n ∈ roster, 1 ≤ n ∧ n ≤ 62 ∧ n ≠ node ∧ n ≠ yard) ∧ roster.Nodup := by
  unfold rosterHolds
  rw [Bool.and_eq_true, List.all_eq_true, decide_eq_true_iff]
  simp only [Bool.and_eq_true, inRange_iff, bne_iff_ne, ne_eq, and_assoc]

/-- R164: the roster numbers, byte by byte. -/
theorem rosterHolds_iff (b : Nat → Nat) (node yard n : Nat) :
    rosterHolds node yard ((List.range n).map (fun i => b (13 + i))) = true ↔ (∀ i < n, 1 ≤ b (13 + i) ∧ b (13 + i) ≤ 62 ∧ b (13 + i) ≠ node ∧ b (13 + i) ≠ yard)
      ∧ ∀ i < n, ∀ j < i, b (13 + i) ≠ b (13 + j) := by
  rw [rosterHolds_iff_forall, List.forall_mem_map]
  refine and_congr ?_ ?_
  · simp only [List.mem_range]
  · rw [List.nodup_map_iff_inj_on List.nodup_range]
    simp only [List.mem_range]
    constructor
    · intro h i hi j hj heq
      exact absurd (h i hi j (hj.trans hi) heq) (Nat.ne_of_gt hj)
    · intro h i hi j hj heq
      rcases Nat.lt_trichotomy i j with hij | hij | hij
      · exact absurd heq.symm (h j hj i hij)
      · exact hij
      · exact absurd heq (h i hi j hij)

/-! ### The records -/

section
variable {b : Nat → Nat} {l : List Nat} (hl : ∀ i < l.length, imageAt l i = b i)
include hl

/-- R164: the checks of a slot record in the model's parts. -/
theorem slotRecordHolds_iff {o : Nat} (ho : o + 17 ≤ l.length) (crestFeed : Bool) :
    SlotRecordHolds b o (crestFeed = true) ↔ b (o + 3) ≤ 1 ∧ b (o + 6) ≤ 1
      ∧ LegEndHolds (b 7) (b (o + 7)) (b (o + 8)) ∧ LegEndHolds (b 7) (b (o + 9)) (b (o + 10))
      ∧ slotRangesHold l o crestFeed = true := by
  have hbyte (j : Nat) (hj : j < 17) : imageAt l (o + j) = b (o + j) := hl _ (by omega)
  have hfirst : imageAt l o = b o := hbyte 0 (by decide)
  have hfeed (n : Nat) : crestFeed = true ∨ n ≠ 0 ↔ (n = 0 → crestFeed = true) := by
    by_cases hn : n = 0 <;> simp [hn]
  unfold SlotRecordHolds slotRangesHold
  simp only [hfirst, hbyte, Bool.and_eq_true, inRange_iff, decide_eq_true_eq, Bool.or_eq_true, hfeed, Nat.reduceLT]
  tauto

/-- R164: a slot record is read exactly when it holds. -/
theorem slotRecord_eq_some_iff {o : Nat} (ho : o + 17 ≤ l.length) (crestFeed : Bool) (x : SlotConfig) :
    slotRecord l o (b 7) crestFeed = some x
      ↔ SlotRecordHolds b o (crestFeed = true) ∧ x = slotConfigAt b o := by
  have hbyte (j : Nat) (hj : j < 17) : imageAt l (o + j) = b (o + j) := hl _ (by omega)
  have hfirst : imageAt l o = b o := hbyte 0 (by decide)
  rw [slotRecordHolds_iff hl ho]
  unfold slotRecord
  simp only [hfirst, hbyte, Nat.reduceLT]
  constructor
  · intro h
    split at h
    · next hstray hfeed hnormal hreverse =>
      obtain ⟨hstrayLe, rfl⟩ := (legOfCode_eq_some_iff ..).mp hstray
      obtain ⟨hfeedLe, rfl⟩ := (legOfCode_eq_some_iff ..).mp hfeed
      obtain ⟨hnormalEnd, rfl⟩ := (legEndOfCodes_eq_some_iff ..).mp hnormal
      obtain ⟨hreverseEnd, rfl⟩ := (legEndOfCodes_eq_some_iff ..).mp hreverse
      split at h
      · next hranges => exact ⟨⟨hstrayLe, hfeedLe, hnormalEnd, hreverseEnd, hranges⟩, (Option.some.inj h).symm⟩
      · exact nomatch h
    · exact nomatch h
  · rintro ⟨⟨hstray, hfeed, hnormal, hreverse, hranges⟩, rfl⟩
    rw [(legOfCode_eq_some_iff ..).mpr ⟨hstray, rfl⟩, (legOfCode_eq_some_iff ..).mpr ⟨hfeed, rfl⟩,
      (legEndOfCodes_eq_some_iff ..).mpr ⟨hnormal, rfl⟩, (legEndOfCodes_eq_some_iff ..).mpr ⟨hreverse, rfl⟩]
    exact if_pos hranges

/-- R164: the slot records are read exactly when each holds. -/
theorem slotRecords_eq_some_iff {o count : Nat} (ho : o + 17 * count ≤ l.length) (crest : Bool)
    (slots : List SlotConfig) : slotRecords l o (b 7) count crest = some slots
      ↔ (∀ k < count, SlotRecordHolds b (o + 17 * k) (k = 0 ∧ crest = true))
        ∧ slots = (List.range count).map (fun k => slotConfigAt b (o + 17 * k)) := by
  have hfeed (k : Nat) : (crest && k == 0) = true ↔ k = 0 ∧ crest = true := by
    rw [Bool.and_eq_true, beq_iff_eq, and_comm]
  refine (mapM_eq_some_iff (p := fun k => SlotRecordHolds b (o + 17 * k) (k = 0 ∧ crest = true))
    (g := fun k => slotConfigAt b (o + 17 * k)) (fun k hk x => ?_) slots).trans (by simp only [List.mem_range])
  rw [slotRecord_eq_some_iff hl (by have := List.mem_range.mp hk; omega), hfeed]

/-- R164: the crest record's roster, byte by byte. -/
theorem crestRecord_roster (hspace : 13 + b 12 ≤ l.length) :
    (crestRecord l).roster = (List.range (b 12)).map (fun i => b (13 + i)) := by
  unfold crestRecord
  dsimp only
  rw [hl 12 (by omega)]
  refine List.map_congr_left fun i hi => hl _ ?_
  have := List.mem_range.mp hi
  omega

theorem crestRecord_eq (hspace : 29 + b 12 ≤ l.length) : crestRecord l = crestConfigAt b := by
  have hroster := crestRecord_roster hl (show 13 + b 12 ≤ l.length by omega)
  have hintervals : (crestRecord l).intervals = (List.range 16).map (fun i => b (13 + b 12 + i)) := by
    unfold crestRecord
    dsimp only
    rw [hl 12 (by omega)]
    refine List.map_congr_left fun i hi => hl _ ?_
    have := List.mem_range.mp hi
    omega
  have hreject : (crestRecord l).rejectTrack = b 11 := hl 11 (by omega)
  unfold crestConfigAt
  rw [← hroster, ← hintervals, ← hreject]

omit hl in
theorem SlotConfig.inReach_iff (x : SlotConfig) (d : Nat) :
    x.inReach d = true ↔ x.reachFirst ≤ d ∧ d ≤ x.reachLast := by
  unfold SlotConfig.inReach
  rw [Bool.and_eq_true, decide_eq_true_iff, decide_eq_true_iff]

/-- R164: the checks of the crest record, in the bytes. -/
theorem crestHolds_iff (hspace : 13 + b 12 ≤ l.length) {slots : List SlotConfig} {o : Nat}
    (hhead : slots.getD 0 SlotConfig.blank = slotConfigAt b o) :
    crestHolds l slots = true ↔ CrestRecordHolds b o := by
  unfold crestHolds CrestRecordHolds
  rw [crestRecord_roster hl hspace, hl 11 (by omega), hl 12 (by omega), hl 4 (by omega), hl 7 (by omega), hhead]
  simp only [Bool.and_eq_true, rosterHolds_iff, inRange_iff, decide_eq_true_eq, SlotConfig.inReach_iff]
  unfold slotConfigAt
  tauto

end

/-! ### The image -/

/-- R164: an image is read exactly when its codes name a role, a bit rate and a choice, its frame, its node record and
its slot records hold, and its crest part does. -/
theorem checkImage_eq_some_iff (l : List Nat) (c : NodeConfig) : checkImage l = some c ↔ ∃ role rate hold slots,
    roleOfCode (imageAt l 5) = some role ∧ bitRateOfCode (imageAt l 8) = some rate
      ∧ yesOfCode (imageAt l 10) = some hold ∧ frameOfImageHolds l role = true ∧ nodeRangesHold l = true
      ∧ slotRecords l (slotsOffset l role) (imageAt l 7) (imageAt l 6) (role == .crest) = some slots
      ∧ crestPartHolds l slots role = true ∧ nodeConfig l role rate hold slots = c := by
  unfold checkImage
  constructor
  · intro h
    split at h
    · next role rate hold hrole hrate hhold =>
      split at h
      · next hboth =>
        obtain ⟨hframe, hnode⟩ := (Bool.and_eq_true _ _).mp hboth
        split at h
        · next slots hslots =>
          split at h
          · next hcrest =>
            exact ⟨role, rate, hold, slots, hrole, hrate, hhold, hframe, hnode, hslots, hcrest, Option.some.inj h⟩
          · exact nomatch h
        · exact nomatch h
      · exact nomatch h
    · exact nomatch h
  · rintro ⟨role, rate, hold, slots, hrole, hrate, hhold, hframe, hnode, hslots, hcrest, rfl⟩
    rw [hrole, hrate, hhold]
    simp only [hframe, hnode, Bool.and_self, if_true, hslots, hcrest]

/-- R164: the role of a role code that holds. -/
def roleAt (b : Nat → Nat) : Role := if b 5 = 1 then .crest else .tree

theorem roleAt_beq_crest (b : Nat → Nat) : (roleAt b == .crest) = true ↔ b 5 = 1 := by
  unfold roleAt
  split <;> simp [*]

/-- R163: the bytes read, as many as the third byte says. -/
def bytesRead (b : Nat → Nat) : List Nat := (List.range (b 2)).map b

section
variable {b : Nat → Nat}

@[simp] theorem length_bytesRead : (bytesRead b).length = b 2 := by
  unfold bytesRead
  rw [List.length_map, List.length_range]

theorem imageAt_bytesRead : ∀ i < (bytesRead b).length, imageAt (bytesRead b) i = b i := by
  intro i hi
  rw [length_bytesRead] at hi
  unfold imageAt bytesRead
  rw [List.getD_eq_getElem?_getD, List.getElem?_map, List.getElem?_range hi]
  rfl

variable (hshort : 30 ≤ b 2)
include hshort

/-- A byte of the fixed part of an image. -/
theorem imageAt_bytesRead_fixed {i : Nat} (h : i < 30) : imageAt (bytesRead b) i = b i :=
  imageAt_bytesRead i (by rw [length_bytesRead]; omega)

theorem sumField_bytesRead : sumField (bytesRead b) = 256 * b (b 2 - 2) + b (b 2 - 1) := by
  unfold sumField
  rw [length_bytesRead, imageAt_bytesRead _ (by rw [length_bytesRead]; omega),
    imageAt_bytesRead _ (by rw [length_bytesRead]; omega)]

omit hshort in
theorem imageSum_bytesRead : imageSum (bytesRead b) = ((List.range (b 2 - 2)).map b).sum % 65536 := by
  unfold imageSum
  rw [length_bytesRead]
  unfold bytesRead
  rw [← List.map_take, List.take_range, Nat.min_eq_left (Nat.sub_le _ _)]

/-- R164: where the slot records begin and where the image ends. -/
theorem slotsOffset_bytesRead : slotsOffset (bytesRead b) (roleAt b) = firstSlotRecord b := by
  unfold roleAt firstSlotRecord
  split
  · exact congrArg (29 + ·) (imageAt_bytesRead_fixed hshort (by decide))
  · rfl

omit hshort in
theorem lengthOfContents_roleAt : lengthOfContents (roleAt b) (b 6) (b 12) = firstSlotRecord b + 17 * b 6 + 2 := by
  unfold roleAt firstSlotRecord
  split <;> simp only [lengthOfContents] <;> omega

/-- R164: marker, length, format and sum. -/
theorem frameOfImageHolds_iff (hlong : b 2 ≤ 130) :
    frameOfImageHolds (bytesRead b) (roleAt b) = true ↔ ImageFrameHolds b := by
  have hfixed (i : Nat) (h : i < 30) := imageAt_bytesRead_fixed hshort h
  unfold frameOfImageHolds ImageFrameHolds
  simp only [hfixed, Nat.reduceLT, length_bytesRead, sumField_bytesRead hshort, imageSum_bytesRead,
    lengthOfContents_roleAt, Bool.and_eq_true, decide_eq_true_eq]
  tauto

omit hshort in
theorem ImageFrameHolds.length (h : ImageFrameHolds b) : b 2 = firstSlotRecord b + 17 * b 6 + 2 := by
  obtain ⟨_, _, _, _, _, hlength, _⟩ := h
  exact hlength

omit hshort in
theorem NodeRecordHolds.slotCount (h : NodeRecordHolds b) : 1 ≤ b 6 := by
  obtain ⟨_, _, _, hcount, _⟩ := h
  exact hcount

/-- R164: the node record, its codes apart. -/
theorem nodeRecordHolds_iff : NodeRecordHolds b
    ↔ b 5 ≤ 1 ∧ (1 ≤ b 8 ∧ b 8 ≤ 2) ∧ b 10 ≤ 1 ∧ nodeRangesHold (bytesRead b) = true := by
  have hfixed (i : Nat) (h : i < 30) := imageAt_bytesRead_fixed hshort h
  unfold nodeRangesHold NodeRecordHolds
  simp only [hfixed, Nat.reduceLT, Bool.and_eq_true, inRange_iff, decide_eq_true_eq]
  tauto

omit hshort in
/-- R164: the crest part of an image whose slot records are read. -/
theorem crestPartHolds_iff (hlength : b 2 = firstSlotRecord b + 17 * b 6 + 2) (hcount : 1 ≤ b 6) :
    crestPartHolds (bytesRead b) (slotConfigsAt b) (roleAt b) = true
      ↔ (b 5 = 1 → CrestRecordHolds b (firstSlotRecord b)) := by
  unfold roleAt
  by_cases hrole : b 5 = 1
  · have hfirst : firstSlotRecord b = 29 + b 12 := if_pos hrole
    have hspace : 13 + b 12 ≤ (bytesRead b).length := by rw [length_bytesRead]; omega
    have hhead : (slotConfigsAt b).getD 0 SlotConfig.blank = slotConfigAt b (firstSlotRecord b) := by
      unfold slotConfigsAt
      rw [List.getD_eq_getElem?_getD, List.getElem?_map, List.getElem?_range hcount]
      rfl
    rw [if_pos hrole]
    exact (crestHolds_iff imageAt_bytesRead hspace hhead).trans (by simp [hrole])
  · rw [if_neg hrole]
    simp [hrole, crestPartHolds]

/-- Section 12.5: the configuration of the bytes read. -/
theorem nodeConfig_bytesRead (hlength : b 2 = firstSlotRecord b + 17 * b 6 + 2) :
    nodeConfig (bytesRead b) (roleAt b) (if b 8 = 1 then .kbit62 else .kbit125) (decide (b 10 = 1)) (slotConfigsAt b)
      = nodeConfigAt b := by
  have hfixed (i : Nat) (h : i < 30) := imageAt_bytesRead_fixed hshort h
  unfold nodeConfig nodeConfigAt roleAt
  simp only [hfixed, Nat.reduceLT, sumField_bytesRead hshort]
  by_cases hrole : b 5 = 1
  · have hfirst : firstSlotRecord b = 29 + b 12 := if_pos hrole
    have hcrest : crestRecord (bytesRead b) = crestConfigAt b :=
      crestRecord_eq imageAt_bytesRead (by rw [length_bytesRead]; omega)
    simp only [hrole, if_true, hcrest]
  · simp only [hrole, if_false]

/-- R164: the slot records of the bytes read. -/
theorem slotRecords_bytesRead (hlength : b 2 = firstSlotRecord b + 17 * b 6 + 2) (slots : List SlotConfig) :
    slotRecords (bytesRead b) (slotsOffset (bytesRead b) (roleAt b)) (b 7) (b 6) (roleAt b == .crest) = some slots
      ↔ (∀ k < b 6, SlotRecordHolds b (firstSlotRecord b + 17 * k) (k = 0 ∧ b 5 = 1))
        ∧ slots = slotConfigsAt b := by
  have hspace : firstSlotRecord b + 17 * b 6 ≤ (bytesRead b).length := by rw [length_bytesRead]; omega
  rw [slotsOffset_bytesRead hshort, slotRecords_eq_some_iff imageAt_bytesRead hspace]
  simp only [roleAt_beq_crest]
  rfl

/-- R164: the checks on the bytes read, and the configuration they spell. -/
theorem checkImage_bytesRead (hlong : b 2 ≤ 130) (c : NodeConfig) :
    checkImage (bytesRead b) = some c ↔ ImageHolds b ∧ c = nodeConfigAt b := by
  have hfixed (i : Nat) (h : i < 30) := imageAt_bytesRead_fixed hshort h
  rw [checkImage_eq_some_iff]
  simp only [hfixed, Nat.reduceLT, roleOfCode_eq_some_iff, bitRateOfCode_eq_some_iff, yesOfCode_eq_some_iff]
  constructor
  · rintro ⟨role, rate, hold, slots, ⟨hroleLe, rfl⟩, ⟨hrateIn, rfl⟩, ⟨hholdLe, rfl⟩, hframe, hranges, hslots, hcrest,
      rfl⟩
    have hframe := (frameOfImageHolds_iff hshort hlong).mp hframe
    have hnode := (nodeRecordHolds_iff hshort).mpr ⟨hroleLe, hrateIn, hholdLe, hranges⟩
    have hlength := hframe.length
    have hcount := hnode.slotCount
    obtain ⟨hrecords, rfl⟩ := (slotRecords_bytesRead hshort hlength slots).mp hslots
    exact ⟨⟨hframe, hnode, (crestPartHolds_iff hlength hcount).mp hcrest, hrecords⟩,
      nodeConfig_bytesRead hshort hlength⟩
  · rintro ⟨⟨hframe, hnode, hcrest, hrecords⟩, rfl⟩
    have hlength := hframe.length
    have hcount := hnode.slotCount
    obtain ⟨hroleLe, hrateIn, hholdLe, hranges⟩ := (nodeRecordHolds_iff hshort).mp hnode
    exact ⟨roleAt b, _, _, slotConfigsAt b, ⟨hroleLe, rfl⟩, ⟨hrateIn, rfl⟩, ⟨hholdLe, rfl⟩,
      (frameOfImageHolds_iff hshort hlong).mpr hframe, hranges,
      (slotRecords_bytesRead hshort hlength _).mpr ⟨hrecords, rfl⟩, (crestPartHolds_iff hlength hcount).mpr hcrest,
      nodeConfig_bytesRead hshort hlength⟩

end

/-- R163: the bytes that the memory gives. -/
theorem imageBytes_eq_some_iff (memory : List Byte) (l : List Nat) : imageBytes memory = some l
    ↔ (30 ≤ memoryByte memory 2 ∧ memoryByte memory 2 ≤ 130) ∧ bytesRead (memoryByte memory) = l := by
  unfold imageBytes
  split
  · next h => simp [bytesRead, show 30 ≤ _ ∧ _ ≤ 130 from h]
  · next h => exact iff_of_false nofun fun hand => h hand.1

/-- R163, R164: the memory gives a configuration exactly when every check holds of its bytes, and then the one that
they spell. -/
theorem readImage_eq_some_iff (memory : List Byte) (c : NodeConfig) : readImage memory = some c
    ↔ ImageHolds (memoryByte memory) ∧ c = nodeConfigAt (memoryByte memory) := by
  have hread : readImage memory = (imageBytes memory).bind checkImage := by
    unfold readImage
    cases imageBytes memory <;> rfl
  rw [hread, Option.bind_eq_some_iff]
  simp only [imageBytes_eq_some_iff]
  constructor
  · rintro ⟨_, ⟨⟨hshort, hlong⟩, rfl⟩, hcheck⟩
    exact (checkImage_bytesRead hshort hlong c).mp hcheck
  · rintro ⟨hholds, hc⟩
    obtain ⟨⟨_, _, _, hshort, hlong, _⟩, _⟩ := id hholds
    exact ⟨_, ⟨⟨hshort, hlong⟩, rfl⟩, (checkImage_bytesRead hshort hlong c).mpr ⟨hholds, hc⟩⟩

end Sys2Proof.Machine
end

section
/-! SUPPORT. What a configuration that has been read keeps of its image (R164, section 12.5). -/

namespace Sys2Proof.Machine

theorem memoryByte_lt (memory : List Byte) (i : Nat) : memoryByte memory i < 256 := BitVec.isLt _

section
variable {b : Nat → Nat}

theorem role_nodeConfigAt_eq_crest_iff : (nodeConfigAt b).role = .crest ↔ b 5 = 1 := by
  unfold nodeConfigAt
  by_cases h : b 5 = 1 <;> simp [h]

/-- R164: a leg end that holds names a track. -/
theorem legEndAt_eq_track {yard node x n : Nat} (h : LegEndHolds yard node x) (he : legEndAt node x = .track n) :
    1 ≤ n ∧ n ≤ 63 := by
  unfold legEndAt at he
  obtain ⟨rfl, hx⟩ | ⟨hpos, _⟩ := h
  · exact LegEnd.track.inj he ▸ hx
  · rw [if_neg (Nat.ne_of_gt hpos)] at he
    exact nomatch he

/-- R164: a leg end that holds names a slot of a node that is not the yard computer. -/
theorem legEndAt_eq_slot {yard node x n m : Nat} (h : LegEndHolds yard node x) (he : legEndAt node x = .slot n m) :
    1 ≤ n ∧ n ≤ 62 ∧ n ≠ yard ∧ m ≤ 3 := by
  unfold legEndAt at he
  obtain ⟨rfl, _⟩ | ⟨hpos, hends⟩ := h
  · exact nomatch he
  · rw [if_neg (Nat.ne_of_gt hpos)] at he
    obtain ⟨rfl, rfl⟩ := LegEnd.slot.inj he
    exact ⟨hpos, hends⟩

/-- R164: both leg ends of a slot record that holds. -/
theorem SlotRecordHolds.legEnd {o : Nat} {crestFeed : Prop} (h : SlotRecordHolds b o crestFeed) (leg : Leg) :
    ∃ node x, LegEndHolds (b 7) node x ∧ (slotConfigAt b o).legEnd leg = legEndAt node x := by
  obtain ⟨_, _, _, _, _, _, _, _, _, _, _, hnormal, hreverse, _⟩ := h
  cases leg
  case normal => exact ⟨_, _, hnormal, rfl⟩
  case reverse => exact ⟨_, _, hreverse, rfl⟩

theorem SlotRecordHolds.track {o : Nat} {crestFeed : Prop} (h : SlotRecordHolds b o crestFeed) (leg : Leg) (n : Nat)
    (he : (slotConfigAt b o).legEnd leg = .track n) : 1 ≤ n ∧ n ≤ 63 := by
  obtain ⟨_, _, hends, heq⟩ := h.legEnd leg
  exact legEndAt_eq_track hends (heq ▸ he)

theorem SlotRecordHolds.slot {o : Nat} {crestFeed : Prop} (h : SlotRecordHolds b o crestFeed) (leg : Leg) (n m : Nat)
    (he : (slotConfigAt b o).legEnd leg = .slot n m) : 1 ≤ n ∧ n ≤ 62 ∧ n ≠ b 7 ∧ m ≤ 3 := by
  obtain ⟨_, _, hends, heq⟩ := h.legEnd leg
  exact legEndAt_eq_slot hends (heq ▸ he)

theorem head?_slotConfigsAt (h : 1 ≤ b 6) : (slotConfigsAt b).head? = some (slotConfigAt b (firstSlotRecord b)) := by
  unfold slotConfigsAt
  rw [List.head?_eq_getElem?, List.getElem?_map, List.getElem?_range h]
  rfl

theorem getElem?_slotConfigsAt {k : Nat} {x : SlotConfig} (h : (slotConfigsAt b)[k]? = some x) :
    k < b 6 ∧ x = slotConfigAt b (firstSlotRecord b + 17 * k) := by
  unfold slotConfigsAt at h
  rw [List.getElem?_map, Option.map_eq_some_iff] at h
  obtain ⟨i, hi, rfl⟩ := h
  obtain ⟨hk, hik⟩ := List.getElem?_eq_some_iff.mp hi
  rw [List.getElem_range] at hik
  exact ⟨List.length_range (n := b 6) ▸ hk, hik ▸ rfl⟩

end

/-- Settles O6: the memory gives a configuration exactly when every check holds of its bytes, and then the one that
they spell. -/
theorem passedImagesMeetEveryCheck : Obligations.PassedImagesMeetEveryCheck := by
  unfold Obligations.PassedImagesMeetEveryCheck
  refine ⟨fun memory c hread => ?_, fun memory h => ⟨_, (readImage_eq_some_iff memory _).mpr ⟨h, rfl⟩⟩⟩
  obtain ⟨⟨hframe, hnode, hcrest, hrecords⟩, rfl⟩ := (readImage_eq_some_iff memory c).mp hread
  have hlength := hframe.length
  obtain ⟨hmarker, hmarker', hformat, hshort, hlong, _, hsum⟩ := hframe
  obtain ⟨hnumber, hnumberLe, hrole, hcount, hcountLe, hyard, hyardLe, hother, hrate, hrateLe, htimeout,
    htimeoutLe, hhold⟩ := hnode
  have hhigh := memoryByte_lt memory (memoryByte memory 2 - 2)
  have hlow := memoryByte_lt memory (memoryByte memory 2 - 1)
  revert hmarker
  generalize memoryByte memory = b at *
  intro hmarker
  have himageSum : (nodeConfigAt b).imageSum.toNat = 256 * b (b 2 - 2) + b (b 2 - 1) := Nat.mod_eq_of_lt (by omega)
  refine ⟨hmarker, hmarker', hformat, hshort, hlong, hsum, himageSum, rfl, hnumber, hnumberLe, rfl, hcount, hcountLe,
    by simp [nodeConfigAt, slotConfigsAt], rfl, hyard, hyardLe, hother, ?_, rfl, ?_, ?_, ?_, ?_, ?_⟩
  · obtain h | h : b 8 = 1 ∨ b 8 = 2 := by omega
    · exact Or.inl ⟨h, if_pos h⟩
    · exact Or.inr ⟨h, if_neg (by omega)⟩
  · exact Nat.mul_le_mul_left 10 htimeout
  · exact Nat.mul_le_mul_left 10 htimeoutLe
  · obtain h | h : b 10 = 0 ∨ b 10 = 1 := by omega
    · exact Or.inl ⟨h, decide_eq_false (by omega)⟩
    · exact Or.inr ⟨h, decide_eq_true h⟩
  · obtain h | h : b 5 = 0 ∨ b 5 = 1 := by omega
    · have hne : b 5 ≠ 1 := by omega
      have hfirst : firstSlotRecord b = 11 := if_neg hne
      exact Or.inl ⟨h, if_neg hne, if_neg hne, by show b 2 = 13 + 17 * b 6; omega⟩
    · have hfirst : firstSlotRecord b = 29 + b 12 := if_pos h
      obtain ⟨hreject, hrejectLe, hreachFirst, hreachLast, hrosterLe, hroster, hdistinct⟩ := hcrest h
      obtain ⟨hnumbers, hnodup⟩ := (rosterHolds_iff_forall ..).mp
        ((rosterHolds_iff b (b 4) (b 7) (b 12)).mpr ⟨hroster, hdistinct⟩)
      refine Or.inr ⟨h, if_pos h, by show b 2 = 31 + b 12 + 17 * b 6; omega, crestConfigAt b, if_pos h, rfl, hreject,
        hrejectLe, ⟨_, head?_slotConfigsAt hcount, hreachFirst, hreachLast⟩, rfl, ?_, hnodup, hnumbers, rfl⟩
      exact (List.length_map _).trans_le (List.length_range.trans_le hrosterLe)
  · intro k x hx
    obtain ⟨hk, rfl⟩ := getElem?_slotConfigsAt hx
    have hoffset : (if (nodeConfigAt b).role = .crest then 29 + b 12 else 11) = firstSlotRecord b :=
      if_congr role_nodeConfigAt_eq_crest_iff rfl rfl
    have hrecord := hrecords k hk
    rw [hoffset]
    have htrack := hrecord.track
    have hslot := hrecord.slot
    obtain ⟨hfirst, hfirstLe, hlast, hlastLe, hsplit, hsplitLe, hstray, hfeedNode, hfeed, hfeedSlot, hfeedLeg, hnormal,
      hreverse, hthrow, hthrowLe, hretries, hgap, hgapLe, hstall, hstallLe, hoverdue, hoverdueLe, hpressure,
      hpressureLe⟩ := hrecord
    exact ⟨rfl, rfl, rfl, hfirst, hsplit, hsplitLe, hlastLe, legCode_legAt hstray, legCode_legAt hfeedLeg, rfl,
      hfeedNode, fun hz => (hfeed hz).imp_right role_nodeConfigAt_eq_crest_iff.mpr, rfl, hfeedSlot, hnormal, hreverse,
      rfl, rfl, rfl, rfl, htrack, hslot, rfl, Nat.mul_le_mul_left 50 hthrow, Nat.mul_le_mul_left 50 hthrowLe, rfl,
      hretries, rfl, Nat.mul_le_mul_left 10 hgap, Nat.mul_le_mul_left 10 hgapLe, rfl,
      Nat.mul_le_mul_left 1000 hstall, Nat.mul_le_mul_left 1000 hstallLe, rfl, Nat.mul_le_mul_left 1000 hoverdue,
      Nat.mul_le_mul_left 1000 hoverdueLe, rfl, hpressure, hpressureLe⟩

end Sys2Proof.Machine
end
